-- ==== Sys2Proof/Word.lean ====
section
/-! DEFINITION. The words of the TZ416: what the manual counts in bits. -/

namespace Sys2Proof

/-- One byte of a frame (R155). -/
abbrev Byte := BitVec 8

/-- A run time: a 32-bit count of tenths that wraps (R1). -/
abbrev RunTime := BitVec 32

/-- An order stamp (R98) or a start sequence number (R125): a 32-bit count that wraps. -/
abbrev Stamp := BitVec 32

/-- A zone address or a target mask: 12 bits (R96). -/
abbrev Address := BitVec 12

/-- clamp(x, a, b) of the manual's conventions ("Clamping" in 00_scope.md). -/
def clampInt (x a b : Int) : Int := if x < a then a else if b < x then b else x

/-- clamp(x, a, b) on counts. -/
def clampNat (x a b : Nat) : Nat := if x < a then a else if b < x then b else x

/-- Whether the moment `deadline` has been reached at `now`, judged modulo 2^32 (R1: no interval
exceeds 36,000 tenths, so the nearer side of the circle is meant). -/
def reached (deadline now : RunTime) : Bool := decide ((now - deadline).toNat < 2147483648)

/-- How far `stamp` lies behind the counter `next`, modulo 2^32 (R98, R125): farther is older. -/
def ageOf (next stamp : Stamp) : Nat := (next - stamp).toNat

end Sys2Proof
end

