-- ==== Sys2Proof/Config.lean ====
section
/-! DEFINITION. The part's fixed capacities and codes (R164, chapter capacities). The manual leaves no
value to an implementation, so there is no free value here. -/

namespace Sys2Proof.Config

/-- Seconds of a service day (Station time, 00_scope.md). -/
abbrev daySeconds : Nat := 86400
/-- Greatest expected time of the extended range (R32). -/
abbrev timeCeiling : Nat := 100799
/-- Calls the table holds (R14). -/
abbrev maxCalls : Nat := 512
/-- Cue plans (R42). -/
abbrev maxPlans : Nat := 16
/-- Cues of a plan, and fired marks of a call (R42). -/
abbrev maxCues : Nat := 6
/-- Phrase ids run from 0 to one below this (R73). -/
abbrev maxPhrases : Nat := 2048
/-- Templates (R75). -/
abbrev maxTemplates : Nat := 64
/-- Announcement slots (R84). -/
abbrev maxSlots : Nat := 64
/-- Zones (R92). -/
abbrev maxZones : Nat := 40
/-- Groups (R94). -/
abbrev maxGroups : Nat := 16
/-- Placements of one zone queue (R99). -/
abbrev maxPlacements : Nat := 12
/-- Playout channels (R125). -/
abbrev maxChannels : Nat := 8
/-- Field inputs (R55). -/
abbrev maxInputs : Nat := 32
/-- Evacuation sources (R111). -/
abbrev maxSources : Nat := 8
/-- Notices of the outbox (R161). -/
abbrev maxNotices : Nat := 32
/-- Frames of the request queue (R158). -/
abbrev maxRequests : Nat := 4
/-- The lost count saturates here (R162). -/
abbrev maxLost : Nat := 255
/-- Family code, part code and revision of IDENTIFY (R164). -/
abbrev familyCode : Nat := 0x5A
/-- Part code of IDENTIFY (R164). -/
abbrev partCode : Nat := 416
/-- Revision of IDENTIFY and RESTARTED (R164, R166). -/
abbrev revision : Nat := 3
/-- Reserved phrase ids: the minutes, hours and on-the-hour words (R73). -/
abbrev minutesWord : Nat := 100
/-- The hours word (R73). -/
abbrev hoursWord : Nat := 101
/-- The on-the-hour word (R73). -/
abbrev onTheHourWord : Nat := 102
/-- Tenths the station must stay quiet before the alert hold expires (R151). -/
abbrev alertHoldTenths : Nat := 600
/-- Tenths a lamp pulse lasts (R140). -/
abbrev pulseTenths : Nat := 30
/-- Tenths within which a composer check completes (R88). -/
abbrev checkTenths : Nat := 5
/-- Tenths between two ambient sampling instants (R108). -/
abbrev ambientTenths : Nat := 10
/-- How many rounds `settle` may take. The rounds of one settling never come near it (log entry 14). -/
abbrev settleFuel : Nat := 8192

end Sys2Proof.Config
end

