-- ==== Sys2Proof/Syntax.lean ====
section
/-! DEFINITION. The commands of the TZ416: one constructor for each row of the table of operations and
events. A request row carries the tag of its frame and the fields of its body as R167 decodes them,
before any range is judged; an event row carries what the world or the order of events decides. -/

namespace Sys2Proof

/-- One byte arriving on the receive line, with whether its stop bit was found low (R155). -/
structure RxByte where
  value : Byte
  framingError : Bool
deriving DecidableEq, Repr

/-- The body of a handed request: a length its kind does not allow, or its decoded fields (R158). -/
inductive Body (α : Type) where
  | malformed
  | fields (a : α)
deriving DecidableEq, Repr

/-- A token as it travels: its code and its parameter (R168). -/
structure RawToken where
  code : Nat
  param : Nat
deriving DecidableEq, Repr

/-- LINK_CONFIG (R165). -/
structure LinkConfigReq where
  n : Nat
  k : Nat
deriving DecidableEq, Repr

/-- DAY_CONFIG (R11). -/
structure DayConfigReq where
  offset : Nat
  nightStart : Option Nat
  openTime : Option Nat
  matchWindow : Nat
deriving DecidableEq, Repr

/-- CALL_LOAD (R15): enumerated fields are codes, SA and SD both travel, absent phrases are `none`. -/
structure CallLoadReq where
  id : Nat
  dayTag : Nat
  kind : Nat
  zone : Nat
  sa : Nat
  sd : Nat
  oa : Nat
  dest : Option Nat
  origin : Option Nat
  cls : Option Nat
  plan : Nat
  calling : List Nat
deriving DecidableEq, Repr

/-- CALL_DELAY (R26). -/
structure CallDelayReq where
  id : Nat
  arrival : Option Int
  departure : Option Int
deriving DecidableEq, Repr

/-- CALL_PLATFORM (R52). -/
structure CallPlatformReq where
  id : Nat
  zone : Nat
deriving DecidableEq, Repr

/-- CALL_REPORT (R27). -/
structure CallReportReq where
  id : Nat
  stage : Nat
  time : Nat
deriving DecidableEq, Repr

/-- One cue of PLAN_SET as it travels (11_message_layouts.md, "The cue plan"). -/
structure RawCue where
  anchor : Nat
  offset : Int
  template : Nat
  priority : Nat
  targetKind : Nat
  address : Nat
  mask : Nat
  repeats : Nat
  interval : Nat
  expiry : Nat
  late : Nat
deriving DecidableEq, Repr

/-- PLAN_SET (R42). -/
structure PlanSetReq where
  plan : Nat
  threshold : Nat
  cues : List RawCue
deriving DecidableEq, Repr

/-- The function code of INPUT_CONFIG with its parameters (R61). -/
inductive RawFunction where
  | general
  | trainDetect (zone : Nat)
  | dispatch (zone : Nat)
  | platformClose (zone : Nat)
  | firePanel (address mask template interval : Nat)
  | unknown (code : Nat)
deriving DecidableEq, Repr

/-- INPUT_CONFIG (R61). -/
structure InputConfigReq where
  input : Nat
  polarity : Nat
  sense : Nat
  debounce : Nat
  function : RawFunction
  notice : Bool
  wake : Bool
deriving DecidableEq, Repr

/-- One entry of PHRASE_SET (R74). -/
structure PhraseReq where
  id : Nat
  duration : Nat
  location : Nat
deriving DecidableEq, Repr

/-- TEMPLATE_SET (R75). -/
structure TemplateSetReq where
  template : Nat
  tokens : List RawToken
deriving DecidableEq, Repr

/-- The header fields that ANNOUNCE and COMPOSE_END share (R80, R88). -/
structure HeaderReq where
  priority : Nat
  address : Nat
  mask : Nat
  chime : Option Nat
  repeats : Nat
  interval : Nat
  latestStart : Option Int
  call : Option Nat
deriving DecidableEq, Repr

/-- ANNOUNCE (R80). -/
structure AnnounceReq where
  header : HeaderReq
  tokens : List RawToken
deriving DecidableEq, Repr

/-- STORE_READ (R90). -/
structure StoreReadReq where
  selector : Nat
  value : Nat
deriving DecidableEq, Repr

/-- ZONE_CONFIG (R92). -/
structure ZoneConfigReq where
  zone : Nat
  enabled : Bool
  address : Nat
  kind : Nat
  name : Option Nat
  g0 : Int
  gmin : Int
  gmax : Int
  nref : Nat
  slope : Nat
  lampMode : Nat
  lampThreshold : Nat
deriving DecidableEq, Repr

/-- GROUP_SET (R94): the select set and the value set. -/
structure GroupSetReq where
  select : BitVec 16
  value : BitVec 16
deriving DecidableEq, Repr

/-- ZONE_STATE (R107). -/
structure ZoneStateReq where
  zone : Nat
  state : Nat
deriving DecidableEq, Repr

/-- EVAC_START (R113). -/
structure EvacStartReq where
  address : Nat
  mask : Nat
  template : Nat
  interval : Nat
deriving DecidableEq, Repr

/-- CHANNEL_READ (R143, R169): `none` asks for all channels. -/
structure ChannelReadReq where
  channel : Option Nat
  sectionCode : Nat
  start : Nat
deriving DecidableEq, Repr

/-- MODE_SET (R145). -/
structure ModeSetReq where
  mode : Nat
  warmUp : Nat
deriving DecidableEq, Repr

/-- The order in which TTU, ZRT and SMC take one second of station time: R3 lets it be any. -/
inductive DeliveryOrder where
  | ttuZrtSmc
  | ttuSmcZrt
  | zrtTtuSmc
  | zrtSmcTtu
  | smcTtuZrt
  | smcZrtTtu
deriving DecidableEq, Repr

/-- An event of run time that may fall due at the tenth of a second of station time, and be taken before that
second: the rules leave the order of the two open (log entry 9). -/
inductive TimedEvent where
  | composeCheck
  | phraseEnd (channel : Nat)
  | gapEnd (channel : Nat)
  | restEnd (zone : Nat) (announcement : Nat)
  | pulseEnd (zone : Nat)
  | warmUpEnd
  | holdExpiry
  | sample (readings : List Int)
deriving DecidableEq, Repr

/-- The order within the tenth of a second of station time: the events of run time taken before the second (log
entry 9), and then TTU, ZRT and SMC (log entry 10). -/
structure SecondOrder where
  early : List TimedEvent
  blocks : DeliveryOrder
deriving DecidableEq, Repr

/-- The commands: one constructor for each row of spec/opcode_table.json, in the table's order. -/
inductive Instr where
  | powerOn
  | resetAssert
  | resetRelease
  | frameReceived (bytes : List RxByte)
  | interByteTimeout
  | unknownKind (tag : Byte) (kind : Nat)
  | frameTransmitted
  | identify (tag : Byte) (body : Body Unit)
  | statusRead (tag : Byte) (body : Body Unit)
  | restart (tag : Byte) (body : Body Unit)
  | linkConfig (tag : Byte) (body : Body LinkConfigReq)
  | noticeMask (tag : Byte) (body : Body (BitVec 16))
  | clockHold (tag : Byte) (body : Body Unit)
  | clockSet (tag : Byte) (body : Body Nat)
  | clockRelease (tag : Byte) (body : Body Unit)
  | clockRead (tag : Byte) (body : Body Unit)
  | dayConfig (tag : Byte) (body : Body DayConfigReq)
  | callLoad (tag : Byte) (body : Body CallLoadReq)
  | callDelete (tag : Byte) (body : Body Nat)
  | callDelay (tag : Byte) (body : Body CallDelayReq)
  | callPlatform (tag : Byte) (body : Body CallPlatformReq)
  | callCancel (tag : Byte) (body : Body Nat)
  | callReport (tag : Byte) (body : Body CallReportReq)
  | callRead (tag : Byte) (body : Body Nat)
  | callList (tag : Byte) (body : Body Nat)
  | planSet (tag : Byte) (body : Body PlanSetReq)
  | inputConfig (tag : Byte) (body : Body InputConfigReq)
  | inputRead (tag : Byte) (body : Body (Option Nat))
  | inputClear (tag : Byte) (body : Body (BitVec 32))
  | phraseSet (tag : Byte) (body : Body (List PhraseReq))
  | templateSet (tag : Byte) (body : Body TemplateSetReq)
  | announce (tag : Byte) (body : Body AnnounceReq)
  | composeBegin (tag : Byte) (body : Body Bool)
  | composePart (tag : Byte) (body : Body (List RawToken))
  | composeEnd (tag : Byte) (body : Body HeaderReq)
  | withdraw (tag : Byte) (body : Body Nat)
  | storeRead (tag : Byte) (body : Body StoreReadReq)
  | zoneConfig (tag : Byte) (body : Body ZoneConfigReq)
  | groupSet (tag : Byte) (body : Body GroupSetReq)
  | zoneState (tag : Byte) (body : Body ZoneStateReq)
  | zoneRead (tag : Byte) (body : Body (Option Nat))
  | evacStart (tag : Byte) (body : Body EvacStartReq)
  | evacClear (tag : Byte) (body : Body Nat)
  | playoutConfig (tag : Byte) (body : Body Nat)
  | channelRead (tag : Byte) (body : Body ChannelReadReq)
  | modeSet (tag : Byte) (body : Body ModeSetReq)
  | secondOfStationTime (order : SecondOrder)
  | debounceExpiry (input : Nat)
  | composeCheckCompletion
  | restEnd (zone : Nat) (announcement : Nat)
  | ambientSample (readings : List Int)
  | phraseCompletion (channel : Nat)
  | gapEnd (channel : Nat)
  | lampPulseEnd (zone : Nat)
  | warmUpEnd
  | alertHoldExpiry
  | tenthOfRunTime
  | inputSampling (levels : BitVec 32)
deriving DecidableEq, Repr

end Sys2Proof
end

