-- ==== Sys2Proof/Decode.lean ====
section
/-! DEFINITION. Decoding of the table's words. Every row of spec/opcode_table.json has an empty list of
fields and no fixed bits: no row gives bits, so no word of the table spells a command. The frames that do
spell the requests are read by `Sys2Proof.Machine.decodeRequest`. -/

namespace Sys2Proof

/-- The command that a word spells by the table's bits: the table gives none. -/
def decodeTableWord (_nbits _w : Nat) : Option Instr := none

end Sys2Proof
end

