-- ==== Sys2Proof/Machine/Types.lean ====
section
/-! DEFINITION. The records of the eight blocks (00_scope.md, "Block overview"): plain data, one
structure for each record the chapters describe, under the manual's names. -/

namespace Sys2Proof.Machine

/-! ### TTU: calls and cue plans -/

/-- Day tag (02, "The call record"). -/
inductive DayTag where
  | current
  | next
deriving DecidableEq, Repr

/-- Call kind (02, "Calls and their kinds"). -/
inductive CallKind where
  | arrival
  | departure
  | turn
deriving DecidableEq, Repr

/-- Call state (R21). -/
inductive CallState where
  | planned
  | atPlatform
  | complete
  | cancelled
  | lapsed
deriving DecidableEq, Repr

/-- Fired mark (R46). -/
inductive Mark where
  | unfired
  | fired
  | missed
deriving DecidableEq, Repr

/-- Where an actual time came from (R22). -/
inductive TimeSource where
  | detected
  | reported
deriving DecidableEq, Repr

/-- A capture: the service time of an event, with the held marker (R4, R56). -/
structure Capture where
  time : Nat
  held : Bool
deriving DecidableEq, Repr

/-- AA or AD: a service time with its source and held marker (02, "The call record"). -/
structure Actual where
  time : Nat
  source : TimeSource
  held : Bool
deriving DecidableEq, Repr

/-- The call record (02, "The call record"). -/
structure Call where
  id : Nat
  day : DayTag
  kind : CallKind
  zone : Nat
  sa : Option Nat
  sd : Option Nat
  oa : Nat
  da : Int
  dd : Int
  aa : Option Actual
  ad : Option Actual
  ea : Option Nat
  ed : Option Nat
  ec : Option Nat
  dest : Option Nat
  origin : Option Nat
  cls : Option Nat
  calling : List Nat
  plan : Nat
  marks : List Mark
  state : CallState
  unconfirmed : Bool
  changed : Bool
  previous : Option Nat
  partner : Option Nat
  clampArrival : Bool
  clampDeparture : Bool
  ceiling : Bool
deriving DecidableEq, Repr

/-- What a cue is measured from or fires on (R44, R48). -/
inductive Anchor where
  | arrival
  | departure
  | dispatch
  | platformChange
  | cancel
deriving DecidableEq, Repr

/-- How a cue's target is formed (R49). -/
inductive TargetKind where
  | platform
  | platformPlus
  | fixed
deriving DecidableEq, Repr

/-- One cue of a plan (03, "Cue plans"). -/
structure Cue where
  anchor : Anchor
  offset : Int
  template : Nat
  priority : Nat
  targetKind : TargetKind
  address : Address
  mask : Address
  repeats : Nat
  interval : Nat
  expiry : Nat
  late : Nat
deriving DecidableEq, Repr

/-- A cue plan (R42). -/
structure Plan where
  threshold : Nat
  cues : List Cue
deriving DecidableEq, Repr

/-- What TTU owns: the call table in table order (R14) and the 16 plans (R42). -/
structure Ttu where
  calls : List Call
  plans : List Plan
deriving DecidableEq, Repr

/-! ### CLK -/

/-- The clock's state (01, "The clock's state"). -/
structure Clock where
  runTime : RunTime
  prescaler : Nat
  service : Nat
  held : Bool
  unset : Bool
  day : BitVec 16
  offset : Nat
  nightStart : Option Nat
  openTime : Option Nat
  matchWindow : Nat
deriving DecidableEq, Repr

/-! ### FIU: field inputs -/

/-- Input polarity (04, "The input record"). -/
inductive Polarity where
  | activeHigh
  | activeLow
deriving DecidableEq, Repr

/-- Input sense (R57). -/
inductive Sense where
  | edge
  | level
deriving DecidableEq, Repr

/-- Input function with its parameters (04, "The input record"). -/
inductive InputFunction where
  | general
  | trainDetect (zone : Nat)
  | dispatch (zone : Nat)
  | platformClose (zone : Nat)
  | firePanel (address mask : Address) (template interval : Nat)
deriving DecidableEq, Repr

/-- A debounce in progress: the candidate level, the sampling instants passed since its start, and
whether it has ended at the sample just taken, its expiry still to be taken (R55, R56). -/
structure Debounce where
  candidate : Bool
  samples : Nat
  due : Bool
deriving DecidableEq, Repr

/-- The input record (04, "The input record"); `stable` is true for high. -/
structure Input where
  polarity : Polarity
  sense : Sense
  debounceMs : Nat
  function : InputFunction
  notice : Bool
  wake : Bool
  stable : Bool
  debounce : Option Debounce
  pending : Bool
deriving DecidableEq, Repr

/-- What FIU owns; `firstSample` says that the next sample is the first after a reset (R72). -/
structure Fiu where
  inputs : List Input
  firstSample : Bool
deriving DecidableEq, Repr

/-! ### ASC: phrases, templates, the store and the composer -/

/-- A token of announcement content (05, "Templates and tokens"). -/
inductive Token where
  | phrase (id : Nat)
  | number (n : Nat)
  | time (minute : Nat)
  | dest
  | origin
  | cls
  | calling
  | platform
  | oldPlatform
  | schedTime
  | expTime
  | delay
  | ifDelayed
  | ifChanged
  | endIf
deriving DecidableEq, Repr

/-- An entry of the phrase directory (R73). -/
structure Phrase where
  id : Nat
  duration : Nat
  location : Nat
deriving DecidableEq, Repr

/-- Repeats of an announcement, and repeats remaining of a placement (05, 06). -/
inductive Repeats where
  | count (n : Nat)
  | continuous
deriving DecidableEq, Repr

/-- Where an announcement comes from (05, "The announcement slot"). -/
inductive Origin where
  | cue (call position : Nat) (anchor : Anchor)
  | host (tag : Byte)
  | evac (source : Nat)
deriving DecidableEq, Repr

/-- What an announcement speaks (05, "The announcement slot"). -/
inductive Content where
  | template (n : Nat)
  | tokens (ts : List Token)
deriving DecidableEq, Repr

/-- One address and mask pair of a target (R96). -/
structure Pair where
  address : Address
  mask : Address
deriving DecidableEq, Repr

/-- The announcement slot (05, "The announcement slot"). Its placement and run counts are read from the
queues and the channels that hold them (`placementCount`, `runCount`), their one home. -/
structure Slot where
  id : Nat
  seq : Nat
  priority : Nat
  origin : Origin
  content : Content
  call : Option Nat
  chime : Option Nat
  repeats : Repeats
  interval : Nat
  latestStart : Option Int
  target : List Pair
  withdrawn : Bool
deriving DecidableEq, Repr

/-- The header a COMPOSE_END leaves for its check (R88). -/
structure Header where
  priority : Nat
  target : Pair
  chime : Option Nat
  repeats : Nat
  interval : Nat
  latestStart : Option Int
  call : Option Nat
deriving DecidableEq, Repr

/-- The composer (05, "The composer"): in CHECKING it also keeps the header and the tag of the
COMPOSE_END, and the run time at which it was taken (R88). -/
inductive Composer where
  | idle
  | filling (buffer : List Token)
  | closed (buffer : List Token)
  | checking (buffer : List Token) (header : Header) (tag : Byte) (start : RunTime)
deriving DecidableEq, Repr

/-- What ASC owns: the directory by ascending phrase id, the 64 templates, the slots in use in order of
creation, the counter of ids (R82), the count of creations, and the composer. -/
structure Asc where
  directory : List Phrase
  templates : List (List Token)
  slots : List Slot
  idCounter : Nat
  created : Nat
  composer : Composer
deriving DecidableEq, Repr

/-! ### ZRT: zones, queues and evacuation sources -/

/-- Zone kind (06, "The zone record"). -/
inductive ZoneKind where
  | platform
  | concourse
  | other
deriving DecidableEq, Repr

/-- A zone's base state (R107). -/
inductive Base where
  | opn
  | closed
  | isolated
deriving DecidableEq, Repr

/-- A zone's effective state (06, "The zone record"). -/
inductive Effective where
  | opn
  | closed
  | isolated
  | evacuate
deriving DecidableEq, Repr

/-- Lamp mode (R140). -/
inductive LampMode where
  | off
  | steady
  | pulsed
deriving DecidableEq, Repr

/-- Condition of a placement (06, "Placements and the queue"). -/
inductive Condition where
  | waiting
  | held
  | resting (notBefore : RunTime)
deriving DecidableEq, Repr

/-- A placement (06, "Placements and the queue"). -/
structure Placement where
  announcement : Nat
  priority : Nat
  stamp : Stamp
  condition : Condition
  repeats : Repeats
  interrupted : Nat
deriving DecidableEq, Repr

/-- The zone record (06, "The zone record"). The effective state and the attached channel are derived
(`effective`, `attachedChannel`); `pulseEnd` is the lamp pulse in progress (R140). -/
structure Zone where
  enabled : Bool
  address : Address
  kind : ZoneKind
  name : Option Nat
  base : Base
  covering : Option Nat
  queue : List Placement
  g0 : Int
  gmin : Int
  gmax : Int
  nref : Nat
  slope : Nat
  window : List Nat
  lampMode : LampMode
  lampThreshold : Nat
  pulseEnd : Option RunTime
deriving DecidableEq, Repr

/-- State of an evacuation source (07, "The evacuation source table"). -/
inductive SourceState where
  | free
  | inactive
  | active
deriving DecidableEq, Repr

/-- Kind of an evacuation source (07). -/
inductive SourceKind where
  | host
  | input
deriving DecidableEq, Repr

/-- Voice of a source (R120); `none` is the voice of an entry that is not ACTIVE (R111). -/
inductive Voice where
  | none
  | voiced (announcement : Nat)
  | awaitingSlot
  | silent
deriving DecidableEq, Repr

/-- The key of a source (R111). -/
structure SourceKey where
  kind : SourceKind
  target : Pair
  template : Nat
  interval : Nat
deriving DecidableEq, Repr

/-- An entry of the evacuation source table (07). -/
structure Source where
  state : SourceState
  key : SourceKey
  latched : Bool
  voice : Voice
deriving DecidableEq, Repr

/-- What ZRT owns. `ambientTick` counts the tenths towards the next sampling instant and `ambientDue`
says that one has come and its sample has not been taken (R108). -/
structure Zrt where
  zones : List Zone
  groups : BitVec 16
  stampCounter : Stamp
  ambientTick : Nat
  ambientDue : Bool
  sources : List Source
deriving DecidableEq, Repr

/-! ### PLE: channels -/

/-- Outcome of a run or of a zone's part in it (R130). -/
inductive RunOutcome where
  | completed
  | truncated
  | cut
  | empty
deriving DecidableEq, Repr

/-- Fate of a placement at its zone's leaving (R132). -/
inductive Fate where
  | usedUp
  | resting
  | restored
  | dropped
  | discarded
deriving DecidableEq, Repr

/-- Cause of a truncation mark (R128). -/
inductive TruncateCause where
  | withdrawal
  | close
deriving DecidableEq, Repr

/-- Cause of a cut (R129). -/
inductive CutCause where
  | zoneSeizure
  | channelSeizure
  | evacuation
  | isolation
  | groupInvalid
deriving DecidableEq, Repr

/-- What a channel is doing now (08, "Channels"). -/
inductive Phase where
  | phrase
  | gap
deriving DecidableEq, Repr

/-- An attached zone: its gain, its truncation mark and the placement it left its queue with (08). -/
structure Attached where
  zone : Nat
  gain : Int
  mark : Option TruncateCause
  placement : Placement
deriving DecidableEq, Repr

/-- The entry of a zone that has left the run (08, "Channels"). -/
structure Left where
  zone : Nat
  outcome : RunOutcome
  fate : Fate
deriving DecidableEq, Repr

/-- A run (08, "Channels"): `zones` by ascending zone id, `left` by ascending zone id. -/
structure Run where
  announcement : Nat
  priority : Nat
  seq : Stamp
  start : RunTime
  phrases : List Phrase
  position : Nat
  phase : Phase
  phaseEnd : RunTime
  skipped : Nat
  truncated : Bool
  zones : List Attached
  left : List Left
deriving DecidableEq, Repr

/-- What PLE owns: the eight channels (`none` is IDLE), the start sequence number of the next run (R125; log
entry 44) and the gap setting. -/
structure Ple where
  channels : List (Option Run)
  nextSeq : Stamp
  gap : Nat
deriving DecidableEq, Repr

/-! ### SMC: the station mode -/

/-- The target of a warm-up (R150). -/
inductive Target where
  | opn
  | night
  | nightAlert
deriving DecidableEq, Repr

/-- The station mode (09, "The modes"): WARMING with its target and its end, NIGHT_ALERT with the run
time at which the alert hold timer started, if it runs. -/
inductive Mode where
  | opn
  | winding
  | night
  | warming (target : Target) (ends : RunTime)
  | nightAlert (holdStart : Option RunTime)
deriving DecidableEq, Repr

/-- What SMC owns: the mode, the warm-up setting in seconds and the amplifier supply line. -/
structure Smc where
  mode : Mode
  warmUp : Nat
  supply : Bool
deriving DecidableEq, Repr

/-! ### LNK: frames, replies and notices -/

/-- The refusal codes (R159; numbers in 11_message_layouts.md). -/
inductive Code where
  | malformed
  | unknownKind
  | outOfRange
  | notFound
  | duplicate
  | tableFull
  | busy
  | wrongState
  | clockNotHeld
  | clockNotSet
  | inputActive
  | composerInUse
  | missingPhrase
  | notPlatform
  | platformOccupied
  | noTarget
  | storeFull
deriving DecidableEq, Repr

/-- A request frame of the request queue, and whether its reply has been generated (R158). -/
structure Request where
  kind : Nat
  tag : Byte
  body : List Byte
  answered : Bool
deriving DecidableEq, Repr

/-- What the end of a reply's transmission brings (R165, R166). -/
inductive AtEnd where
  | nothing
  | setRate (n k : Nat)
  | warmReset
deriving DecidableEq, Repr

/-- What an owner answers to a request (R159): accepted, with its clamp indicator and accepted body, or
refused, with its code and detail byte. -/
inductive Result where
  | accepted (clamped : Bool) (body : List Byte) (atEnd : AtEnd)
  | refused (code : Code) (detail : Nat)
deriving DecidableEq, Repr

/-- A reply: its request's kind and tag with the result (R159). -/
structure Reply where
  kind : Nat
  tag : Byte
  result : Result
deriving DecidableEq, Repr

/-- Cause of a restart (R166). -/
inductive RestartCause where
  | powerOn
  | resetLine
  | restartRequest
deriving DecidableEq, Repr

/-- Fault kinds of a frame (R157). -/
inductive LinkFault where
  | framing
  | length
  | timeout
  | check
  | direction
  | overrun
deriving DecidableEq, Repr

/-- Kinds of CLOCK_EVENT (R12). -/
inductive ClockEventKind where
  | held
  | released
  | set
  | rollover
deriving DecidableEq, Repr

/-- Causes of a MODE_CHANGE (R152). -/
inductive ModeCause where
  | request
  | nightTime
  | openTime
  | wake (input : Nat)
  | emergency
  | woundDown
  | warmed
  | holdExpired
  | reset
deriving DecidableEq, Repr

/-- Causes of a CALL_STATE (R21). -/
inductive CallCause where
  | detected
  | reported
  | unconfirmed
  | cancelled
  | lapsed
deriving DecidableEq, Repr

/-- Direction of a PLATFORM_CONFLICT (R41). -/
inductive ConflictDirection where
  | entered
  | left
deriving DecidableEq, Repr

/-- A movement, or the stage of a report (R27, R68). -/
inductive Movement where
  | arrival
  | departure
deriving DecidableEq, Repr

/-- Why a train-detection edge is unmatched (R68). -/
inductive TrainReason where
  | occupied
  | noCandidate
  | notOccupied
deriving DecidableEq, Repr

/-- Why a dispatch edge is unmatched (R70). -/
inductive DispatchReason where
  | noCall
  | notDeparting
deriving DecidableEq, Repr

/-- Drop reasons (R105). -/
inductive DropReason where
  | expired
  | displaced
  | withdrawn
  | abandoned
  | closed
  | isolated
  | groupInvalid
  | night
deriving DecidableEq, Repr

/-- Refusal reasons of a placement (R97). -/
inductive RefuseReason where
  | isolated
  | closed
  | night
  | expired
  | queueFull
deriving DecidableEq, Repr

/-- Events of EVAC_CHANGE (R122). -/
inductive EvacEvent where
  | activated
  | activationFailed
  | cleared
  | voiced
  | silenced
  | reissued
deriving DecidableEq, Repr

/-- Causes of a ZONE_STATE_CHANGE (R106). -/
inductive ZoneCause where
  | request
  | input
  | evacuation
  | group
deriving DecidableEq, Repr

/-- The result of a composer check (R89). -/
inductive ComposeResult where
  | created (announcement placed refused held : Nat)
  | failed (code : Code) (position : Nat)
deriving DecidableEq, Repr

/-- The fields of an EVAC_CHANGE (R122). -/
structure EvacChange where
  source : Option Nat
  key : SourceKey
  event : EvacEvent
  reason : Option Code
  voice : Voice
  covered : Nat
  deferred : Nat
  full : Nat
  isolated : List Nat
deriving DecidableEq, Repr

/-- A notice with its own fields (R160 to R162; 11_message_layouts.md, "Kinds, types and codes"). -/
inductive Notice where
  | restarted (cause : RestartCause)
  | linkFault (fault : LinkFault) (kind : Nat) (tag : Byte)
  | clockEvent (kind : ClockEventKind) (before : Option Nat)
  | modeChange (before after : Mode) (cause : ModeCause)
  | callState (call : Nat) (before after : CallState) (cause : CallCause) (capture : Option Capture)
  | cueFired (call position : Nat) (anchor : Anchor) (trigger : Int) (announcement : Nat) (suppressed : Bool) (zones : Nat)
  | cueMissed (call position : Nat) (trigger : Int) (now : Nat)
  | platformConflict (call zone : Nat) (direction : ConflictDirection) (partner : Nat)
  | trainUnmatched (zone : Nat) (movement : Movement) (capture : Capture) (input : Nat) (reason : TrainReason) (call : Option Nat)
  | dispatchUnmatched (zone : Nat) (capture : Capture) (input : Nat) (reason : DispatchReason) (call : Option Nat)
  | inputEvent (input : Nat) (function : InputFunction) (stable : Bool) (capture : Capture)
  | composeDone (tag : Byte) (result : ComposeResult)
  | announceDropped (call position : Nat) (reason : Code)
  | placementDropped (announcement zone priority : Nat) (condition : Condition) (stamp : Stamp) (reason : DropReason)
  | placementRefused (announcement zone priority : Nat) (reason : RefuseReason)
  | runStarted (channel announcement priority phrases : Nat) (zones : List (Nat × Int)) (seized : Option Nat)
  | runEnded (channel announcement priority : Nat) (outcome : RunOutcome) (started skipped : Nat) (truncated : Bool) (zones : List Left)
  | evacChange (fields : EvacChange)
  | zoneStateChange (zone : Nat) (baseBefore : Base) (effBefore : Effective) (baseAfter : Base) (effAfter : Effective) (cause : ZoneCause)
deriving DecidableEq, Repr

/-- The notice classes (10, "The notice outbox"). -/
inductive NoticeClass where
  | safety
  | link
  | clock
  | mode
  | call
  | cue
  | input
  | compose
  | queue
  | run
  | zone
deriving DecidableEq, Repr

/-- A notice of the outbox with its header: the day number and service time at its generation, and the
lost count it carries (R161). -/
structure NoticeEntry where
  day : BitVec 16
  service : Nat
  lost : Nat
  notice : Notice
deriving DecidableEq, Repr

/-- The frame in transmission (R160). -/
inductive TxFrame where
  | reply (r : Reply)
  | notice (n : NoticeEntry)
deriving DecidableEq, Repr

/-- The receiver (R156): HUNTING, or within a frame with the bytes taken after START. -/
inductive Receiver where
  | hunting
  | inFrame (bytes : List Byte)
deriving DecidableEq, Repr

/-- What LNK owns (10, the state table). `mask` holds one enable for each class, SAFETY in bit 0. -/
structure Lnk where
  n : Nat
  k : Nat
  receiver : Receiver
  queue : List Request
  replies : List Reply
  outbox : List NoticeEntry
  lost : Nat
  mask : BitVec 11
  tx : Option TxFrame
deriving DecidableEq, Repr

/-! ### The lines -/

/-- The levels last stated on the input lines: the 32 field inputs (bit n is input n, 1 for high) and the
40 noise-sense inputs (00, "Signal summary"). -/
structure Pins where
  inputs : BitVec 32
  noise : List Int
deriving DecidableEq, Repr

end Sys2Proof.Machine
end

