-- ==== Sys2Proof/Machine/Bytes.lean ====
section
/-! DEFINITION. The field encodings of 11_message_layouts.md: big-endian counts, two's complement, absent
values, and the codes of the enumerated fields. -/

namespace Sys2Proof.Machine

/-! ### Bytes out -/

/-- A count in `w` bytes, big-endian (00, "Message fields"). -/
def beBytes : Nat → Nat → List Byte
  | 0, _ => []
  | w + 1, n => BitVec.ofNat 8 (n / 256 ^ w) :: beBytes w n

/-- A one-byte field. -/
def u8 (n : Nat) : List Byte := beBytes 1 n
/-- A two-byte field. -/
def u16 (n : Nat) : List Byte := beBytes 2 n
/-- A four-byte field. -/
def u32 (n : Nat) : List Byte := beBytes 4 n
/-- A signed one-byte field, two's complement. -/
def i8 (n : Int) : List Byte := u8 (BitVec.ofInt 8 n).toNat
/-- A signed two-byte field, two's complement. -/
def i16 (n : Int) : List Byte := u16 (BitVec.ofInt 16 n).toNat
/-- A signed four-byte field, two's complement. -/
def i32 (n : Int) : List Byte := u32 (BitVec.ofInt 32 n).toNat
/-- A flag byte: bit 0 (R167). -/
def flag (b : Bool) : List Byte := u8 b.toNat

/-- A time that may be absent (11, "Field encodings"). -/
def optTime (t : Option Nat) : List Byte := u32 (t.getD 0xFFFFFFFF)
/-- A latest start; 0x7FFFFFFF means none. -/
def optLatest (t : Option Int) : List Byte := i32 (t.getD 0x7FFFFFFF)
/-- A phrase id; 0xFFFF means absent. -/
def optPhrase (p : Option Nat) : List Byte := u16 (p.getD 0xFFFF)
/-- A call id; 0 means none. -/
def optCall (c : Option Nat) : List Byte := u16 (c.getD 0)
/-- A zone id, channel number, source number or input number; 0xFF means none. -/
def optNumber (n : Option Nat) : List Byte := u8 (n.getD 0xFF)
/-- A run time (R1). -/
def runTimeBytes (t : RunTime) : List Byte := u32 t.toNat
/-- An order stamp or a start sequence number (R98, R125). -/
def stampBytes (t : Stamp) : List Byte := u32 t.toNat
/-- An address or a mask in the lower 12 bits of two bytes. -/
def addressBytes (a : Address) : List Byte := u16 a.toNat
/-- Repeats; 0xFF for CONTINUOUS. -/
def repeatsBytes : Repeats → List Byte
  | .count n => u8 n
  | .continuous => u8 0xFF
/-- A capture that may be absent: its service time and its marker byte. That an absent one is the absent service time with
marker 0, and takes no presence byte, is the model's choice (log entry 16). -/
def captureBytes (c : Option Capture) : List Byte :=
  optTime (c.map Capture.time) ++ flag ((c.map Capture.held).getD false)

/-! ### Bytes in -/

/-- The count that big-endian bytes spell. -/
def beValue (bs : List Byte) : Nat := bs.foldl (fun n b => n * 256 + b.toNat) 0

/-- The unsigned field of `w` bytes at offset `at'` of a body. -/
def fieldAt (body : List Byte) (at' w : Nat) : Nat := beValue ((body.drop at').take w)

/-- The signed field of `w` bytes at offset `at'`, two's complement. -/
def signedAt (body : List Byte) (at' w : Nat) : Int := (BitVec.ofNat (8 * w) (fieldAt body at' w)).toInt

/-- A flag byte at offset `at'`: bit 0, the other bits ignored (R167). -/
def flagAt (body : List Byte) (at' : Nat) : Bool := fieldAt body at' 1 % 2 == 1

/-- A field with the absent value `none'`. -/
def optAt (body : List Byte) (at' w none' : Nat) : Option Nat :=
  if fieldAt body at' w = none' then none else some (fieldAt body at' w)

/-- `n` items of `size` bytes each from offset `at'`. -/
def itemsAt {α : Type} (body : List Byte) (at' size n : Nat) (read : List Byte → α) : List α :=
  (List.range n).map (fun i => read ((body.drop (at' + size * i)).take size))

/-! ### Codes of the enumerated fields -/

/-- Day tag. -/
def dayCode : DayTag → Nat
  | .current => 1
  | .next => 2
/-- Call kind. -/
def callKindCode : CallKind → Nat
  | .arrival => 1
  | .departure => 2
  | .turn => 3
/-- Call state. -/
def callStateCode : CallState → Nat
  | .planned => 1
  | .atPlatform => 2
  | .complete => 3
  | .cancelled => 4
  | .lapsed => 5
/-- Fired mark. -/
def markCode : Mark → Nat
  | .unfired => 1
  | .fired => 2
  | .missed => 3
/-- Anchor. -/
def anchorCode : Anchor → Nat
  | .arrival => 1
  | .departure => 2
  | .dispatch => 3
  | .platformChange => 4
  | .cancel => 5
/-- Zone kind. -/
def zoneKindCode : ZoneKind → Nat
  | .platform => 1
  | .concourse => 2
  | .other => 3
/-- Zone state: a base state. -/
def baseCode : Base → Nat
  | .opn => 1
  | .closed => 2
  | .isolated => 3
/-- Zone state: an effective state. -/
def effectiveCode : Effective → Nat
  | .opn => 1
  | .closed => 2
  | .isolated => 3
  | .evacuate => 4
/-- Placement condition. -/
def conditionCode : Condition → Nat
  | .waiting => 1
  | .held => 2
  | .resting _ => 3
/-- Station mode. -/
def modeCode : Mode → Nat
  | .opn => 1
  | .winding => 2
  | .night => 3
  | .warming _ _ => 4
  | .nightAlert _ => 5
/-- The warming target as a station mode. -/
def targetCode : Target → Nat
  | .opn => 1
  | .night => 3
  | .nightAlert => 5
/-- The warming target of a mode, if it is WARMING. -/
def targetOf : Mode → Option Target
  | .warming t _ => some t
  | _ => none
/-- An optional warming target after its presence byte (11, "Field encodings"). -/
def optTarget (m : Mode) : List Byte :=
  match targetOf m with
  | some t => flag true ++ u8 (targetCode t)
  | none => flag false ++ u8 0
/-- Drop reason. -/
def dropCode : DropReason → Nat
  | .expired => 1
  | .displaced => 2
  | .withdrawn => 3
  | .abandoned => 4
  | .closed => 5
  | .isolated => 6
  | .groupInvalid => 7
  | .night => 8
/-- Run and zone outcome. -/
def outcomeCode : RunOutcome → Nat
  | .completed => 1
  | .truncated => 2
  | .cut => 3
  | .empty => 4
/-- Input polarity. -/
def polarityCode : Polarity → Nat
  | .activeHigh => 1
  | .activeLow => 2
/-- Input sense. -/
def senseCode : Sense → Nat
  | .edge => 1
  | .level => 2
/-- Input function. -/
def functionCode : InputFunction → Nat
  | .general => 1
  | .trainDetect _ => 2
  | .dispatch _ => 3
  | .platformClose _ => 4
  | .firePanel .. => 5
/-- Lamp mode. -/
def lampCode : LampMode → Nat
  | .off => 1
  | .steady => 2
  | .pulsed => 3
/-- Movement. -/
def movementCode : Movement → Nat
  | .arrival => 1
  | .departure => 2
/-- Placement refusal reason. -/
def refuseCode : RefuseReason → Nat
  | .isolated => 1
  | .closed => 2
  | .night => 3
  | .expired => 4
  | .queueFull => 5
/-- Placement fate. -/
def fateCode : Fate → Nat
  | .usedUp => 1
  | .resting => 2
  | .restored => 3
  | .dropped => 4
  | .discarded => 5
/-- Clock event kind. -/
def clockEventCode : ClockEventKind → Nat
  | .held => 1
  | .released => 2
  | .set => 3
  | .rollover => 4
/-- Link fault kind. -/
def faultCode : LinkFault → Nat
  | .framing => 1
  | .length => 2
  | .timeout => 3
  | .check => 4
  | .direction => 5
  | .overrun => 6
/-- Call state change cause. -/
def callCauseCode : CallCause → Nat
  | .detected => 1
  | .reported => 2
  | .unconfirmed => 3
  | .cancelled => 4
  | .lapsed => 5
/-- Conflict direction. -/
def directionCode : ConflictDirection → Nat
  | .entered => 1
  | .left => 2
/-- Train unmatched reason. -/
def trainReasonCode : TrainReason → Nat
  | .occupied => 1
  | .noCandidate => 2
  | .notOccupied => 3
/-- Dispatch unmatched reason. -/
def dispatchReasonCode : DispatchReason → Nat
  | .noCall => 1
  | .notDeparting => 2
/-- Evacuation source kind. -/
def sourceKindCode : SourceKind → Nat
  | .host => 1
  | .input => 2
/-- Evacuation event. -/
def evacEventCode : EvacEvent → Nat
  | .activated => 1
  | .activationFailed => 2
  | .cleared => 3
  | .voiced => 4
  | .silenced => 5
  | .reissued => 6
/-- Voice; an entry with no voice reads 0 (R111). -/
def voiceCode : Voice → Nat
  | .none => 0
  | .voiced _ => 1
  | .awaitingSlot => 2
  | .silent => 3
/-- The announcement id of a voice, or 0 (R122). -/
def voiceId : Voice → Nat
  | .voiced a => a
  | _ => 0
/-- Zone state change cause. -/
def zoneCauseCode : ZoneCause → Nat
  | .request => 1
  | .input => 2
  | .evacuation => 3
  | .group => 4
/-- Mode change cause. -/
def modeCauseCode : ModeCause → Nat
  | .request => 1
  | .nightTime => 2
  | .openTime => 3
  | .wake _ => 4
  | .emergency => 5
  | .woundDown => 6
  | .warmed => 7
  | .holdExpired => 8
  | .reset => 9
/-- The input number of a wake cause (R152). -/
def wakeInput : ModeCause → Option Nat
  | .wake i => some i
  | _ => none
/-- Restart cause. -/
def restartCode : RestartCause → Nat
  | .powerOn => 1
  | .resetLine => 2
  | .restartRequest => 3
/-- Composer state. -/
def composerCode : Composer → Nat
  | .idle => 1
  | .filling _ => 2
  | .closed _ => 3
  | .checking .. => 4
/-- Truncation cause of an attached zone (R169). -/
def truncateCode : Option TruncateCause → Nat
  | none => 0
  | some .close => 1
  | some .withdrawal => 2
/-- Phase (R169). -/
def phaseCode : Phase → Nat
  | .phrase => 1
  | .gap => 2
/-- The number of a refusal code (11, "Kinds, types and codes"). -/
def codeNumber : Code → Nat
  | .malformed => 1
  | .unknownKind => 2
  | .outOfRange => 3
  | .notFound => 4
  | .duplicate => 5
  | .tableFull => 6
  | .busy => 7
  | .wrongState => 8
  | .clockNotHeld => 9
  | .clockNotSet => 10
  | .inputActive => 11
  | .composerInUse => 12
  | .missingPhrase => 13
  | .notPlatform => 14
  | .platformOccupied => 15
  | .noTarget => 16
  | .storeFull => 17

/-! ### Codes read back: an unknown code is `none` (R167) -/

/-- Day tag. -/
def dayOfCode : Nat → Option DayTag
  | 1 => some .current
  | 2 => some .next
  | _ => none
/-- Call kind. -/
def callKindOfCode : Nat → Option CallKind
  | 1 => some .arrival
  | 2 => some .departure
  | 3 => some .turn
  | _ => none
/-- Anchor. -/
def anchorOfCode : Nat → Option Anchor
  | 1 => some .arrival
  | 2 => some .departure
  | 3 => some .dispatch
  | 4 => some .platformChange
  | 5 => some .cancel
  | _ => none
/-- Target kind. -/
def targetKindOfCode : Nat → Option TargetKind
  | 1 => some .platform
  | 2 => some .platformPlus
  | 3 => some .fixed
  | _ => none
/-- Zone kind. -/
def zoneKindOfCode : Nat → Option ZoneKind
  | 1 => some .platform
  | 2 => some .concourse
  | 3 => some .other
  | _ => none
/-- Base state. -/
def baseOfCode : Nat → Option Base
  | 1 => some .opn
  | 2 => some .closed
  | 3 => some .isolated
  | _ => none
/-- Lamp mode. -/
def lampOfCode : Nat → Option LampMode
  | 1 => some .off
  | 2 => some .steady
  | 3 => some .pulsed
  | _ => none
/-- Polarity. -/
def polarityOfCode : Nat → Option Polarity
  | 1 => some .activeHigh
  | 2 => some .activeLow
  | _ => none
/-- Sense. -/
def senseOfCode : Nat → Option Sense
  | 1 => some .edge
  | 2 => some .level
  | _ => none
/-- Report stage. -/
def movementOfCode : Nat → Option Movement
  | 1 => some .arrival
  | 2 => some .departure
  | _ => none

end Sys2Proof.Machine
end

