-- ==== Sys2Proof/Machine/Operands.lean ====
section
/-! DEFINITION. The operand forms of the requests: a body read into a command by the layouts of
11_message_layouts.md (R158, R167 to R169), and a command written out as the request that carries it. -/

namespace Sys2Proof.Machine

/-! ### Reading bodies -/

/-- A body whose length its layout fixes (R158). -/
def sized {α : Type} (body : List Byte) (n : Nat) (a : α) : Body α :=
  if body.length = n then .fields a else .malformed

/-- A body at least `min` bytes long whose length its own count fixes (R158, R168). -/
def counted {α : Type} (body : List Byte) (min n : Nat) (a : α) : Body α :=
  if min ≤ body.length ∧ body.length = n then .fields a else .malformed

/-- A token of a body (R168). -/
def tokenOf (bs : List Byte) : RawToken := { code := fieldAt bs 0 1, param := fieldAt bs 1 2 }

/-- The tokens of a token list whose count byte stands at `at'` (R168). -/
def tokensAt (body : List Byte) (at' : Nat) : List RawToken :=
  itemsAt body (at' + 1) 3 (fieldAt body at' 1) tokenOf

/-- The length of a body that ends with a token list at `at'` (R168). -/
def tokensEnd (body : List Byte) (at' : Nat) : Nat := at' + 1 + 3 * fieldAt body at' 1

/-- A latest start; 0x7FFFFFFF means none (11, "Field encodings"). -/
def latestAt (body : List Byte) (at' : Nat) : Option Int :=
  if fieldAt body at' 4 = 0x7FFFFFFF then none else some (signedAt body at' 4)

/-- The header that ANNOUNCE and COMPOSE_END share (R80, R88). -/
def headerOf (body : List Byte) : HeaderReq :=
  { priority := fieldAt body 0 1, address := fieldAt body 1 2, mask := fieldAt body 3 2,
    chime := optAt body 5 2 0xFFFF, repeats := fieldAt body 7 1, interval := fieldAt body 8 2,
    latestStart := latestAt body 10, call := optAt body 14 2 0 }

/-- CALL_LOAD (11, "The call record"). -/
def callLoadOf (body : List Byte) : CallLoadReq :=
  { id := fieldAt body 0 2, dayTag := fieldAt body 2 1, kind := fieldAt body 3 1, zone := fieldAt body 4 1,
    sa := fieldAt body 5 4, sd := fieldAt body 9 4, oa := fieldAt body 13 2,
    dest := optAt body 15 2 0xFFFF, origin := optAt body 17 2 0xFFFF, cls := optAt body 19 2 0xFFFF,
    plan := fieldAt body 21 1,
    calling := itemsAt body 23 2 (fieldAt body 22 1) (fun bs => fieldAt bs 0 2) }

/-- A signed delay after its presence byte (11, "Field encodings"), which is 1 or 0. The model's choice for any other is
to read it as a flag byte, by its bit 0 alone (R167), so that 2 is absent (log entry 16). -/
def delayAt (body : List Byte) (at' : Nat) : Option Int :=
  if flagAt body at' then some (signedAt body (at' + 1) 4) else none

/-- One cue of PLAN_SET; the upper four bits of its address and mask are ignored (R167). -/
def cueOf (bs : List Byte) : RawCue :=
  { anchor := fieldAt bs 0 1, offset := signedAt bs 1 2, template := fieldAt bs 3 1,
    priority := fieldAt bs 4 1, targetKind := fieldAt bs 5 1, address := fieldAt bs 6 2 % 4096,
    mask := fieldAt bs 8 2 % 4096, repeats := fieldAt bs 10 1, interval := fieldAt bs 11 2,
    expiry := fieldAt bs 13 2, late := fieldAt bs 15 2 }

/-- The function of INPUT_CONFIG with the parameters that follow its code (R61; log entry 15). -/
def functionOf (body : List Byte) : RawFunction :=
  match fieldAt body 5 1 with
  | 1 => .general
  | 2 => .trainDetect (fieldAt body 6 1)
  | 3 => .dispatch (fieldAt body 6 1)
  | 4 => .platformClose (fieldAt body 6 1)
  | 5 => .firePanel (fieldAt body 6 2) (fieldAt body 8 2) (fieldAt body 10 1) (fieldAt body 11 2)
  | n => .unknown n

/-- The bytes of parameters a function's code is followed by. -/
def functionWidth : RawFunction → Nat
  | .general => 0
  | .trainDetect _ => 1
  | .dispatch _ => 1
  | .platformClose _ => 1
  | .firePanel .. => 7
  | .unknown _ => 0

/-- The lengths INPUT_CONFIG allows for a function; an unknown code is judged by the owner (R61, R158). -/
def functionLength (f : RawFunction) (n : Nat) : Bool :=
  match f with
  | .unknown _ => n == 8 || n == 9 || n == 15
  | f => n == 8 + functionWidth f

/-- INPUT_CONFIG (R61). -/
def inputConfigOf (body : List Byte) : Body InputConfigReq :=
  let f := functionOf body
  if functionLength f body.length then
    .fields
      { input := fieldAt body 0 1, polarity := fieldAt body 1 1, sense := fieldAt body 2 1,
        debounce := fieldAt body 3 2, function := f, notice := flagAt body (6 + functionWidth f),
        wake := flagAt body (7 + functionWidth f) }
  else .malformed

/-- One entry of PHRASE_SET (R74). -/
def phraseOf (bs : List Byte) : PhraseReq :=
  { id := fieldAt bs 0 2, duration := fieldAt bs 2 2, location := fieldAt bs 4 4 }

/-- ZONE_CONFIG (R92). -/
def zoneConfigOf (body : List Byte) : ZoneConfigReq :=
  { zone := fieldAt body 0 1, enabled := flagAt body 1, address := fieldAt body 2 2,
    kind := fieldAt body 4 1, name := optAt body 5 2 0xFFFF, g0 := signedAt body 7 1,
    gmin := signedAt body 8 1, gmax := signedAt body 9 1, nref := fieldAt body 10 1,
    slope := fieldAt body 11 1, lampMode := fieldAt body 12 1, lampThreshold := fieldAt body 13 1 }

/-- CHANNEL_READ: a start index follows section 3 (R169). Under channel number 0xFF the section is ignored and R169 does
not say whether a start index may follow it: the model's choice is to take 2 and 3 bytes alike, whatever the section
(log entry 16). For a single channel with an unknown section code no layout is given either: the model's choice is to
take 2 bytes, which CHANNEL_READ then refuses OUT_OF_RANGE, and to refuse 3 MALFORMED (log entry 16). -/
def channelReadOf (body : List Byte) : Body ChannelReadReq :=
  let ch := optAt body 0 1 0xFF
  let long := fieldAt body 1 1 = 3
  if (body.length = 2 ∧ (¬ long ∨ ch = none)) ∨ (body.length = 3 ∧ (long ∨ ch = none)) then
    .fields { channel := ch, sectionCode := fieldAt body 1 1, start := fieldAt body 2 1 }
  else .malformed

/-- A request read into its command, by its kind (11, "Kinds, types and codes"). The code for all inputs in INPUT_READ
and for all zones in ZONE_READ, which R60 and R109 do not give, is the model's choice: 0xFF, as R169 has it for
CHANNEL_READ (log entry 16). -/
def decodeRequest (r : Request) : Instr :=
  let b := r.body
  let t := r.tag
  match r.kind with
  | 0x01 => .identify t (sized b 0 ())
  | 0x02 => .statusRead t (sized b 0 ())
  | 0x03 => .restart t (sized b 0 ())
  | 0x04 => .linkConfig t (sized b 2 { n := fieldAt b 0 1, k := fieldAt b 1 1 })
  | 0x05 => .noticeMask t (sized b 2 (BitVec.ofNat 16 (fieldAt b 0 2)))
  | 0x10 => .clockHold t (sized b 0 ())
  | 0x11 => .clockSet t (sized b 4 (fieldAt b 0 4))
  | 0x12 => .clockRelease t (sized b 0 ())
  | 0x13 => .clockRead t (sized b 0 ())
  | 0x14 => .dayConfig t (sized b 14
      { offset := fieldAt b 0 4, nightStart := optAt b 4 4 0xFFFFFFFF, openTime := optAt b 8 4 0xFFFFFFFF,
        matchWindow := fieldAt b 12 2 })
  | 0x20 => .callLoad t (counted b 23 (23 + 2 * fieldAt b 22 1) (callLoadOf b))
  | 0x21 => .callDelete t (sized b 2 (fieldAt b 0 2))
  | 0x22 => .callDelay t (sized b 12
      { id := fieldAt b 0 2, arrival := delayAt b 2, departure := delayAt b 7 })
  | 0x23 => .callPlatform t (sized b 3 { id := fieldAt b 0 2, zone := fieldAt b 2 1 })
  | 0x24 => .callCancel t (sized b 2 (fieldAt b 0 2))
  | 0x25 => .callReport t (sized b 7 { id := fieldAt b 0 2, stage := fieldAt b 2 1, time := fieldAt b 3 4 })
  | 0x26 => .callRead t (sized b 2 (fieldAt b 0 2))
  | 0x27 => .callList t (sized b 2 (fieldAt b 0 2))
  | 0x28 => .planSet t (counted b 4 (4 + 17 * fieldAt b 3 1)
      { plan := fieldAt b 0 1, threshold := fieldAt b 1 2, cues := itemsAt b 4 17 (fieldAt b 3 1) cueOf })
  | 0x30 => .inputConfig t (inputConfigOf b)
  | 0x31 => .inputRead t (sized b 1 (optAt b 0 1 0xFF))
  | 0x32 => .inputClear t (sized b 4 (BitVec.ofNat 32 (fieldAt b 0 4)))
  | 0x40 => .phraseSet t (counted b 1 (1 + 8 * fieldAt b 0 1) (itemsAt b 1 8 (fieldAt b 0 1) phraseOf))
  | 0x41 => .templateSet t (counted b 2 (tokensEnd b 1) { template := fieldAt b 0 1, tokens := tokensAt b 1 })
  | 0x42 => .announce t (counted b 17 (tokensEnd b 16) { header := headerOf b, tokens := tokensAt b 16 })
  | 0x43 => .composeBegin t (sized b 1 (flagAt b 0))
  | 0x44 => .composePart t (counted b 1 (tokensEnd b 0) (tokensAt b 0))
  | 0x45 => .composeEnd t (sized b 16 (headerOf b))
  | 0x46 => .withdraw t (sized b 1 (fieldAt b 0 1))
  | 0x47 => .storeRead t (sized b 2 { value := fieldAt b 0 1, selector := fieldAt b 1 1 })
  | 0x50 => .zoneConfig t (sized b 14 (zoneConfigOf b))
  | 0x51 => .groupSet t (sized b 4
      { select := BitVec.ofNat 16 (fieldAt b 0 2), value := BitVec.ofNat 16 (fieldAt b 2 2) })
  | 0x52 => .zoneState t (sized b 2 { zone := fieldAt b 0 1, state := fieldAt b 1 1 })
  | 0x53 => .zoneRead t (sized b 1 (optAt b 0 1 0xFF))
  | 0x54 => .evacStart t (sized b 7
      { address := fieldAt b 0 2, mask := fieldAt b 2 2, template := fieldAt b 4 1, interval := fieldAt b 5 2 })
  | 0x55 => .evacClear t (sized b 1 (fieldAt b 0 1))
  | 0x60 => .playoutConfig t (sized b 1 (fieldAt b 0 1))
  | 0x61 => .channelRead t (channelReadOf b)
  | 0x70 => .modeSet t (sized b 2 { mode := fieldAt b 0 1, warmUp := fieldAt b 1 1 })
  | k => .unknownKind t k

end Sys2Proof.Machine
end

