-- ==== Sys2Proof/Machine/Cold.lean ====
section
/-! DEFINITION. The cold values of every block, each from its chapter's reset rule. -/

namespace Sys2Proof.Machine

/-- CLK after cold reset (R13, R11). -/
def coldClock : Clock :=
  { runTime := 0, prescaler := 0, service := 0, held := true, unset := true,
    day := 0, offset := 10800, nightStart := none, openTime := none, matchWindow := 1200 }

/-- A plan that has never been set (R42, R54). -/
def coldPlan : Plan := { threshold := 180, cues := [] }

/-- TTU after cold reset (R31, R54). -/
def coldTtu : Ttu := { calls := [], plans := List.replicate Config.maxPlans coldPlan }

/-- An input after cold reset (R72). The level before the first sample is the model's (log entry 3). -/
def coldInput : Input :=
  { polarity := .activeLow, sense := .edge, debounceMs := 50, function := .general, notice := false,
    wake := false, stable := true, debounce := none, pending := false }

/-- FIU after cold reset (R72). -/
def coldFiu : Fiu := { inputs := List.replicate Config.maxInputs coldInput, firstSample := true }

/-- ASC after cold reset (R91). -/
def coldAsc : Asc :=
  { directory := [], templates := List.replicate Config.maxTemplates [], slots := [], idCounter := 0,
    created := 0, composer := .idle }

/-- A zone after cold reset (R110). -/
def coldZone : Zone :=
  { enabled := false, address := 0, kind := .other, name := none, base := .opn, covering := none,
    queue := [], g0 := -24, gmin := -120, gmax := 0, nref := 60, slope := 0, window := [],
    lampMode := .off, lampThreshold := 6, pulseEnd := none }

/-- The fields of a FREE entry, which hold nothing the manual gives a value (log entry 4). -/
def coldKey : SourceKey :=
  { kind := .host, target := { address := 0, mask := 0 }, template := 0, interval := 0 }

/-- A FREE entry (R111). -/
def coldSource : Source := { state := .free, key := coldKey, latched := false, voice := .none }

/-- ZRT after cold reset (R110, R111). -/
def coldZrt : Zrt :=
  { zones := List.replicate Config.maxZones coldZone, groups := 0, stampCounter := 0, ambientTick := 0,
    ambientDue := false, sources := List.replicate Config.maxSources coldSource }

/-- PLE after cold reset (R125). That its start sequence 0 is the number of the first run is log entry 44. -/
def coldPle : Ple := { channels := List.replicate Config.maxChannels none, nextSeq := 0, gap := 3 }

/-- SMC after cold reset (R153). -/
def coldSmc : Smc := { mode := .night, warmUp := 8, supply := false }

/-- LNK after cold reset (10, the state table). -/
def coldLnk : Lnk :=
  { n := 4, k := 8, receiver := .hunting, queue := [], replies := [], outbox := [], lost := 0,
    mask := BitVec.allOnes 11, tx := none }

/-- The lines before anything is stated on them (log entry 3). -/
def coldPins : Pins := { inputs := BitVec.allOnes 32, noise := List.replicate Config.maxZones 30 }

end Sys2Proof.Machine
end

