-- ==== Sys2Proof/Machine/State.lean ====
section
/-! DEFINITION. The whole state of the part, its faults and refusals, and the state after cold reset. -/

namespace Sys2Proof.Machine

/-- The part: its eight blocks, the RESET line, the levels on the input lines, and the queue of the
commands that are waiting, first in, first out. -/
structure State where
  pending : List Instr
  resetLine : Bool
  pins : Pins
  clock : Clock
  ttu : Ttu
  fiu : Fiu
  asc : Asc
  zrt : Zrt
  ple : Ple
  smc : Smc
  lnk : Lnk
deriving DecidableEq, Repr

/-- The manual gives the part no fault that stops it: a discarded frame or a refused request leaves it
running. No meaning answers a fault, so this type has no constructor. -/
inductive Fault where
deriving DecidableEq, Repr

/-- Refusals of the model. -/
inductive Refusal where
  /-- Raised by an arm of `exec` whose command has no meaning yet; safe. No arm raises it. -/
  | notModelled (mnemonic : String)
deriving DecidableEq, Repr

/-- The part right after cold reset: every block at its cold value, no command waiting. The RESTARTED
notice that opens every reset is POWER_ON's to generate (log entry 1). -/
def State.reset : State :=
  { pending := [], resetLine := false, pins := coldPins, clock := coldClock, ttu := coldTtu,
    fiu := coldFiu, asc := coldAsc, zrt := coldZrt, ple := coldPle, smc := coldSmc, lnk := coldLnk }

/-- What a meaning answers. -/
abbrev Exec := Host.Outcome State Fault Refusal

end Sys2Proof.Machine
end

