-- ==== Sys2Proof/Machine/Ops.lean ====
section
/-! DEFINITION. The named operations on the state: reading and replacing a block or a record of a table,
and LNK's generation of notices and replies (R159 to R162), which every block uses. -/

namespace Sys2Proof.Machine

/-! ### Replacing a block -/

/-- `s` with its queue of waiting commands replaced. -/
def State.withPending (s : State) (x : List Instr) : State := { s with pending := x }
/-- `s` with the RESET line's level replaced. -/
def State.withResetLine (s : State) (x : Bool) : State := { s with resetLine := x }
/-- `s` with the levels of the input lines replaced. -/
def State.withPins (s : State) (x : Pins) : State := { s with pins := x }
/-- `s` with CLK replaced. -/
def State.withClock (s : State) (x : Clock) : State := { s with clock := x }
/-- `s` with TTU replaced. -/
def State.withTtu (s : State) (x : Ttu) : State := { s with ttu := x }
/-- `s` with FIU replaced. -/
def State.withFiu (s : State) (x : Fiu) : State := { s with fiu := x }
/-- `s` with ASC replaced. -/
def State.withAsc (s : State) (x : Asc) : State := { s with asc := x }
/-- `s` with ZRT replaced. -/
def State.withZrt (s : State) (x : Zrt) : State := { s with zrt := x }
/-- `s` with PLE replaced. -/
def State.withPle (s : State) (x : Ple) : State := { s with ple := x }
/-- `s` with SMC replaced. -/
def State.withSmc (s : State) (x : Smc) : State := { s with smc := x }
/-- `s` with LNK replaced. -/
def State.withLnk (s : State) (x : Lnk) : State := { s with lnk := x }

/-! ### Reading and replacing a record -/

/-- The record of zone `z`; a zone id is 0 to 39. -/
def State.zone (s : State) (z : Nat) : Zone := s.zrt.zones.getD z coldZone

/-- `s` with the record of zone `z` changed by `f`. -/
def State.modifyZone (s : State) (z : Nat) (f : Zone → Zone) : State :=
  s.withZrt { s.zrt with zones := s.zrt.zones.modify z f }

/-- The evacuation source entry `n` (R111). -/
def State.source (s : State) (n : Nat) : Source := s.zrt.sources.getD n coldSource

/-- `s` with the evacuation source entry `n` changed by `f`. -/
def State.modifySource (s : State) (n : Nat) (f : Source → Source) : State :=
  s.withZrt { s.zrt with sources := s.zrt.sources.modify n f }

/-- The run of channel `c`, or `none` when it is IDLE (R125). -/
def State.channel (s : State) (c : Nat) : Option Run := s.ple.channels.getD c none

/-- `s` with channel `c` replaced. -/
def State.setChannel (s : State) (c : Nat) (r : Option Run) : State :=
  s.withPle { s.ple with channels := s.ple.channels.set c r }

/-- The input record `n` (R55). -/
def State.input (s : State) (n : Nat) : Input := s.fiu.inputs.getD n coldInput

/-- `s` with the input record `n` changed by `f`. -/
def State.modifyInput (s : State) (n : Nat) (f : Input → Input) : State :=
  s.withFiu { s.fiu with inputs := s.fiu.inputs.modify n f }

/-- The call of id `id`, if the table holds it (R14). -/
def State.call? (s : State) (id : Nat) : Option Call := s.ttu.calls.find? (fun c => c.id == id)

/-- `s` with the call of id `id` changed by `f`. -/
def State.modifyCall (s : State) (id : Nat) (f : Call → Call) : State :=
  s.withTtu { s.ttu with calls := s.ttu.calls.map (fun c => if c.id == id then f c else c) }

/-- Cue plan `n` (R42). -/
def State.plan (s : State) (n : Nat) : Plan := s.ttu.plans.getD n coldPlan

/-- The slot of announcement `a`, if the store holds it (R84). -/
def State.slot? (s : State) (a : Nat) : Option Slot := s.asc.slots.find? (fun x => x.id == a)

/-- `s` with the slot of announcement `a` changed by `f`. -/
def State.modifySlot (s : State) (a : Nat) (f : Slot → Slot) : State :=
  s.withAsc { s.asc with slots := s.asc.slots.map (fun x => if x.id == a then f x else x) }

/-- The directory entry of phrase `p`, if present (R73). -/
def State.phrase? (s : State) (p : Nat) : Option Phrase :=
  s.asc.directory.find? (fun e => e.id == p)

/-- The zone ids in ascending order. -/
def allZones : List Nat := List.range Config.maxZones

/-- The channel numbers in ascending order. -/
def allChannels : List Nat := List.range Config.maxChannels

/-- The source numbers in ascending order. -/
def allSources : List Nat := List.range Config.maxSources

/-- The input numbers in ascending order. -/
def allInputs : List Nat := List.range Config.maxInputs

/-- Run time now (R1). -/
def State.now (s : State) : RunTime := s.clock.runTime

/-- The time now as a block records it at an event of its own (R4). -/
def State.capture (s : State) : Capture := { time := s.clock.service, held := s.clock.held }

/-- The run time `tenths` after now. -/
def State.after (s : State) (tenths : Nat) : RunTime := s.clock.runTime + BitVec.ofNat 32 tenths

/-! ### Notices and replies -/

/-- The class of a notice (10, "The notice outbox"). -/
def classOf : Notice → NoticeClass
  | .restarted _ => .safety
  | .evacChange _ => .safety
  | .linkFault .. => .link
  | .clockEvent .. => .clock
  | .modeChange .. => .mode
  | .callState .. => .call
  | .platformConflict .. => .call
  | .trainUnmatched .. => .call
  | .dispatchUnmatched .. => .call
  | .cueFired .. => .cue
  | .cueMissed .. => .cue
  | .inputEvent .. => .input
  | .composeDone .. => .compose
  | .announceDropped .. => .compose
  | .placementDropped .. => .queue
  | .placementRefused .. => .queue
  | .runStarted .. => .run
  | .runEnded .. => .run
  | .zoneStateChange .. => .zone

/-- The bit of a class in the class mask (11, "Kinds, types and codes"). -/
def classBit : NoticeClass → Nat
  | .safety => 0
  | .link => 1
  | .clock => 2
  | .mode => 3
  | .call => 4
  | .cue => 5
  | .input => 6
  | .compose => 7
  | .queue => 8
  | .run => 9
  | .zone => 10

/-- Whether a notice's class is enabled; SAFETY cannot be masked (R161, R163). -/
def enabledNotice (l : Lnk) (n : Notice) : Bool :=
  classOf n == .safety || l.mask.getLsbD (classBit (classOf n))

/-- The transmit arbiter (R160): with the transmitter idle it begins the oldest waiting reply, or else
the oldest notice of the outbox. -/
def arbitrate (l : Lnk) : Lnk :=
  match l.tx with
  | some _ => l
  | none =>
    match l.replies with
    | r :: rs => { l with tx := some (.reply r), replies := rs }
    | [] =>
      match l.outbox with
      | n :: ns => { l with tx := some (.notice n), outbox := ns }
      | [] => l

/-- A raise of the lost count, which saturates at 255 (R162). -/
def raiseLost (count by' : Nat) : Nat := min Config.maxLost (count + by')

/-- A notice of an enabled class meets the outbox (R161, R162). -/
def pushNotice (l : Lnk) (day : BitVec 16) (service : Nat) (n : Notice) : Lnk :=
  if l.outbox.length < Config.maxNotices then
    { l with outbox := l.outbox ++ [{ day := day, service := service, lost := l.lost, notice := n }],
             lost := 0 }
  else if classOf n == .safety then
    match l.outbox with
    | [] => l
    | oldest :: rest =>
      { l with
        outbox := rest ++ [{ day := day, service := service,
                             lost := raiseLost l.lost (1 + oldest.lost), notice := n }],
        lost := 0 }
  else { l with lost := raiseLost l.lost 1 }

/-- LNK's part in the generation of a notice: the class mask, the outbox, the transmit arbiter. -/
def notifyLnk (l : Lnk) (day : BitVec 16) (service : Nat) (n : Notice) : Lnk :=
  if enabledNotice l n then arbitrate (pushNotice l day service n) else l

/-- A block's rule generates a notice (R161). -/
def generate (n : Notice) (s : State) : State :=
  s.withLnk (notifyLnk s.lnk s.clock.day s.clock.service n)

/-- The oldest request whose reply has not yet been generated: the one LNK hands next (R158). -/
def oldestUnanswered (l : Lnk) : Option Request := l.queue.find? (fun r => !r.answered)

/-- The queue with its oldest unanswered request marked answered. -/
def markAnswered : List Request → List Request
  | [] => []
  | r :: rs => if r.answered then r :: markAnswered rs else { r with answered := true } :: rs

/-- LNK's part in the generation of a reply: the handed request is answered, and the reply waits for
the transmitter in order of generation (R158 to R160). -/
def answerLnk (l : Lnk) (res : Result) : Lnk :=
  match oldestUnanswered l with
  | none => l
  | some r =>
    arbitrate { l with queue := markAnswered l.queue,
                       replies := l.replies ++ [{ kind := r.kind, tag := r.tag, result := res }] }

/-- The reply of the handed request is generated (R159). -/
def answer (res : Result) (s : State) : State := s.withLnk (answerLnk s.lnk res)

/-- A refusal whose rule names no detail (R159). -/
def refuse (c : Code) : Result := .refused c 0

/-- An acceptance with its clamp indicator and accepted body (R159). -/
def accept (clamped : Bool) (body : List Byte) : Result := .accepted clamped body .nothing

/-- Runs `f` over the elements of a list, in order. -/
def forEach {α : Type} (xs : List α) (f : α → State → State) (s : State) : State :=
  xs.foldl (fun s x => f x s) s

end Sys2Proof.Machine
end

