-- ==== Sys2Proof/Machine/Flags.lean ====
section
/-! DEFINITION. The conditions the chapters derive from the records: input activity and OR sets, address
matching, effective states, counts, emergency and quiet, what a mode or a zone admits, and the lamps. -/

namespace Sys2Proof.Machine

/-! ### Inputs and OR sets -/

/-- An input is active when its stable level agrees with its polarity (R56). -/
def activeInput (i : Input) : Bool :=
  match i.polarity with
  | .activeHigh => i.stable
  | .activeLow => !i.stable

/-- Status: pending AND notice enable (R58). -/
def statusInput (i : Input) : Bool := i.pending && i.notice

/-- The members of the OR set of function `f`; GENERAL inputs form no set (R63). -/
def membersOf (inputs : List Input) (f : InputFunction) : List Input :=
  if f = .general then [] else inputs.filter (fun i => i.function = f)

/-- A set is active while a member is active (R63). -/
def setActive (inputs : List Input) (f : InputFunction) : Bool := (membersOf inputs f).any activeInput

/-- A set's sense is EDGE when any member is EDGE-sensed (R63). -/
def setSense (inputs : List Input) (f : InputFunction) : Sense :=
  if (membersOf inputs f).any (fun i => i.sense = .edge) then .edge else .level

/-- The level hold: on while a LEVEL-sensed member is active (R63, R71). -/
def levelHold (inputs : List Input) (f : InputFunction) : Bool :=
  (membersOf inputs f).any (fun i => decide (i.sense = .level) && activeInput i)

/-! ### Addresses, zones and targets -/

/-- An address agrees with a pair in every bit where the pair's mask holds 0 (R96). -/
def matchesPair (address : Address) (p : Pair) : Bool :=
  decide ((address ^^^ p.address) &&& (~~~ p.mask) = 0)

/-- The group of an address: its upper four bits (06, "Groups"). -/
def groupOf (address : Address) : Nat := address.toNat / 256

/-- A zone is reachable: enabled, and its group marked valid (R96). -/
def reachableZone (s : State) (z : Nat) : Bool :=
  (s.zone z).enabled && s.zrt.groups.getLsbD (groupOf (s.zone z).address)

/-- A zone is in the target set of a target (R96). -/
def inTarget (s : State) (target : List Pair) (z : Nat) : Bool :=
  reachableZone s z && target.any (matchesPair (s.zone z).address)

/-- The target set of a target, by ascending zone id (R96). -/
def targetSet (s : State) (target : List Pair) : List Nat := allZones.filter (inTarget s target)

/-- Base state read as an effective state. -/
def baseEffective : Base → Effective
  | .opn => .opn
  | .closed => .closed
  | .isolated => .isolated

/-- The effective state of a zone: EVACUATE while a source covers it, else its base state (06). -/
def effective (z : Zone) : Effective := if z.covering.isSome then .evacuate else baseEffective z.base

/-- Source `n` covers zone `z` (R115). -/
def covers (s : State) (n z : Nat) : Bool :=
  decide ((s.source n).state = .active) && inTarget s [(s.source n).key.target] z
    && decide ((s.zone z).base ≠ .isolated)

/-- The covering source a recomputation finds: the lowest-numbered that covers the zone (R115). -/
def coveringOf (s : State) (z : Nat) : Option Nat := allSources.find? (fun n => covers s n z)

/-! ### Runs and counts -/

/-- The attachment of zone `z` in a run, if it has one. -/
def attachmentIn (r : Run) (z : Nat) : Option Attached := r.zones.find? (fun a => a.zone == z)

/-- Whether zone `z` is attached to channel `c`. -/
def attachedTo (s : State) (z c : Nat) : Bool :=
  match s.channel c with
  | none => false
  | some r => (attachmentIn r z).isSome

/-- The channel zone `z` is attached to, if any (06, "The zone record"). -/
def attachedChannel (s : State) (z : Nat) : Option Nat := allChannels.find? (attachedTo s z)

/-- The run zone `z` is attached to, if any. -/
def runOf (s : State) (z : Nat) : Option Run := (attachedChannel s z).bind s.channel

/-- The runs in progress, by channel. -/
def runs (s : State) : List Run := s.ple.channels.filterMap id

/-- Placement count of an announcement: the queues that hold a placement of it (R84). -/
def placementCount (s : State) (a : Nat) : Nat :=
  s.zrt.zones.countP (fun z => z.queue.any (fun p => p.announcement == a))

/-- Run count of an announcement: the channels playing it (R84). -/
def runCount (s : State) (a : Nat) : Nat := (runs s).countP (fun r => r.announcement == a)

/-- The ACTIVE sources, counted (R122, R164). -/
def activeSources (s : State) : Nat := s.zrt.sources.countP (fun e => decide (e.state = .active))

/-- An emergency exists (R144). -/
def emergencyExists (s : State) : Bool :=
  s.zrt.zones.any (fun z => z.queue.any (fun p => decide (6 ≤ p.priority)))
    || s.zrt.sources.any (fun e => decide (e.state = .active))

/-- The station is quiet (R144). -/
def quiet (s : State) : Bool := (runs s).isEmpty && !emergencyExists s

/-- The priorities a mode admits for a new start (R134). -/
def modeAdmits : Mode → Nat → Bool
  | .opn, _ => true
  | .winding, p => decide (6 ≤ p)
  | .nightAlert _, p => decide (6 ≤ p)
  | .night, _ => false
  | .warming _ _, _ => false

/-- The priorities an effective state admits (R134). -/
def zoneAdmits : Effective → Nat → Bool
  | .opn, _ => true
  | .closed, p => decide (6 ≤ p)
  | .evacuate, p => decide (7 ≤ p)
  | .isolated, _ => false

/-- The mode is NIGHT or NIGHT_ALERT, which refuse placements below 6 (R97, R148). -/
def inNight : Mode → Bool
  | .night => true
  | .nightAlert _ => true
  | _ => false

/-- The supply line's level in a mode (R144). -/
def supplyIn : Mode → Bool
  | .night => false
  | _ => true

/-- The alert hold timer is running (R151). -/
def holdRunning : Mode → Bool
  | .nightAlert hold => hold.isSome
  | _ => false

/-- The lamp of a zone (R140). -/
def lampOn (s : State) (z : Nat) : Bool :=
  let zn := s.zone z
  match effective zn, zn.lampMode with
  | .evacuate, _ => true
  | _, .off => false
  | _, .steady =>
    match runOf s z with
    | some r => decide (zn.lampThreshold ≤ r.priority)
    | none => false
  | _, .pulsed => zn.pulseEnd.isSome

end Sys2Proof.Machine
end

