-- ==== Sys2Proof/Machine/Router.lean ====
section
/-! DEFINITION. ZRT's shared operations on queues, and what a drop reports: the slot freed when its last
placement and run are gone, the voice of its source, the alert hold (R84, R98 to R101, R105, R120, R151). -/

namespace Sys2Proof.Machine

/-! ### Reports that a drop causes -/

/-- SMC judges the alert hold timer: in NIGHT_ALERT it runs while the station is quiet and is stopped
and cleared while it is not (R151). -/
def judgeHold (s : State) : State :=
  match s.smc.mode with
  | .nightAlert hold =>
    if quiet s then
      match hold with
      | some _ => s
      | none => s.withSmc { s.smc with mode := .nightAlert (some s.now) }
    else s.withSmc { s.smc with mode := .nightAlert none }
  | _ => s

/-- The zones a source covers, counted (R122). -/
def coveredCount (s : State) (n : Nat) : Nat := allZones.countP (fun z => decide ((s.zone z).covering = some n))

/-- The matching zones of a source that are deferred to a lower-numbered source, counted (R119). -/
def deferredCount (s : State) (n : Nat) : Nat :=
  (targetSet s [(s.source n).key.target]).countP (fun z =>
    decide ((s.zone z).base ≠ .isolated) &&
      match (s.zone z).covering with
      | some m => decide (m < n)
      | none => false)

/-- The matching zones of a target that are ISOLATED, by ascending zone id (R113, R115, R122). R115 speaks of matching by
the address alone, R119 of the target set; that only zones of the target set, enabled and in a valid group, are named and
counted is the model's choice (log entry 43). -/
def isolatedZones (s : State) (target : Pair) : List Nat :=
  (targetSet s [target]).filter (fun z => decide ((s.zone z).base = .isolated))

/-- The EVAC_CHANGE notice of an event of source `n` (R122). The zone counts of an entry that is not
ACTIVE are 0 (log entry 12). -/
def evacNotice (s : State) (n : Nat) (event : EvacEvent) (full : Nat) : Notice :=
  let e := s.source n
  let active := decide (e.state = .active)
  .evacChange
    { source := some n, key := e.key, event := event, reason := none, voice := e.voice,
      covered := if active then coveredCount s n else 0,
      deferred := if active then deferredCount s n else 0,
      full := full, isolated := isolatedZones s e.key.target }

/-- The event that reports a voice (R120). -/
def voiceEvent : Voice → EvacEvent
  | .voiced _ => .voiced
  | _ => .silenced

/-- A voice of source `n` that is no longer `old` is reported VOICED or SILENCED (R120). -/
def reportVoice (n : Nat) (old : Voice) (full : Nat) (s : State) : State :=
  if (s.source n).voice = old then s else generate (evacNotice s n (voiceEvent (s.source n).voice) full) s

/-- Source `n` takes a voice. -/
def setVoice (n : Nat) (v : Voice) (s : State) : State := s.modifySource n (fun e => { e with voice := v })

/-- Source `n` becomes SILENT, and a change of its voice is reported (R120). Where its slot is freed no creation lies
behind the notice, and R122 gives its QUEUE_FULL-refused count no value: the model's choice is 0 (log entry 12). The
notice is sent at the freeing, also where a hand-over inside another source's activation or clearing frees the slot,
before the notices of the zones taken after it: R122 orders the notices of an activation's or a clearing's own source,
and for another's the place is the model's choice (log entry 41). -/
def silence (n : Nat) (s : State) : State := reportVoice n (s.source n).voice 0 (setVoice n .silent s)

/-- The freeing of announcement `a`'s slot makes the ACTIVE sources it voiced SILENT (R120). -/
def silenceVoices (a : Nat) (s : State) : State :=
  forEach allSources (fun n s =>
    if (s.source n).state = .active ∧ (s.source n).voice = .voiced a then silence n s else s) s

/-- ASC takes announcement `a` out of the store; its id becomes free with the slot (R82, R84). -/
def removeSlot (a : Nat) (s : State) : State :=
  s.withAsc { s.asc with slots := s.asc.slots.filter (fun x => x.id != a) }

/-- ASC frees announcement `a`'s slot at the report that leaves both its counts at 0 (R84). -/
def freeIfDone (a : Nat) (s : State) : State :=
  if (s.slot? a).isSome ∧ placementCount s a = 0 ∧ runCount s a = 0 then silenceVoices a (removeSlot a s)
  else s

/-! ### Dropping placements -/

/-- Takes announcement `a`'s placement out of zone `z`'s queue (R99). -/
def takePlacement (z a : Nat) (s : State) : State :=
  s.modifyZone z (fun zn => { zn with queue := zn.queue.filter (fun p => p.announcement != a) })

/-- The notice of a drop (R105). -/
def dropNotice (z : Nat) (p : Placement) (reason : DropReason) : Notice :=
  .placementDropped p.announcement z p.priority p.condition p.stamp reason

/-- A placement that stands in zone `z`'s queue is dropped (R105): removed, reported to the host, to ASC
and to SMC. -/
def dropPlacement (z : Nat) (reason : DropReason) (p : Placement) (s : State) : State :=
  judgeHold (freeIfDone p.announcement (generate (dropNotice z p reason) (takePlacement z p.announcement s)))

/-- The placements of zone `z` that satisfy `which` are dropped in queue order (R105). -/
def dropWhere (z : Nat) (reason : DropReason) (which : Placement → Bool) (s : State) : State :=
  forEach ((s.zone z).queue.filter which) (dropPlacement z reason) s

/-- ZRT removes announcement `a`'s placements from every queue: for a withdrawal in ascending zone id by R106. For the
victim of a full store R83 and R105 order no zones, and the same order is the model's choice (log entry 35). -/
def dropEverywhere (a : Nat) (reason : DropReason) (s : State) : State :=
  forEach allZones (fun z => dropWhere z reason (fun p => p.announcement == a)) s

/-! ### Entering a queue -/

/-- `q` stands behind a newcomer `p`: of lower priority, or of equal priority and younger (R99). -/
def standsBehind (next : Stamp) (p q : Placement) : Bool :=
  decide (q.priority < p.priority) ||
    (decide (q.priority = p.priority) && decide (ageOf next q.stamp < ageOf next p.stamp))

/-- A placement enters a queue at its place in the order (R99). -/
def insertPlacement (next : Stamp) (p : Placement) : List Placement → List Placement
  | [] => [p]
  | q :: qs => if standsBehind next p q then p :: q :: qs else q :: insertPlacement next p qs

/-- `a` is the better victim than `b`: of lower priority, or of equal priority and younger (R100). -/
def betterVictim (next : Stamp) (a b : Placement) : Bool :=
  decide (a.priority < b.priority) ||
    (decide (a.priority = b.priority) && decide (ageOf next a.stamp < ageOf next b.stamp))

/-- The victim of a newcomer of priority `p` in a queue (R100). -/
def queueVictim (next : Stamp) (p : Nat) (q : List Placement) : Option Placement :=
  (q.filter (fun x => decide (x.priority < p))).foldl
    (fun best x =>
      match best with
      | none => some x
      | some b => if betterVictim next x b then some x else some b) none

/-- Whether a placement of priority `p` finds room in zone `z`'s queue, by a free place or a victim
(R100). -/
def hasRoom (s : State) (z p : Nat) : Bool :=
  decide ((s.zone z).queue.length < Config.maxPlacements) ||
    (queueVictim s.zrt.stampCounter p (s.zone z).queue).isSome

/-- A full queue's victim for a newcomer of priority `p` is dropped DISPLACED (R100). -/
def makeRoom (z p : Nat) (s : State) : State :=
  if (s.zone z).queue.length < Config.maxPlacements then s
  else
    match queueVictim s.zrt.stampCounter p (s.zone z).queue with
    | some v => dropPlacement z .displaced v s
    | none => s

/-- A placement enters zone `z`'s queue, room having been found (R99, R100). -/
def enterQueue (z : Nat) (p : Placement) (s : State) : State :=
  let s1 := makeRoom z p.priority s
  judgeHold (s1.modifyZone z (fun zn => { zn with queue := insertPlacement s1.zrt.stampCounter p zn.queue }))

/-- The order stamp counter gives its value and advances (R98). -/
def advanceStamp (s : State) : State := s.withZrt { s.zrt with stampCounter := s.zrt.stampCounter + 1 }

/-- A new placement takes the next order stamp and enters zone `z`'s queue (R98). -/
def enterNew (z : Nat) (p : Placement) (s : State) : State :=
  enterQueue z { p with stamp := s.zrt.stampCounter } (advanceStamp s)

/-! ### Placements returned from a run -/

/-- Whether announcement `a`'s latest start, if it has one, is earlier than the service time (R101). -/
def latestPassed (s : State) (a : Nat) : Bool :=
  match (s.slot? a).bind Slot.latestStart with
  | some t => decide (t < (s.clock.service : Int))
  | none => false

/-- Whether announcement `a` has been withdrawn (R85). -/
def isWithdrawn (s : State) (a : Nat) : Bool :=
  match s.slot? a with
  | some x => x.withdrawn
  | none => true

/-- The first condition of R101 that drops a returned placement, `restoration` telling a restoration
from a repeat and `marked` a placement handed back as withdrawn (R128). -/
def returnReason (s : State) (z : Nat) (p : Placement) (restoration marked : Bool) : Option DropReason :=
  if marked || isWithdrawn s p.announcement then some .withdrawn
  else if restoration && decide (p.interrupted = 1) then some .abandoned
  else if decide (effective (s.zone z) = .closed) && decide (p.priority < 6) then some .closed
  else if latestPassed s p.announcement then some .expired
  else if !hasRoom s z p.priority then some .displaced
  else none

/-- The condition a restored placement takes in its zone (R101). -/
def restoredCondition (s : State) (z : Nat) (p : Placement) : Condition :=
  if decide (effective (s.zone z) = .evacuate) && decide (p.priority < 7) then .held else .waiting

/-- ZRT takes back a placement to be restored after an interruption, or drops it (R101). -/
def takeRestored (z : Nat) (p : Placement) (marked : Bool) (s : State) : Fate × State :=
  match returnReason s z p true marked with
  | some reason => (.dropped, generate (dropNotice z p reason) s)
  | none =>
    (.restored, enterQueue z { p with condition := restoredCondition s z p, interrupted := 1 } s)

/-- ZRT takes back a placement to rest for a repeat until `notBefore`, or drops it (R101). -/
def takeRepeat (z : Nat) (p : Placement) (left : Repeats) (notBefore : RunTime) (marked : Bool) (s : State) :
    Fate × State :=
  match returnReason s z p false marked with
  | some reason => (.dropped, generate (dropNotice z p reason) s)
  | none => (.resting, enterNew z { p with condition := .resting notBefore, repeats := left } s)

end Sys2Proof.Machine
end

