-- ==== Sys2Proof/Machine/Modes.lean ====
section
/-! DEFINITION. SMC's shared operations: changes of mode, requests for OPEN and NIGHT, emergency events,
the end of winding (R144 to R151). -/

namespace Sys2Proof.Machine

/-- SMC changes the mode, sets the supply line with it and reports the change (R144, R152). -/
def setMode (m : Mode) (cause : ModeCause) (s : State) : State :=
  generate (.modeChange s.smc.mode m cause) (s.withSmc { s.smc with mode := m, supply := supplyIn m })

/-- Every queued placement of priority below 6 is dropped NIGHT, in ascending zone id (R148). -/
def dropForNight (s : State) : State :=
  forEach allZones (fun z => dropWhere z .night (fun p => decide (p.priority < 6))) s

/-- Entry to NIGHT (R148): the drops go before the MODE_CHANGE in the outbox. -/
def enterNight (cause : ModeCause) (s : State) : State := setMode .night cause (dropForNight s)

/-- Entry to NIGHT_ALERT, the alert hold judged at the entry (R148, R151). -/
def enterNightAlert (cause : ModeCause) (s : State) : State :=
  judgeHold (setMode (.nightAlert none) cause (dropForNight s))

/-- The run time at which a warm-up begun now ends (R150). -/
def warmUpEnds (s : State) : RunTime := s.after (10 * s.smc.warmUp)

/-- A run of priority below 6 is playing (R147). -/
def lowRunPlaying (s : State) : Bool := (runs s).any (fun r => decide (r.priority < 6))

/-- WINDING ends when no channel is playing a run of priority below 6 (R147). -/
def windingTest (s : State) : State :=
  if s.smc.mode = .winding ∧ lowRunPlaying s = false then
    if quiet s then enterNight .woundDown s else enterNightAlert .woundDown s
  else s

/-- A request for OPEN acts on the mode (the table of R145). -/
def requestOpen (cause : ModeCause) (s : State) : State :=
  match s.smc.mode with
  | .opn => s
  | .winding => setMode .opn cause s
  | .night => setMode (.warming .opn (warmUpEnds s)) cause s
  | .warming t e => if t = .opn then s else setMode (.warming .opn e) cause s
  | .nightAlert _ => setMode .opn cause s

/-- The target a request for NIGHT gives a warm-up (R145). -/
def nightTarget (s : State) : Target := if emergencyExists s then .nightAlert else .night

/-- A request for NIGHT acts on the mode (the table of R145). -/
def requestNight (cause : ModeCause) (s : State) : State :=
  match s.smc.mode with
  | .opn => windingTest (setMode .winding cause s)
  | .winding => s
  | .night => s
  | .warming t e => if t = nightTarget s then s else setMode (.warming (nightTarget s) e) cause s
  | .nightAlert _ => s

/-- A wake request of an input is a request for OPEN (R146). -/
def wakeRequest (input : Nat) (s : State) : State := requestOpen (.wake input) s

/-- SMC takes an emergency event (R149). -/
def emergencyEvent (s : State) : State :=
  match s.smc.mode with
  | .opn => s
  | .winding => s
  | .night => setMode (.warming .nightAlert (warmUpEnds s)) .emergency s
  | .warming .night e => setMode (.warming .nightAlert e) .emergency s
  | .warming _ _ => s
  | .nightAlert _ => judgeHold s

/-- SMC takes a run end that PLE reports (R147, R151). -/
def runEndReported (s : State) : State := windingTest (judgeHold s)

end Sys2Proof.Machine
end

