-- ==== Sys2Proof/Machine/Playout.lean ====
section
/-! DEFINITION. PLE's shared operations on a run in progress: a zone's part ends, a zone is marked or cut,
a channel becomes IDLE (R127 to R132), with the gain arithmetic (R138, R139) and the coverage placement that
ZRT makes in a zone, at a zone's leaving too (R119). -/

namespace Sys2Proof.Machine

/-! ### Gain -/

/-- The ambient level A of a zone's window: the floor of the mean, or Nref when empty (R138). -/
def ambientLevel (z : Zone) : Nat :=
  if z.window = [] then z.nref else z.window.sum / z.window.length

/-- The gain R138 computes from the zone record. -/
def ambientGain (z : Zone) : Int :=
  let excess := ambientLevel z - z.nref
  clampInt (z.g0 + ((z.slope * excess / 4 : Nat) : Int)) z.gmin z.gmax

/-- The gain at which a zone joins a run of priority `p` (R138, R139). -/
def joinGain (z : Zone) (p : Nat) : Int := if 6 ≤ p then z.gmax else ambientGain z

/-! ### A zone's part ends -/

/-- Repeats remaining after a completed play, or `none` when the placement is used up (R130). -/
def repeatsAfter : Repeats → Option Repeats
  | .continuous => some .continuous
  | .count 0 => none
  | .count (n + 1) => some (.count n)

/-- The run time at which a rest that begins now ends, from the slot's repeat interval (R131). -/
def restEnds (s : State) (a : Nat) : RunTime :=
  s.after (10 * ((s.slot? a).map Slot.interval).getD 0)

/-- The placement of a zone whose part has ended is used up, discarded, or handed to ZRT (R130); a
WITHDRAWAL mark hands it back as withdrawn (R128). -/
def disposePlacement (z : Nat) (a : Attached) (o : RunOutcome) (discard : Bool) (s : State) : Fate × State :=
  let p := a.placement
  let marked := decide (a.mark = some .withdrawal)
  match o with
  | .truncated => takeRestored z p marked s
  | .cut => if discard then (.discarded, s) else takeRestored z p marked s
  | _ =>
    if marked then takeRepeat z p p.repeats 0 true s
    else
      match repeatsAfter p.repeats with
      | none => (.usedUp, s)
      | some left => takeRepeat z p left (restEnds s p.announcement) false s

/-- Zone `z`'s queue holds a placement of announcement `a`. -/
def holdsPlacement (s : State) (z a : Nat) : Bool :=
  (s.zone z).queue.any (fun p => p.announcement == a)

/-- A coverage placement as it is made: WAITING, CONTINUOUS, interrupted 0 (R119). -/
def coveragePlacement (a : Nat) : Placement :=
  { announcement := a, priority := 7, stamp := 0, condition := .waiting, repeats := .continuous,
    interrupted := 0 }

/-- The coverage placement of announcement `a` is made in zone `z`, or refused QUEUE_FULL (R119). -/
def makeCoverage (z a : Nat) (s : State) : State :=
  if hasRoom s z 7 then emergencyEvent (enterNew z (coveragePlacement a) s)
  else generate (.placementRefused a z 7 .queueFull) s

/-- The ACTIVE source that covers zone `z` is VOICED by announcement `a` (R119, R120). -/
def coveredWith (s : State) (z a : Nat) : Bool :=
  match (s.zone z).covering with
  | some n => decide ((s.source n).state = .active) && decide ((s.source n).voice = .voiced a)
  | none => false

/-- A zone that leaves a run of the announcement which covers it again, its part marked by an earlier
hand-over or end of coverage, receives its coverage placement as it leaves, after the placement it hands back
has been dropped (R119). A discarded placement leaves no such zone: it is ISOLATED or in an invalid group. A
withdrawn announcement gains no placement (R85). -/
def resumeCoverage (z announcement : Nat) (a : Attached) (discard : Bool) (s : State) : State :=
  if a.mark = some .withdrawal ∧ discard = false ∧ coveredWith s z announcement ∧
      holdsPlacement s z announcement = false ∧ isWithdrawn s announcement = false then
    makeCoverage z announcement s
  else s

/-- An entry of a zone that left goes to its place by zone id (R132). -/
def insertLeft (e : Left) : List Left → List Left
  | [] => [e]
  | x :: xs => if e.zone ≤ x.zone then e :: x :: xs else x :: insertLeft e xs

/-- Zone `z` is detached from channel `c`, its lamp pulse ended with its part (R130, R140). -/
def detachZone (c z : Nat) (r : Run) (s : State) : State :=
  (s.setChannel c (some { r with zones := r.zones.filter (fun a => a.zone != z) })).modifyZone z
    (fun zn => { zn with pulseEnd := none })

/-- The run's record of a zone's leaving (R130). -/
def recordLeft (c : Nat) (e : Left) (s : State) : State :=
  match s.channel c with
  | some r => s.setChannel c (some { r with left := insertLeft e r.left })
  | none => s

/-- Zone `z`'s part in channel `c`'s run ends (R130): detached first, then its placement disposed of, and the
coverage placement that waited for the zone to leave is made (R119). -/
def endPart (c : Nat) (o : RunOutcome) (discard : Bool) (z : Nat) (s : State) : State :=
  match s.channel c with
  | none => s
  | some r =>
    match attachmentIn r z with
    | none => s
    | some a =>
      let (fate, s1) := disposePlacement z a o discard (detachZone c z r s)
      recordLeft c { zone := z, outcome := o, fate := fate } (resumeCoverage z r.announcement a discard s1)

/-- The number of phrases a run has started (R132). -/
def phrasesStarted (r : Run) : Nat := if r.phrases = [] then 0 else r.position + 1

/-- Channel `c` becomes IDLE (R132): ASC and SMC hear of the run's end, then RUN_ENDED. -/
def channelIdle (c : Nat) (o : RunOutcome) (s : State) : State :=
  match s.channel c with
  | none => s
  | some r =>
    generate
      (.runEnded c r.announcement r.priority o (phrasesStarted r) r.skipped r.truncated r.left)
      (runEndReported (freeIfDone r.announcement (s.setChannel c none)))

/-- Channel `c` becomes IDLE if no zone remains attached (R125, R132). -/
def idleIfEmpty (c : Nat) (o : RunOutcome) (s : State) : State :=
  match s.channel c with
  | some r => if r.zones = [] then channelIdle c o s else s
  | none => s

/-- The zones attached to channel `c`, in ascending zone id. -/
def zonesOf (s : State) (c : Nat) : List Nat :=
  match s.channel c with
  | some r => r.zones.map Attached.zone
  | none => []

/-- Every attached zone's part ends, in ascending zone id, and the channel becomes IDLE. -/
def endRun (c : Nat) (o : RunOutcome) (s : State) : State :=
  channelIdle c o (forEach (zonesOf s c) (endPart c o false) s)

/-! ### Marks and cuts -/

/-- A mark joins the mark a zone has: a later WITHDRAWAL replaces a CLOSE, else the first stays (R128). -/
def joinMark (old : Option TruncateCause) (new : TruncateCause) : TruncateCause :=
  match old with
  | none => new
  | some .close => new
  | some .withdrawal => .withdrawal

/-- Zone `z` is marked to truncate in channel `c`'s run; in a gap it leaves at once (R128). -/
def markIn (c : Nat) (cause : TruncateCause) (z : Nat) (s : State) : State :=
  match s.channel c with
  | none => s
  | some r =>
    match attachmentIn r z with
    | none => s
    | some _ =>
      let marked := { r with zones := r.zones.map (fun a =>
        if a.zone == z then { a with mark := some (joinMark a.mark cause) } else a) }
      let s1 := s.setChannel c (some marked)
      match r.phase with
      | .phrase => s1
      | .gap => idleIfEmpty c .truncated (endPart c .truncated false z s1)

/-- Zone `z` is marked to truncate in the run it is attached to, if any (R128). -/
def markZone (z : Nat) (cause : TruncateCause) (s : State) : State :=
  match attachedChannel s z with
  | some c => markIn c cause z s
  | none => s

/-- Channel `c` plays announcement `a`. -/
def plays (s : State) (a c : Nat) : Bool :=
  match s.channel c with
  | some r => r.announcement == a
  | none => false

/-- The channels playing announcement `a`, by number. -/
def channelsPlaying (s : State) (a : Nat) : List Nat := allChannels.filter (plays s a)

/-- PLE marks each run playing announcement `a` to truncate in every zone attached to it (R85). R85 orders the zones and
not the runs: where several channels play `a`, the model marks them in ascending channel number, its choice
(log entry 35). -/
def markRuns (a : Nat) (s : State) : State :=
  forEach (channelsPlaying s a) (fun c s => forEach (zonesOf s c) (markIn c .withdrawal) s) s

/-- Whether a cut of this cause discards the placement (R129). -/
def discards : CutCause → Bool
  | .isolation => true
  | .groupInvalid => true
  | _ => false

/-- Zone `z` is cut from the run it is attached to, if any (R129). -/
def cutZone (z : Nat) (cause : CutCause) (s : State) : State :=
  match attachedChannel s z with
  | some c => idleIfEmpty c .cut (endPart c .cut (discards cause) z s)
  | none => s

/-- Every zone of channel `c` is cut for a newcomer, in ascending zone id (R137). -/
def seizeChannel (c : Nat) (s : State) : State := endRun c .cut s

end Sys2Proof.Machine
end

