-- ==== Sys2Proof/Machine/Content.lean ====
section
/-! DEFINITION. Spoken figures (R36 to R38) and the resolution of an announcement's content into phrases
at a run start (R76 to R79). -/

namespace Sys2Proof.Machine

/-! ### Spoken figures -/

/-- Whether the call's kind has an arrival (R34). -/
def hasArrival (k : CallKind) : Bool := k != .departure

/-- Whether the call's kind has a departure (R35). -/
def hasDeparture (k : CallKind) : Bool := k != .arrival

/-- Expected less scheduled, in seconds. -/
def lateness (expected scheduled : Option Nat) : Int := (expected.getD 0 : Int) - (scheduled.getD 0 : Int)

/-- Whether an anchor speaks the departure of a call; `none` is host content with a call (R36, R38). -/
def speaksDeparture (c : Call) : Option Anchor → Bool
  | some .arrival => false
  | some .departure => true
  | _ => hasDeparture c.kind

/-- The delay of a call for an anchor (R36). -/
def delayFor (c : Call) (a : Option Anchor) : Int :=
  if speaksDeparture c a then lateness c.ed c.sd else lateness c.ea c.sa

/-- The scheduled time spoken for an anchor (R38). -/
def scheduledFor (c : Call) (a : Option Anchor) : Nat :=
  (if speaksDeparture c a then c.sd else c.sa).getD 0

/-- The expected time spoken for an anchor (R38). -/
def expectedFor (c : Call) (a : Option Anchor) : Nat :=
  (if speaksDeparture c a then c.ed else c.ea).getD 0

/-- A number is rendered as the phrase whose id is its value, above 99 as phrase 99 (R38). -/
def sayNumber (n : Nat) : Nat := min n 99

/-- The minutes of a delay, a half minute rounding up; early running is zero (R37). -/
def delayMinutes (d : Int) : Nat := if d < 0 then 0 else (d.toNat + 30) / 60

/-- A delay in minutes, rendered (R37). -/
def sayDelay (d : Int) : List Nat :=
  let m := delayMinutes d
  if m < 60 then [sayNumber m, Config.minutesWord]
  else
    [sayNumber (m / 60), Config.hoursWord] ++
      (if 0 < m % 60 then [sayNumber (m % 60), Config.minutesWord] else [])

/-- A civil minute of the day, rendered (R38). -/
def sayMinute (m : Nat) : List Nat :=
  [sayNumber (m / 60), if m % 60 = 0 then Config.onTheHourWord else sayNumber (m % 60)]

/-- The civil minute of a service or expected time (R38). -/
def civilMinute (t offset : Nat) : Nat := ((t + offset + 30) / 60) % 1440

/-- A service or expected time, rendered (R38). -/
def sayTime (t offset : Nat) : List Nat := sayMinute (civilMinute t offset)

/-- A call counts as delayed for an anchor at its plan's threshold (R36). -/
def isDelayed (s : State) (c : Call) (a : Option Anchor) : Bool :=
  decide (((s.plan c.plan).threshold : Int) ≤ delayFor c a)

/-! ### Resolution -/

/-- The platform-name phrase of a zone, if it has one (R76). -/
def platformName (s : State) (z : Option Nat) : List Nat :=
  match z.bind (fun z => (s.zone z).name) with
  | some p => [p]
  | none => []

/-- An optional phrase of the train description (05, "Templates and tokens"). -/
def optionalPhrase (p : Option Nat) : List Nat := p.toList

/-- The phrase ids a call field token resolves to (05, "Templates and tokens"). -/
def expandField (s : State) (c : Call) (a : Option Anchor) : Token → List Nat
  | .dest => optionalPhrase c.dest
  | .origin => optionalPhrase c.origin
  | .cls => optionalPhrase c.cls
  | .calling => c.calling
  | .platform => platformName s (some c.zone)
  | .oldPlatform => platformName s c.previous
  | .schedTime => sayTime (scheduledFor c a) s.clock.offset
  | .expTime => sayTime (expectedFor c a) s.clock.offset
  | .delay => sayDelay (delayFor c a)
  | _ => []

/-- The phrase ids a token resolves to; without a call every call field token gives nothing (R76). -/
def expandToken (s : State) (c : Option Call) (a : Option Anchor) (t : Token) : List Nat :=
  match t with
  | .phrase p => [p]
  | .number n => [sayNumber n]
  | .time m => sayMinute m
  | t =>
    match c with
    | some c => expandField s c a t
    | none => []

/-- The tests of the conditional segments; both are false without a call (R76, R77). -/
def segmentTest (s : State) (c : Option Call) (a : Option Anchor) (delayed : Bool) : Bool :=
  match c with
  | some c => if delayed then isDelayed s c a else c.changed
  | none => false

/-- Expansion (R77, R78): kept tokens in list order; `keep` tells whether the segment open is kept. -/
def expandTokens (s : State) (c : Option Call) (a : Option Anchor) : Bool → List Token → List Nat
  | _, [] => []
  | keep, t :: ts =>
    match t with
    | .ifDelayed => expandTokens s c a (segmentTest s c a true) ts
    | .ifChanged => expandTokens s c a (segmentTest s c a false) ts
    | .endIf => expandTokens s c a true ts
    | t =>
      if keep then expandToken s c a t ++ expandTokens s c a keep ts else expandTokens s c a keep ts

/-- The token list of a slot's content, a template as it stands (R76). -/
def contentTokens (s : State) : Content → List Token
  | .template n => s.asc.templates.getD n []
  | .tokens ts => ts

/-- The anchor a slot's content is resolved for (R76). -/
def anchorOf : Origin → Option Anchor
  | .cue _ _ a => some a
  | _ => none

/-- A resolution (R78): the phrase list, the skipped count and the truncation marker. -/
structure Resolution where
  phrases : List Phrase
  skipped : Nat
  truncated : Bool
deriving DecidableEq, Repr

/-- The most phrases a resolution keeps before its chime (R78). -/
def maxResolved : Nat := 96

/-- Resolves a slot's content as it stands (R76 to R78). -/
def resolve (s : State) (x : Slot) : Resolution :=
  let ids := expandTokens s (x.call.bind s.call?) (anchorOf x.origin) true (contentTokens s x.content)
  let found := ids.filterMap s.phrase?
  let absent := ids.length - found.length
  let chime := x.chime.bind s.phrase?
  { phrases := chime.toList ++ found.take maxResolved
    skipped := absent + (if x.chime.isSome ∧ chime.isNone then 1 else 0)
    truncated := decide (maxResolved < found.length) }

end Sys2Proof.Machine
end

