-- ==== Sys2Proof/Machine/Store.lean ====
section
/-! DEFINITION. ASC's one creation path with ZRT's placement in it (R81 to R84, R97), and withdrawal
(R85, R28). -/

namespace Sys2Proof.Machine

/-! ### Ids and slots -/

/-- The next id after the counter, wrapping from 255 to 1, that no slot in use holds (R82). -/
def nextId (s : State) : Nat :=
  (((List.range 255).map (fun i => (s.asc.idCounter + i) % 255 + 1)).find?
    (fun i => (s.slot? i).isNone)).getD 0

/-- `a` is the better store victim than `b`, which was created earlier (R83). -/
def betterStoreVictim (a b : Slot) : Bool := decide (a.priority ≤ b.priority)

/-- The victim of a new announcement of priority `p` in a full store (R83). -/
def storeVictim (s : State) (p : Nat) : Option Slot :=
  (s.asc.slots.filter (fun x => decide (x.priority < p) && decide (runCount s x.id = 0))).foldl
    (fun best x =>
      match best with
      | none => some x
      | some b => if betterStoreVictim x b then some x else some b) none

/-- A creation of priority `p` can have a slot: a free one or a victim's (R81, R83). -/
def slotAvailable (s : State) (p : Nat) : Bool :=
  decide (s.asc.slots.length < Config.maxSlots) || (storeVictim s p).isSome

/-- A full store's victim is displaced: its placements dropped, in ascending zone id by the model's choice (log entry 35),
its slot and id freed (R83). -/
def makeSlot (p : Nat) (s : State) : State :=
  if s.asc.slots.length < Config.maxSlots then s
  else
    match storeVictim s p with
    | some v => removeSlot v.id (dropEverywhere v.id .displaced s)
    | none => s

/-- The slot is filled and the announcement takes its id; the counter holds it (R81, R82). -/
def recordSlot (proto : Slot) (a : Nat) (s : State) : State :=
  s.withAsc { s.asc with
    slots := s.asc.slots ++ [{ proto with id := a, seq := s.asc.created }],
    idCounter := a, created := s.asc.created + 1 }

/-! ### Placement at a creation -/

/-- What ZRT returns of a placement (R97): zones placed, held among them, refused, and refused
QUEUE_FULL among those. -/
structure Counts where
  placed : Nat
  held : Nat
  refused : Nat
  full : Nat
deriving DecidableEq, Repr

/-- No zone placed or refused yet. -/
def noCounts : Counts := { placed := 0, held := 0, refused := 0, full := 0 }

/-- The first reason of R97 that refuses a zone. -/
def refuseReason (s : State) (x : Slot) (z : Nat) : Option RefuseReason :=
  let eff := effective (s.zone z)
  if eff = .isolated then some .isolated
  else if eff = .closed ∧ x.priority < 6 then some .closed
  else if inNight s.smc.mode ∧ x.priority < 6 then some .night
  else if latestPassed s x.id then some .expired
  else if hasRoom s z x.priority = false then some .queueFull
  else none

/-- The condition of a new placement in zone `z` (R97). -/
def newCondition (s : State) (z p : Nat) : Condition :=
  if effective (s.zone z) = .evacuate ∧ p < 7 then .held else .waiting

/-- The new placement of an announcement in zone `z` (R97, R98); its stamp is taken as it enters. -/
def newPlacement (s : State) (x : Slot) (z : Nat) : Placement :=
  { announcement := x.id, priority := x.priority, stamp := 0, condition := newCondition s z x.priority,
    repeats := x.repeats, interrupted := 0 }

/-- An evacuation announcement passes over the zones of its target set that another source covers (R119). -/
def deferredHere (s : State) (x : Slot) (z : Nat) : Bool :=
  match x.origin with
  | .evac n => decide ((s.zone z).base ≠ .isolated) && decide ((s.zone z).covering ≠ some n)
  | _ => false

/-- ZRT makes or refuses the placement of an announcement in one zone of its target set (R97). -/
def placeIn (x : Slot) (cs : Counts × State) (z : Nat) : Counts × State :=
  let (c, s) := cs
  if deferredHere s x z then (c, s)
  else
    match refuseReason s x z with
    | some reason =>
      ({ c with refused := c.refused + 1, full := c.full + (if reason = .queueFull then 1 else 0) },
        generate (.placementRefused x.id z x.priority reason) s)
    | none =>
      let p := newPlacement s x z
      ({ c with placed := c.placed + 1, held := c.held + (if p.condition = .held then 1 else 0) },
        enterNew z p s)

/-- ZRT takes the zones of the target set in ascending zone id (R97). -/
def placeAll (x : Slot) (s : State) : Counts × State :=
  (targetSet s x.target).foldl (placeIn x) (noCounts, s)

/-! ### Creation -/

/-- How a creation ends (R81): kept with its id and counts, or failed. -/
inductive Created where
  | kept (a : Nat) (counts : Counts)
  | storeFull
  | noTarget (counts : Counts)
deriving DecidableEq, Repr

/-- The four steps of a creation (R81), without what SMC and PLE do of it afterwards. -/
def create (proto : Slot) (s : State) : Created × State :=
  if slotAvailable s proto.priority then
    let s1 := makeSlot proto.priority s
    let a := nextId s1
    let (c, s2) := placeAll { proto with id := a } (recordSlot proto a s1)
    if 0 < c.placed then (.kept a c, s2) else (.noTarget c, removeSlot a s2)
  else (.storeFull, s)

/-- The id a creation gave, or 0 (R47, R113). -/
def createdId : Created → Nat
  | .kept a _ => a
  | _ => 0

/-- The zones a creation placed the announcement in (R47). -/
def createdZones : Created → Nat
  | .kept _ c => c.placed
  | _ => 0

/-- The zones of a creation that were refused QUEUE_FULL (R113, R122). -/
def createdFull : Created → Nat
  | .kept _ c => c.full
  | .storeFull => 0
  | .noTarget c => c.full

/-- SMC takes the emergency events of a creation that placed priority 6 or 7 (R97, R149). -/
def reportEmergency (p : Nat) (r : Created) (s : State) : State :=
  match r with
  | .kept _ _ => if 6 ≤ p then emergencyEvent s else s
  | _ => s

/-! ### Withdrawal -/

/-- The placements an announcement has, for the count WITHDRAW reports. -/
def withdrawCounts (s : State) (a : Nat) : Nat × Nat :=
  match s.slot? a with
  | some x => if x.withdrawn then (0, 0) else (placementCount s a, (channelsPlaying s a).length)
  | none => (0, 0)

/-- ASC withdraws announcement `a` (R85): marker, placements, runs. The slot is freed with its last
placement or run; one that has neither is freed at once. -/
def withdrawAnnouncement (a : Nat) (s : State) : State :=
  match s.slot? a with
  | none => s
  | some x =>
    if x.withdrawn then s
    else markRuns a (dropEverywhere a .withdrawn (s.modifySlot a (fun x => { x with withdrawn := true })))

/-- ASC withdraws every announcement whose call reference is the call (R28). Their order, which R28 and R85 leave
open, is the model's choice: that of their creation (log entry 35). -/
def withdrawCall (id : Nat) (s : State) : State :=
  forEach ((s.asc.slots.filter (fun x => x.call == some id)).map Slot.id) withdrawAnnouncement s

end Sys2Proof.Machine
end

