-- ==== Sys2Proof/Machine/Arbiter.lean ====
section
/-! DEFINITION. The run start (R126), and the channel arbiter: its choices and its pass (R133 to R137). -/

namespace Sys2Proof.Machine

/-! ### Run start -/

/-- The attachment of a zone that joins a run with its queue's placement `p` (R126). -/
def attachment (s : State) (prio z : Nat) (p : Placement) : Attached :=
  { zone := z, gain := joinGain (s.zone z) prio, mark := none, placement := p }

/-- Announcement `a`'s placement in zone `z`'s queue. -/
def placementIn (s : State) (z a : Nat) : Option Placement :=
  (s.zone z).queue.find? (fun p => p.announcement == a)

/-- The attachments of the zones that join a run of announcement `a` (R126, steps 1 and 2). -/
def attachments (s : State) (prio a : Nat) (zs : List Nat) : List Attached :=
  zs.filterMap (fun z => (placementIn s z a).map (attachment s prio z))

/-- A zone's lamp pulse begins when it joins a run at or above its threshold (R140). -/
def beginPulse (prio : Nat) (ends : RunTime) (zn : Zone) : Zone :=
  if zn.lampMode = .pulsed ∧ zn.lampThreshold ≤ prio then { zn with pulseEnd := some ends } else zn

/-- The run a start puts on a channel (R126, steps 3 to 6). It takes the sequence number as it stands and the number then
advances, so that the first run after a reset has 0; that it is 0 and not 1 is the model's choice (R125; log entry 44). -/
def newRun (s : State) (x : Slot) (r : Resolution) (zs : List Attached) : Run :=
  { announcement := x.id, priority := x.priority, seq := s.ple.nextSeq, start := s.now,
    phrases := r.phrases, position := 0, phase := .phrase,
    phaseEnd := s.after ((r.phrases.head?.map Phrase.duration).getD 0),
    skipped := r.skipped, truncated := r.truncated, zones := zs, left := [] }

/-- The channel becomes PLAYING with the next start sequence number (R125, R126). -/
def occupyChannel (c : Nat) (r : Run) (s : State) : State :=
  s.withPle { s.ple with channels := s.ple.channels.set c (some r), nextSeq := s.ple.nextSeq + 1 }

/-- The RUN_STARTED notice (R126). -/
def startNotice (c : Nat) (r : Run) (seized : Option Nat) : Notice :=
  .runStarted c r.announcement r.priority r.phrases.length (r.zones.map (fun a => (a.zone, a.gain))) seized

/-- A run of announcement slot `x` starts on the IDLE channel `c` in the zones `zs` (R126); an empty
resolution ends it at its start with outcome EMPTY (R79). -/
def startRun (c : Nat) (x : Slot) (zs : List Nat) (seized : Option Nat) (s : State) : State :=
  let run := newRun s x (resolve s x) (attachments s x.priority x.id zs)
  let s1 := forEach zs (fun z => takePlacement z x.id) s
  let s2 := generate (startNotice c run seized) (judgeHold (occupyChannel c run s1))
  if run.phrases = [] then endRun c .empty s2
  else forEach zs (fun z s => s.modifyZone z (beginPulse x.priority (s.after Config.pulseTenths))) s2

/-! ### The arbiter's choices -/

/-- Zone `z`'s queue head when it is WAITING and its zone and the station mode admit its priority: the
part of R134 and R135 that does not look at attachment. -/
def admittedHead (s : State) (z : Nat) : Option Placement :=
  match (s.zone z).queue with
  | [] => none
  | p :: _ =>
    if p.condition = .waiting ∧ zoneAdmits (effective (s.zone z)) p.priority ∧ modeAdmits s.smc.mode p.priority then
      some p
    else none

/-- The eligible placement of zone `z`, if it has one (R134). -/
def eligibleHead (s : State) (z : Nat) : Option Placement :=
  if (attachedChannel s z).isSome then none else admittedHead s z

/-- Zone `z`'s head seizes it from a run of strictly lower priority (R135). -/
def seizes (s : State) (z : Nat) : Bool :=
  match admittedHead s z, runOf s z with
  | some p, some r => decide (6 ≤ p.priority) && decide (r.priority < p.priority)
  | _, _ => false

/-- `p` is a better candidate than `b`, which stands in a zone of lower id (R136). -/
def betterCandidate (next : Stamp) (p b : Placement) : Bool :=
  decide (b.priority < p.priority) ||
    (decide (p.priority = b.priority) && decide (ageOf next b.stamp < ageOf next p.stamp))

/-- The candidate of a round: highest priority, then oldest stamp, then lowest zone id (R136). -/
def candidate (s : State) : Option Placement :=
  (allZones.filterMap (eligibleHead s)).foldl
    (fun best p =>
      match best with
      | none => some p
      | some b => if betterCandidate s.zrt.stampCounter p b then some p else some b) none

/-- The lowest-numbered IDLE channel (R136). -/
def idleChannel (s : State) : Option Nat := allChannels.find? (fun c => (s.channel c).isNone)

/-- `r` is a better victim channel than `b`, which has a lower number (R137). -/
def betterChannel (next : Stamp) (r b : Run) : Bool :=
  decide (r.priority < b.priority) ||
    (decide (r.priority = b.priority) && decide (ageOf next r.seq ≤ ageOf next b.seq))

/-- The victim channel of a candidate of priority `p`, with its run (R137). -/
def victimChannel (s : State) (p : Nat) : Option (Nat × Run) :=
  (allChannels.filterMap (fun c => (s.channel c).map (fun r => (c, r)))).foldl
    (fun best e =>
      if e.2.priority < p then
        match best with
        | none => some e
        | some b => if betterChannel s.ple.nextSeq e.2 b.2 then some e else some b
      else best) none

/-- The zones a run of announcement `a` starts in (R136). -/
def startZones (s : State) (a : Nat) : List Nat :=
  allZones.filter (fun z =>
    match eligibleHead s z with
    | some p => p.announcement == a
    | none => false)

/-- The candidate's run starts on channel `c` (R136, step 4); a run has at least one zone (R125). -/
def startCandidate (c : Nat) (p : Placement) (seized : Option Nat) (s : State) : Option State :=
  match s.slot? p.announcement, startZones s p.announcement with
  | some x, z :: zs => some (startRun c x (z :: zs) seized s)
  | _, _ => none

/-- A round's start (R136): on an IDLE channel, or on a channel seized for priority 6 or 7 (R137). -/
def startRound (s : State) : Option State :=
  match candidate s with
  | none => none
  | some p =>
    match idleChannel s with
    | some c => startCandidate c p none s
    | none =>
      if 6 ≤ p.priority then
        match victimChannel s p.priority with
        | some (c, r) => startCandidate c p (some r.announcement) (seizeChannel c s)
        | none => none
      else none

/-- The first zone seizure to be made (R135). -/
def seizureRound (s : State) : Option State :=
  (allZones.find? (seizes s)).map (fun z => cutZone z .zoneSeizure s)

/-- One round of a pass: the first zone seizure to be made, or else one start; `none` when nothing remains
(R135, R136). -/
def passRound (s : State) : Option State := (seizureRound s).or (startRound s)

/-- Rounds of a pass are taken until none remains. -/
def passFor : Nat → State → State
  | 0, s => s
  | n + 1, s =>
    match passRound s with
    | some s' => passFor n s'
    | none => s

/-- The arbiter's pass, whole through all its starts (R133, R136). -/
def arbiterPass (s : State) : State := passFor Config.settleFuel s

end Sys2Proof.Machine
end

