-- ==== Sys2Proof/Machine/Evacuation.lean ====
section
/-! DEFINITION. Evacuation coverage: the evacuation announcement, a zone's entering, hand-over and leaving,
recomputation, and activation (R111, R112, R115 to R120). -/

namespace Sys2Proof.Machine

/-! ### The evacuation announcement -/

/-- The contents of source `n`'s evacuation announcement (R119). -/
def evacProto (s : State) (n : Nat) : Slot :=
  let key := (s.source n).key
  { id := 0, seq := 0, priority := 7, origin := .evac n, content := .template key.template, call := none,
    chime := none, repeats := .continuous, interval := key.interval, latestStart := none,
    target := [key.target], withdrawn := false }

/-- The voice a creation gives its source (R120). -/
def voiceOf : Created → Voice
  | .kept a _ => .voiced a
  | .storeFull => .awaitingSlot
  | .noTarget _ => .silent

/-- Source `n`'s announcement is created and its voice set by the creation (R119, R120). -/
def createEvac (n : Nat) (s : State) : Created × State :=
  let (r, s1) := create (evacProto s n) s
  (r, setVoice n (voiceOf r) s1)

/-- A creation attempted for an ACTIVE source that is not VOICED (R120): complete with the arbiter's pass it
triggers before the source's own report of its voice (R81, R97), and SMC's change of mode after that report
(R152). -/
def voiceAttempt (n : Nat) (s : State) : State :=
  let (r, s1) := createEvac n s
  reportEmergency 7 r (reportVoice n (s.source n).voice (createdFull r) (arbiterPass s1))

/-- Zone `z` is attached to a run of announcement `a`. -/
def playsIn (s : State) (z a : Nat) : Bool :=
  match runOf s z with
  | some r => r.announcement == a
  | none => false

/-- The coverage placement of source `n` in zone `z`, or the creation attempted in its place (R119). In a
zone still attached to a run of the announcement it waits until the zone leaves that run. -/
def placeCoverage (n z : Nat) (s : State) : State :=
  match (s.source n).voice with
  | .voiced a =>
    if holdsPlacement s z a || playsIn s z a then s else makeCoverage z a s
  | _ => voiceAttempt n s

/-! ### Entering, handing over, leaving -/

/-- The ZONE_STATE_CHANGE notice of a change from the zone's record `before` (R106). -/
def zoneChange (s : State) (z : Nat) (before : Zone) (cause : ZoneCause) : Notice :=
  .zoneStateChange z before.base (effective before) (s.zone z).base (effective (s.zone z)) cause

/-- Zone `z`'s covering source is set. -/
def setCovering (z : Nat) (n : Option Nat) (s : State) : State :=
  s.modifyZone z (fun zn => { zn with covering := n })

/-- A WAITING placement below 7 becomes HELD (R116). -/
def holdPlacement (p : Placement) : Placement :=
  if p.condition = .waiting ∧ p.priority < 7 then { p with condition := .held } else p

/-- A HELD placement becomes WAITING (R118). -/
def releasePlacement (p : Placement) : Placement :=
  if p.condition = .held then { p with condition := .waiting } else p

/-- A zone attached to a run below 7 is cut for evacuation (R116). -/
def cutForEvacuation (z : Nat) (s : State) : State :=
  match runOf s z with
  | some r => if r.priority < 7 then cutZone z .evacuation s else s
  | none => s

/-- Zone `z` enters EVACUATE under source `n` (R116); `before` is its record before the change, reported
with `cause`. `place` is off at an activation, whose creation makes the placements. -/
def enterEvacuate (z n : Nat) (before : Zone) (cause : ZoneCause) (place : Bool) (s : State) : State :=
  let s1 := setCovering z (some n) s
  let s2 := cutForEvacuation z (generate (zoneChange s1 z before cause) s1)
  let s3 := s2.modifyZone z (fun zn => { zn with queue := zn.queue.map holdPlacement })
  if place then placeCoverage n z s3 else s3

/-- Whether announcement `a` is an evacuation announcement of source `n`. -/
def ofSource (s : State) (n a : Nat) : Bool :=
  match s.slot? a with
  | some x => decide (x.origin = .evac n)
  | none => false

/-- Source `n`'s share of zone `z` is withdrawn there: its queued placement dropped, a run of its
announcement marked to truncate in the zone (R117, R118). -/
def withdrawShare (n z : Nat) (s : State) : State :=
  let s1 := dropWhere z .withdrawn (fun p => ofSource s n p.announcement) s
  match runOf s1 z with
  | some r => if ofSource s1 n r.announcement then markZone z .withdrawal s1 else s1
  | none => s1

/-- Zone `z` is handed over from source `a` to source `b` (R117). -/
def handOver (z a b : Nat) (place : Bool) (s : State) : State :=
  let s1 := setCovering z (some b) s
  let s2 := withdrawShare a z (generate (zoneChange s1 z (s.zone z) .evacuation) s1)
  if place then placeCoverage b z s2 else s2

/-- Zone `z` leaves EVACUATE for its base state (R118). -/
def leaveEvacuate (z a : Nat) (s : State) : State :=
  let s1 := setCovering z none s
  let s2 := withdrawShare a z (generate (zoneChange s1 z (s.zone z) .evacuation) s1)
  let s3 := s2.modifyZone z (fun zn => { zn with queue := zn.queue.map releasePlacement })
  if (s3.zone z).base = .closed then dropWhere z .closed (fun p => decide (p.priority < 6)) s3 else s3

/-- Coverage is recomputed for zone `z` (R115). -/
def recomputeZone (place : Bool) (z : Nat) (s : State) : State :=
  match (s.zone z).covering, coveringOf s z with
  | none, none => s
  | none, some b => enterEvacuate z b (s.zone z) .evacuation place s
  | some a, some b => if a = b then s else handOver z a b place s
  | some a, none => leaveEvacuate z a s

/-! ### Activation -/

/-- The entry an activation finds for a key (R111). -/
def findEntry (s : State) (key : SourceKey) : Option Nat :=
  let withKey := allSources.find? (fun n => decide ((s.source n).state ≠ .free) && decide ((s.source n).key = key))
  let free := allSources.find? (fun n => decide ((s.source n).state = .free))
  let inactive := allSources.find? (fun n => decide ((s.source n).state = .inactive))
  withKey.or (free.or inactive)

/-- The ACTIVE entry that holds a key, if any (R113, R114). -/
def activeWithKey (s : State) (key : SourceKey) : Option Nat :=
  allSources.find? (fun n => decide ((s.source n).state = .active) && decide ((s.source n).key = key))

/-- Steps 1 and 2 of an activation (R112): the entry becomes ACTIVE, coverage is recomputed for the zones
its target matches. -/
def activateEntry (n : Nat) (key : SourceKey) (latched : Bool) (s : State) : State :=
  let s1 := s.modifySource n (fun _ => { state := .active, key := key, latched := latched, voice := .none })
  forEach (allZones.filter (fun z => matchesPair (s1.zone z).address key.target)) (recomputeZone false) s1

end Sys2Proof.Machine
end

