-- ==== Sys2Proof/Machine/Settle.lean ====
section
/-! DEFINITION. `settle`: what follows an event until nothing remains to be placed, created or started (R119,
R120, R133), the whole creation (R81, R97) and the whole activation (R112) that end in it. -/

namespace Sys2Proof.Machine

/-- Zone `z` lacks the placement of the VOICED source that covers it, and has room for it (R119). R119 names two ways a
zone comes to lack it, a coverage placement refused QUEUE_FULL and a return dropped DISPLACED. That a zone refused
QUEUE_FULL at the creation itself gets the later coverage placement too is the model's choice (log entry 38). -/
def lacksCoverage (s : State) (z : Nat) : Bool :=
  match (s.zone z).covering with
  | none => false
  | some n =>
    match (s.source n).voice with
    | .voiced a =>
      decide ((s.source n).state = .active) && !holdsPlacement s z a && !playsIn s z a && hasRoom s z 7
    | _ => false

/-- The coverage placement that a zone still lacks is made (R119). -/
def coverageRound (s : State) : Option State :=
  (allZones.find? (lacksCoverage s)).bind (fun z =>
    (s.zone z).covering.map (fun n => placeCoverage n z s))

/-- An ACTIVE source that is not VOICED has a creation to attempt: while AWAITING_SLOT when a slot can be
had, while SILENT when a zone it covers has room (R120). -/
def wantsVoice (s : State) (n : Nat) : Bool :=
  decide ((s.source n).state = .active) &&
    match (s.source n).voice with
    | .voiced _ => false
    | .none => false
    | .awaitingSlot => slotAvailable s 7
    | .silent => allZones.any (fun z => decide ((s.zone z).covering = some n) && hasRoom s z 7)

/-- The creation of the first source that wants one, in ascending source number (R120). -/
def voiceRound (s : State) : Option State :=
  (allSources.find? (wantsVoice s)).map (fun n => voiceAttempt n s)

/-- One round of settling: coverage placements and creations first, then the rounds of a pass; `none` when
nothing remains. -/
def settleRound (s : State) : Option State := (coverageRound s).or ((voiceRound s).or (passRound s))

/-- Rounds are taken until none remains. -/
def settleFor : Nat → State → State
  | 0, s => s
  | n + 1, s =>
    match settleRound s with
    | some s' => settleFor n s'
    | none => s

/-- What follows an event: coverage placements and creations that its drops and run ends call for, and
the arbiter's pass (R119, R120, R133). -/
def settle (s : State) : State := settleFor Config.settleFuel s

/-- A creation, complete with its emergency events and the pass it triggers (R81, R97). -/
def createWhole (proto : Slot) (s : State) : Created × State :=
  let (r, s1) := create proto s
  (r, settle (reportEmergency proto.priority r s1))

/-- An activation of entry `n` (R112), all five steps: the creation's pass is part of the creation, and
SMC's change of mode is reported after the activation's notices (R152). -/
def activate (n : Nat) (key : SourceKey) (latched : Bool) (s : State) : Created × State :=
  let (r, s1) := createEvac n (activateEntry n key latched s)
  let s2 := settle s1
  (r, settle (emergencyEvent (generate (evacNotice s2 n .activated (createdFull r)) s2)))

end Sys2Proof.Machine
end

