-- ==== Sys2Proof/Machine/Requests.lean ====
section
/-! DEFINITION. A command written out as the request that carries it, and the taking of a request command:
which request LNK hands next, and the reply that follows the owner's work (R158, R159). -/

namespace Sys2Proof.Machine

/-! ### Writing bodies -/

/-- A body that the kind does not allow stands in for every such body; no owner reads it. -/
def bodyBytes {α : Type} (bad : List Byte) (f : α → List Byte) : Body α → List Byte
  | .malformed => bad
  | .fields a => f a

/-- An empty body; the malformed one is a byte too long. -/
def emptyBody : Body Unit → List Byte := bodyBytes (u8 0) (fun _ => [])

/-- A body with fields; the malformed one is empty. -/
def fieldBody {α : Type} (f : α → List Byte) : Body α → List Byte := bodyBytes [] f

/-- A token as it travels (R168). -/
def tokenBytes (t : RawToken) : List Byte := u8 t.code ++ u16 t.param

/-- A token list (R168). -/
def tokenList (ts : List RawToken) : List Byte := u8 ts.length ++ ts.flatMap tokenBytes

/-- A header (R80, R88). -/
def headerBytes (h : HeaderReq) : List Byte :=
  u8 h.priority ++ u16 h.address ++ u16 h.mask ++ optPhrase h.chime ++ u8 h.repeats ++ u16 h.interval ++
    optLatest h.latestStart ++ optCall h.call

/-- DAY_CONFIG (R11). -/
def dayConfigBytes (r : DayConfigReq) : List Byte :=
  u32 r.offset ++ optTime r.nightStart ++ optTime r.openTime ++ u16 r.matchWindow

/-- CALL_LOAD (11, "The call record"). -/
def callLoadBytes (r : CallLoadReq) : List Byte :=
  u16 r.id ++ u8 r.dayTag ++ u8 r.kind ++ u8 r.zone ++ u32 r.sa ++ u32 r.sd ++ u16 r.oa ++
    optPhrase r.dest ++ optPhrase r.origin ++ optPhrase r.cls ++ u8 r.plan ++ u8 r.calling.length ++
    r.calling.flatMap u16

/-- A delay after its presence byte; an absent one still takes its four bytes (log entry 16). -/
def delayBytes (d : Option Int) : List Byte := flag d.isSome ++ i32 (d.getD 0)

/-- One cue of PLAN_SET. -/
def cueBytes (q : RawCue) : List Byte :=
  u8 q.anchor ++ i16 q.offset ++ u8 q.template ++ u8 q.priority ++ u8 q.targetKind ++ u16 q.address ++
    u16 q.mask ++ u8 q.repeats ++ u16 q.interval ++ u16 q.expiry ++ u16 q.late

/-- PLAN_SET (11, "The cue plan"). -/
def planSetBytes (r : PlanSetReq) : List Byte :=
  u8 r.plan ++ u16 r.threshold ++ u8 r.cues.length ++ r.cues.flatMap cueBytes

/-- A function code with its parameters (R61). -/
def functionBytes : RawFunction → List Byte
  | .general => u8 1
  | .trainDetect z => u8 2 ++ u8 z
  | .dispatch z => u8 3 ++ u8 z
  | .platformClose z => u8 4 ++ u8 z
  | .firePanel a m t i => u8 5 ++ u16 a ++ u16 m ++ u8 t ++ u16 i
  | .unknown c => u8 c

/-- INPUT_CONFIG (R61). -/
def inputConfigBytes (r : InputConfigReq) : List Byte :=
  u8 r.input ++ u8 r.polarity ++ u8 r.sense ++ u16 r.debounce ++ functionBytes r.function ++
    flag r.notice ++ flag r.wake

/-- One entry of PHRASE_SET (R74). -/
def phraseBytes (p : PhraseReq) : List Byte := u16 p.id ++ u16 p.duration ++ u32 p.location

/-- ZONE_CONFIG (R92). -/
def zoneConfigBytes (r : ZoneConfigReq) : List Byte :=
  u8 r.zone ++ flag r.enabled ++ u16 r.address ++ u8 r.kind ++ optPhrase r.name ++ i8 r.g0 ++ i8 r.gmin ++
    i8 r.gmax ++ u8 r.nref ++ u8 r.slope ++ u8 r.lampMode ++ u8 r.lampThreshold

/-- CHANNEL_READ (R169). -/
def channelReadBytes (r : ChannelReadReq) : List Byte :=
  optNumber r.channel ++ u8 r.sectionCode ++
    (if r.sectionCode = 3 ∨ r.start ≠ 0 then u8 r.start else [])

/-- A request of the kind, not yet answered. -/
def request (kind : Nat) (tag : Byte) (body : List Byte) : Option Request :=
  some { kind := kind, tag := tag, body := body, answered := false }

/-- The request a command spells; an event spells none. -/
def requestOf : Instr → Option Request
  | .unknownKind t k => request k t []
  | .identify t b => request 0x01 t (emptyBody b)
  | .statusRead t b => request 0x02 t (emptyBody b)
  | .restart t b => request 0x03 t (emptyBody b)
  | .linkConfig t b => request 0x04 t (fieldBody (fun r => u8 r.n ++ u8 r.k) b)
  | .noticeMask t b => request 0x05 t (fieldBody (fun m => u16 m.toNat) b)
  | .clockHold t b => request 0x10 t (emptyBody b)
  | .clockSet t b => request 0x11 t (fieldBody u32 b)
  | .clockRelease t b => request 0x12 t (emptyBody b)
  | .clockRead t b => request 0x13 t (emptyBody b)
  | .dayConfig t b => request 0x14 t (fieldBody dayConfigBytes b)
  | .callLoad t b => request 0x20 t (fieldBody callLoadBytes b)
  | .callDelete t b => request 0x21 t (fieldBody u16 b)
  | .callDelay t b => request 0x22 t
      (fieldBody (fun r => u16 r.id ++ delayBytes r.arrival ++ delayBytes r.departure) b)
  | .callPlatform t b => request 0x23 t (fieldBody (fun r => u16 r.id ++ u8 r.zone) b)
  | .callCancel t b => request 0x24 t (fieldBody u16 b)
  | .callReport t b => request 0x25 t (fieldBody (fun r => u16 r.id ++ u8 r.stage ++ u32 r.time) b)
  | .callRead t b => request 0x26 t (fieldBody u16 b)
  | .callList t b => request 0x27 t (fieldBody u16 b)
  | .planSet t b => request 0x28 t (fieldBody planSetBytes b)
  | .inputConfig t b => request 0x30 t (fieldBody inputConfigBytes b)
  | .inputRead t b => request 0x31 t (fieldBody optNumber b)
  | .inputClear t b => request 0x32 t (fieldBody (fun m => u32 m.toNat) b)
  | .phraseSet t b => request 0x40 t (fieldBody (fun ps => u8 ps.length ++ ps.flatMap phraseBytes) b)
  | .templateSet t b => request 0x41 t (fieldBody (fun r => u8 r.template ++ tokenList r.tokens) b)
  | .announce t b => request 0x42 t (fieldBody (fun r => headerBytes r.header ++ tokenList r.tokens) b)
  | .composeBegin t b => request 0x43 t (fieldBody flag b)
  | .composePart t b => request 0x44 t (fieldBody tokenList b)
  | .composeEnd t b => request 0x45 t (fieldBody headerBytes b)
  | .withdraw t b => request 0x46 t (fieldBody u8 b)
  | .storeRead t b => request 0x47 t (fieldBody (fun r => u8 r.value ++ u8 r.selector) b)
  | .zoneConfig t b => request 0x50 t (fieldBody zoneConfigBytes b)
  | .groupSet t b => request 0x51 t (fieldBody (fun r => u16 r.select.toNat ++ u16 r.value.toNat) b)
  | .zoneState t b => request 0x52 t (fieldBody (fun r => u8 r.zone ++ u8 r.state) b)
  | .zoneRead t b => request 0x53 t (fieldBody optNumber b)
  | .evacStart t b => request 0x54 t
      (fieldBody (fun r => u16 r.address ++ u16 r.mask ++ u8 r.template ++ u16 r.interval) b)
  | .evacClear t b => request 0x55 t (fieldBody u8 b)
  | .playoutConfig t b => request 0x60 t (fieldBody u8 b)
  | .channelRead t b => request 0x61 t (fieldBody channelReadBytes b)
  | .modeSet t b => request 0x70 t (fieldBody (fun r => u8 r.mode ++ u8 r.warmUp) b)
  | .powerOn => none
  | .resetAssert => none
  | .resetRelease => none
  | .frameReceived _ => none
  | .interByteTimeout => none
  | .frameTransmitted => none
  | .secondOfStationTime _ => none
  | .debounceExpiry _ => none
  | .composeCheckCompletion => none
  | .restEnd _ _ => none
  | .ambientSample _ => none
  | .phraseCompletion _ => none
  | .gapEnd _ => none
  | .lampPulseEnd _ => none
  | .warmUpEnd => none
  | .alertHoldExpiry => none
  | .tenthOfRunTime => none
  | .inputSampling _ => none

/-! ### Taking a request command -/

/-- The command the request LNK hands next spells, if one waits (R158). -/
def handed (l : Lnk) : Option Instr := (oldestUnanswered l).map decodeRequest

/-- LNK with a request added as the newest of the queue (R158). -/
def enqueue (r : Request) (l : Lnk) : Lnk := { l with queue := l.queue ++ [r] }

/-- The state in which command `c` is handed to its owner, or `none` when it cannot be: the part is not in
reset, and the oldest unanswered request spells `c`; or none is unanswered and the queue has room, and the
frame that spells `c` arrives with the command (R158; log entry 2). -/
def takeRequest (c : Instr) (s : State) : Option State :=
  if s.resetLine then none
  else
    match handed s.lnk with
    | some d => if d = c then some s else none
    | none =>
      match requestOf c with
      | some r =>
        if s.lnk.queue.length < Config.maxRequests ∧ decodeRequest r = c then
          some (s.withLnk (enqueue r s.lnk))
        else none
      | none => none

/-- A request's reply follows the effect that its owner gave it (R158). -/
def reply (r : Result × State) : State := answer r.1 r.2

/-- A request command is taken: the owner's `op` acts on its fields and the reply is generated; a body of
a length its kind does not allow is refused MALFORMED (R158, R159). Where the request cannot be handed the
command has no effect. -/
def serve {α : Type} (c : Instr) (body : Body α) (op : α → State → Result × State) (s : State) : State :=
  match takeRequest c s with
  | none => s
  | some s0 =>
    match body with
    | .malformed => answer (refuse .malformed) s0
    | .fields a => reply (op a s0)

/-- A request whose owner reads the tag as well (R80, R88). -/
def serveRead {α : Type} (c : Instr) (body : Body α) (op : α → State → Result) (s : State) : State :=
  serve c body (fun a s => (op a s, s)) s

end Sys2Proof.Machine
end

