-- ==== Sys2Proof/Machine/ClockFamily.lean ====
section
/-! DEFINITION. The requests of CLK: CLOCK_HOLD, CLOCK_SET, CLOCK_RELEASE, CLOCK_READ and DAY_CONFIG
(R6 to R8, R11, R12). -/

namespace Sys2Proof.Machine

/-- The clock is held, the prescaler keeping its count (R2, R6). -/
def heldClock (c : Clock) : Clock := { c with held := true }

/-- CLOCK_HOLD (R6). -/
def holdClock (s : State) : Result × State :=
  (accept false [],
    if s.clock.held then s else generate (.clockEvent .held none) (s.withClock (heldClock s.clock)))

/-- A held clock after an accepted set (R7). -/
def clockAt (t : Nat) (c : Clock) : Clock :=
  { c with service := t, prescaler := 0, unset := false }

/-- CLOCK_SET (R7). -/
def setClock (t : Nat) (s : State) : Result × State :=
  if s.clock.held = false then (refuse .clockNotHeld, s)
  else if Config.daySeconds ≤ t then (refuse .outOfRange, s)
  else (accept false [],
    generate (.clockEvent .set (some s.clock.service)) (s.withClock (clockAt t s.clock)))

/-- CLOCK_RELEASE (R8). -/
def releaseClock (s : State) : Result × State :=
  if s.clock.unset then (refuse .clockNotSet, s)
  else if s.clock.held then
    (accept false [], generate (.clockEvent .released none) (s.withClock { s.clock with held := false }))
  else (accept false [], s)

/-- Civil time (R5). -/
def civilTime (c : Clock) : Nat := (c.service + c.offset) % Config.daySeconds

/-- The accepted body of CLOCK_READ (R12). The bytes of the held and unset conditions are the model's choice:
1 where the condition holds and 0 where it does not (log entry 16). -/
def clockBody (c : Clock) : List Byte :=
  u32 c.service ++ u32 (civilTime c) ++ flag c.held ++ flag c.unset ++ u16 c.day.toNat ++
    runTimeBytes c.runTime ++ u8 c.prescaler ++ u32 c.offset ++ optTime c.nightStart ++
    optTime c.openTime ++ u16 c.matchWindow

/-- A present automatic time is above 86,399 (R11). -/
def badTime : Option Nat → Bool
  | some t => decide (Config.daySeconds ≤ t)
  | none => false

/-- DAY_CONFIG is refused OUT_OF_RANGE (R11). -/
def dayOutOfRange (r : DayConfigReq) : Bool :=
  decide (Config.daySeconds ≤ r.offset) || badTime r.nightStart || badTime r.openTime ||
    (r.nightStart.isSome && decide (r.nightStart = r.openTime))

/-- The match window a request gives, clamped (R11). -/
def clampWindow (w : Nat) : Nat := clampNat w 60 3600

/-- The day settings of an accepted DAY_CONFIG (R11). -/
def withDay (r : DayConfigReq) (c : Clock) : Clock :=
  { c with offset := r.offset, nightStart := r.nightStart, openTime := r.openTime,
           matchWindow := clampWindow r.matchWindow }

/-- DAY_CONFIG (R11). -/
def configureDay (r : DayConfigReq) (s : State) : Result × State :=
  if dayOutOfRange r then (refuse .outOfRange, s)
  else (accept (decide (clampWindow r.matchWindow ≠ r.matchWindow)) [], s.withClock (withDay r s.clock))

/-- CLOCK_HOLD. -/
def execClockHold (tag : Byte) (body : Body Unit) (s : State) : Exec :=
  .next (serve (.clockHold tag body) body (fun _ => holdClock) s)

/-- CLOCK_SET. -/
def execClockSet (tag : Byte) (body : Body Nat) (s : State) : Exec :=
  .next (serve (.clockSet tag body) body setClock s)

/-- CLOCK_RELEASE. -/
def execClockRelease (tag : Byte) (body : Body Unit) (s : State) : Exec :=
  .next (serve (.clockRelease tag body) body (fun _ => releaseClock) s)

/-- CLOCK_READ (R12). -/
def execClockRead (tag : Byte) (body : Body Unit) (s : State) : Exec :=
  .next (serveRead (.clockRead tag body) body (fun _ s => accept false (clockBody s.clock)) s)

/-- DAY_CONFIG. -/
def execDayConfig (tag : Byte) (body : Body DayConfigReq) (s : State) : Exec :=
  .next (serve (.dayConfig tag body) body configureDay s)

end Sys2Proof.Machine
end

