-- ==== Sys2Proof/Machine/Timetable.lean ====
section
/-! DEFINITION. TTU's shared operations: expected times (R32 to R35), the table's order (R14), conflicts
(R39 to R41), the transitions of a call (R21 to R25), and cues (R43 to R51). -/

namespace Sys2Proof.Machine

/-! ### Expected times -/

/-- Da as a computation sets it from AA, with its clamp flag (R33). -/
def deriveDelay (c : Call) : Call :=
  match c.aa with
  | some a =>
    if hasArrival c.kind then
      let d : Int := (a.time : Int) - (c.sa.getD 0 : Int)
      { c with da := clampInt d (-900) 14400, clampArrival := decide (clampInt d (-900) 14400 ≠ d) }
    else c
  | none => c

/-- The clamp of an expected time to the extended range (R32). -/
def clampTime (t : Int) : Nat := (clampInt t 0 Config.timeCeiling).toNat

/-- The upper clamp takes effect on a value (R35). -/
def overCeiling (t : Int) : Bool := decide ((Config.timeCeiling : Int) < t)

/-- EA (R34): AA where it is present, else SA + Da clamped. -/
def expectedArrival (c : Call) : Nat :=
  match c.aa with
  | some a => a.time
  | none => clampTime ((c.sa.getD 0 : Int) + c.da)

/-- The upper clamp takes effect in EA (R35). -/
def arrivalOver (c : Call) : Bool :=
  match c.aa with
  | some _ => false
  | none => overCeiling ((c.sa.getD 0 : Int) + c.da)

/-- ED before its clamp, from EA (R35). -/
def rawDeparture (c : Call) (ea : Nat) : Int :=
  let own : Int := (c.sd.getD 0 : Int) + c.dd
  match c.kind with
  | .turn => max own ((ea : Int) + c.oa)
  | _ => own

/-- EA, ED and EC with the ceiling flag, from the record's fields (R34, R35). -/
def deriveTimes (c : Call) : Call :=
  match c.kind with
  | .arrival =>
    let ea := expectedArrival c
    let clear : Int := (ea : Int) + c.oa
    { c with ea := some ea, ed := none, ec := some (clampTime clear),
             ceiling := arrivalOver c || overCeiling clear }
  | .departure =>
    { c with ea := none, ed := some (clampTime (rawDeparture c 0)), ec := none,
             ceiling := overCeiling (rawDeparture c 0) }
  | .turn =>
    let ea := expectedArrival c
    { c with ea := some ea, ed := some (clampTime (rawDeparture c ea)), ec := none,
             ceiling := arrivalOver c || overCeiling (rawDeparture c ea) }

/-- A call's expected times computed whole from its fields: Da, then EA, ED and EC (R32 to R35). -/
def computeTimes (c : Call) : Call := deriveTimes (deriveDelay c)

/-! ### The table -/

/-- A call in PLANNED or AT_PLATFORM is live (R39). -/
def isLive (c : Call) : Bool := decide (c.state = .planned) || decide (c.state = .atPlatform)

/-- A live CURRENT call: the calls that conflict, are evaluated and lapse (R29, R39, R45). -/
def isLiveCurrent (c : Call) : Bool := isLive c && decide (c.day = .current)

/-- The earliest scheduled time: SA, or SD for a DEPARTURE call (R14). -/
def earliest (c : Call) : Nat := (if hasArrival c.kind then c.sa else c.sd).getD 0

/-- Place of a day tag in the table order (R14). -/
def dayRank : DayTag → Nat
  | .current => 0
  | .next => 1

/-- `a` comes before `b` in the table order (R14). -/
def comesBefore (a b : Call) : Bool :=
  decide (dayRank a.day < dayRank b.day) ||
    (decide (a.day = b.day) &&
      (decide (earliest a < earliest b) || (decide (earliest a = earliest b) && decide (a.id < b.id))))

/-- A call enters the table at its place in the order (R14). -/
def insertCall (c : Call) : List Call → List Call
  | [] => [c]
  | x :: xs => if comesBefore c x then c :: x :: xs else x :: insertCall c xs

/-- The position of a call in the table order (R19). -/
def positionOf (calls : List Call) (id : Nat) : Nat := calls.findIdx (fun c => c.id == id)

/-- The AT_PLATFORM call of a platform zone, if any (R14). -/
def callAtPlatform (s : State) (z : Nat) : Option Call :=
  s.ttu.calls.find? (fun c => decide (c.state = .atPlatform) && decide (c.zone = z))

/-! ### Conflicts -/

/-- The occupancy window of a live call: its start and its end (R39). -/
def window (c : Call) : Nat × Nat :=
  match c.kind with
  | .arrival => (c.ea.getD 0, c.ec.getD 0)
  | .departure => (c.ed.getD 0 - c.oa, c.ed.getD 0)
  | .turn => (c.ea.getD 0, c.ed.getD 0)

/-- Two windows overlap; an empty window overlaps none (R39). -/
def overlaps (a b : Nat × Nat) : Bool :=
  decide (a.1 < a.2) && decide (b.1 < b.2) && decide (a.1 < b.2) && decide (b.1 < a.2)

/-- `a` is the better partner than `b`: its window starts earlier, or together with a smaller id (R40). -/
def betterPartner (a b : Call) : Bool :=
  decide ((window a).1 < (window b).1) || (decide ((window a).1 = (window b).1) && decide (a.id < b.id))

/-- The partner of call `c` among the live CURRENT calls `live` of its zone (R40). -/
def partnerAmong (live : List Call) (c : Call) : Option Nat :=
  ((live.filter (fun o => decide (o.id ≠ c.id) && overlaps (window c) (window o))).foldl
    (fun best o =>
      match best with
      | none => some o
      | some b => if betterPartner o b then some o else some b) none).map Call.id

/-- Call `c` is concerned by a recomputation of zone `z`: it is on the zone, or it is the call leaving it
(R40, R41). -/
def concerned (z : Nat) (leaver : Option Nat) (c : Call) : Bool :=
  decide (c.zone = z) || decide (leaver = some c.id)

/-- The calls a recomputation of zone `z` is made among (R40). -/
def conflictCalls (calls : List Call) (z : Nat) (leaver : Option Nat) : List Call :=
  calls.filter (fun c => isLiveCurrent c && decide (c.zone = z) && decide (leaver ≠ some c.id))

/-- The partner a recomputation of zone `z` gives call `c` (R40). -/
def newPartner (live : List Call) (leaver : Option Nat) (c : Call) : Option Nat :=
  if isLiveCurrent c ∧ leaver ≠ some c.id then partnerAmong live c else none

/-- The notice of a call that enters or leaves conflict (R41). -/
def conflictNotice (z : Nat) (c : Call) (new : Option Nat) : Option Notice :=
  match c.partner, new with
  | none, some p => some (.platformConflict c.id z .entered p)
  | some p, none => some (.platformConflict c.id z .left p)
  | _, _ => none

/-- The conflicts of platform zone `z` are recomputed, without the call `leaver` that is leaving it; the
notices go out in table order (R40, R41). -/
def recomputeConflicts (z : Nat) (leaver : Option Nat) (s : State) : State :=
  let live := conflictCalls s.ttu.calls z leaver
  let changes := (s.ttu.calls.filter (concerned z leaver)).filterMap
    (fun c => conflictNotice z c (newPartner live leaver c))
  let s1 := s.withTtu { s.ttu with calls := s.ttu.calls.map (fun c =>
    if concerned z leaver c then { c with partner := newPartner live leaver c } else c) }
  forEach changes generate s1

/-! ### The transitions of a call -/

/-- A call's expected times are computed in the table (R32). -/
def recomputeTimes (id : Nat) (s : State) : State := s.modifyCall id computeTimes

/-- PLANNED to AT_PLATFORM (R22): AA, the times, the conflicts, then the notice. -/
def arrive (c : Call) (t : Capture) (source : TimeSource) (cause : CallCause) (s : State) : State :=
  let s1 := s.modifyCall c.id (fun c =>
    { c with state := .atPlatform, aa := some { time := t.time, source := source, held := t.held } })
  generate (.callState c.id c.state .atPlatform cause (some t))
    (recomputeConflicts c.zone none (recomputeTimes c.id s1))

/-- AT_PLATFORM to COMPLETE (R23): AD, the notice, then the conflicts. -/
def depart (c : Call) (t : Capture) (source : TimeSource) (cause : CallCause) (s : State) : State :=
  let s1 := s.modifyCall c.id (fun c =>
    { c with state := .complete, ad := some { time := t.time, source := source, held := t.held } })
  recomputeConflicts c.zone none (generate (.callState c.id c.state .complete cause (some t)) s1)

/-- The confirmation time of a call (R24). -/
def confirmationTime (c : Call) : Nat :=
  match c.kind with
  | .arrival => c.ea.getD 0 + c.oa + 600
  | _ => c.ed.getD 0 + 600

/-- A PLANNED call past its confirmation time becomes COMPLETE, unconfirmed (R24). -/
def completeUnconfirmed (c : Call) (s : State) : State :=
  let s1 := s.modifyCall c.id (fun c => { c with state := .complete, unconfirmed := true })
  recomputeConflicts c.zone none (generate (.callState c.id c.state .complete .unconfirmed none) s1)

/-- The unconfirmed completions of a second (R24). Their order, which R24 leaves open, is the model's choice: each
whole, in table order (log entry 35). -/
def completions (s : State) : State :=
  forEach (s.ttu.calls.filter (fun c =>
    decide (c.day = .current) && decide (c.state = .planned) && decide (confirmationTime c ≤ s.clock.service)))
    completeUnconfirmed s

/-! ### Cues -/

/-- The mark of cue position `i` (R43). -/
def markOf (c : Call) (i : Nat) : Mark := c.marks.getD i .unfired

/-- The mark of cue position `i` is set (R46). -/
def setMark (id i : Nat) (m : Mark) (s : State) : State :=
  s.modifyCall id (fun c => { c with marks := c.marks.set i m })

/-- Firings are suppressed in this mode (R50). -/
def suppresses : Mode → Bool
  | .night => true
  | .nightAlert _ => true
  | .winding => true
  | _ => false

/-- The exact address of a zone as a target pair (R49). -/
def exactPair (s : State) (z : Nat) : Pair := { address := (s.zone z).address, mask := 0 }

/-- The target of a firing, formed from the zone table as it stands (R49, R53). -/
def cueTarget (s : State) (c : Call) (q : Cue) : List Pair :=
  let own : Pair := { address := q.address, mask := q.mask }
  let old : List Pair := if q.anchor = .platformChange then (c.previous.map (exactPair s)).toList else []
  match q.targetKind with
  | .platform => exactPair s c.zone :: old
  | .platformPlus => exactPair s c.zone :: own :: old
  | .fixed => [own]

/-- The announcement a firing asks for (R49): `t` is the trigger or the event time. -/
def cueProto (s : State) (c : Call) (i : Nat) (q : Cue) (t : Int) : Slot :=
  { id := 0, seq := 0, priority := q.priority, origin := .cue c.id i q.anchor,
    content := .template q.template, call := some c.id, chime := none, repeats := .count q.repeats,
    interval := q.interval, latestStart := some (t + q.expiry), target := cueTarget s c q,
    withdrawn := false }

/-- A firing whose creation failed reports it (R51). -/
def reportDropped (id i : Nat) (r : Created) (s : State) : State :=
  match r with
  | .kept _ _ => s
  | .storeFull => generate (.announceDropped id i .storeFull) s
  | .noTarget _ => generate (.announceDropped id i .noTarget) s

/-- Cue `q`, at position `i` of call `c`'s plan, fires with trigger or event time `t` (R49 to R51). -/
def fireCue (c : Call) (i : Nat) (q : Cue) (t : Int) (s : State) : State :=
  let s1 := setMark c.id i .fired s
  if suppresses s1.smc.mode then generate (.cueFired c.id i q.anchor t 0 true 0) s1
  else
    let (r, s2) := createWhole (cueProto s1 c i q t) s1
    generate (.cueFired c.id i q.anchor t (createdId r) false (createdZones r)) (reportDropped c.id i r s2)

/-- The anchor time of a time-anchored cue, if the call's kind has it (R44). -/
def anchorTime (c : Call) : Anchor → Option Nat
  | .arrival => if hasArrival c.kind then c.ea else none
  | .departure => if hasDeparture c.kind then c.ed else none
  | _ => none

/-- The trigger of a time-anchored cue (R44). -/
def trigger (c : Call) (q : Cue) : Option Int := (anchorTime c q.anchor).map (fun t => (t : Int) + q.offset)

/-- Position `i` of call `id` is evaluated at the second that brought the service time (R45). -/
def evaluateCue (id i : Nat) (s : State) : State :=
  match s.call? id with
  | none => s
  | some c =>
    match (s.plan c.plan).cues[i]? with
    | none => s
    | some q =>
      if isLiveCurrent c ∧ markOf c i = .unfired then
        match trigger c q with
        | none => s
        | some t =>
          let now : Int := s.clock.service
          if now < t then s
          else if now - t ≤ q.late then fireCue c i q t s
          else generate (.cueMissed id i t s.clock.service) (setMark id i .missed s)
      else s

/-- The cue positions of a call, in ascending order. -/
def cuePositions : List Nat := List.range Config.maxCues

/-- TTU evaluates the time-anchored cues of the live CURRENT calls, in table order (R45). -/
def evaluateCues (s : State) : State :=
  forEach ((s.ttu.calls.filter isLiveCurrent).map Call.id)
    (fun id => forEach cuePositions (evaluateCue id)) s

/-- Position `i` of a CURRENT call's plan is fired by an event of anchor `a` at time `t` (R48). -/
def fireEventCue (id : Nat) (a : Anchor) (t : Nat) (i : Nat) (s : State) : State :=
  match s.call? id with
  | none => s
  | some c =>
    match (s.plan c.plan).cues[i]? with
    | none => s
    | some q =>
      if c.day = .current ∧ q.anchor = a ∧ markOf c i = .unfired then fireCue c i q t s else s

/-- TTU fires every UNFIRED cue of an event's anchor, in ascending position (R48). -/
def fireEventCues (id : Nat) (a : Anchor) (t : Nat) (s : State) : State :=
  forEach cuePositions (fireEventCue id a t) s

/-! ### Train detection and dispatch -/

/-- The arrival anchor of a call (R66). -/
def arrivalAnchor (c : Call) : Int :=
  match c.kind with
  | .departure => (c.ed.getD 0 : Int) - c.oa
  | _ => (c.ea.getD 0 : Int)

/-- How far an edge at `now` lies from a call's arrival anchor (R66). -/
def anchorDistance (now : Nat) (c : Call) : Nat := ((now : Int) - arrivalAnchor c).natAbs

/-- The candidates of an active edge on platform zone `z` (R66). -/
def trainCandidates (s : State) (z now : Nat) : List Call :=
  s.ttu.calls.filter (fun c =>
    decide (c.day = .current) && decide (c.zone = z) && decide (c.state = .planned)
      && decide (anchorDistance now c ≤ s.clock.matchWindow))

/-- `a` is the better match than `b` (R66). -/
def betterMatch (now : Nat) (a b : Call) : Bool :=
  decide (anchorDistance now a < anchorDistance now b) ||
    (decide (anchorDistance now a = anchorDistance now b) &&
      (decide (earliest a < earliest b) || (decide (earliest a = earliest b) && decide (a.id < b.id))))

/-- The call an active edge is matched to (R66). -/
def chooseCall (s : State) (z now : Nat) : Option Call :=
  (trainCandidates s z now).foldl
    (fun best c =>
      match best with
      | none => some c
      | some b => if betterMatch now c b then some c else some b) none

/-- TTU takes the active edge of a TRAIN_DETECT set (R66, R68). -/
def trainActive (z : Nat) (t : Capture) (input : Nat) (s : State) : State :=
  match callAtPlatform s z with
  | some c => generate (.trainUnmatched z .arrival t input .occupied (some c.id)) s
  | none =>
    match chooseCall s z t.time with
    | some c => arrive c t .detected .detected s
    | none => generate (.trainUnmatched z .arrival t input .noCandidate none) s

/-- TTU takes the inactive edge of a TRAIN_DETECT set (R67, R68). -/
def trainInactive (z : Nat) (t : Capture) (input : Nat) (s : State) : State :=
  match callAtPlatform s z with
  | some c => depart c t .detected .detected s
  | none => generate (.trainUnmatched z .departure t input .notOccupied none) s

/-- TTU takes the active edge of a DISPATCH set (R69, R70). -/
def dispatchActive (z : Nat) (t : Capture) (input : Nat) (s : State) : State :=
  match callAtPlatform s z with
  | none => generate (.dispatchUnmatched z t input .noCall none) s
  | some c =>
    if hasDeparture c.kind then fireEventCues c.id .dispatch t.time s
    else generate (.dispatchUnmatched z t input .notDeparting (some c.id)) s

end Sys2Proof.Machine
end

