-- ==== Sys2Proof/Machine/CallFamily.lean ====
section
/-! DEFINITION. The requests of TTU: the calls and the cue plans (R15 to R20, R25 to R27, R42, R52, R53). -/

namespace Sys2Proof.Machine

/-! ### CALL_LOAD -/

/-- A phrase id of a request is above 2,047 (R15). -/
def badPhrase (p : Option Nat) : Bool :=
  match p with
  | some n => decide (Config.maxPhrases ≤ n)
  | none => false

/-- The range checks of a load, in one place of its order (R15, order 2). -/
def loadOutOfRange (k : CallKind) (r : CallLoadReq) : Bool :=
  decide (r.id = 0) || decide (Config.maxZones ≤ r.zone)
    || (hasArrival k && decide (Config.daySeconds ≤ r.sa))
    || (hasDeparture k && decide (Config.daySeconds ≤ r.sd))
    || decide (r.oa < 60) || decide (3600 < r.oa)
    || badPhrase r.dest || badPhrase r.origin || badPhrase r.cls
    || r.calling.any (fun p => decide (Config.maxPhrases ≤ p)) || decide (8 < r.calling.length)
    || decide (Config.maxPlans ≤ r.plan)

/-- A TURN call turns round too fast (R15, order 3). -/
def turnTooShort (k : CallKind) (r : CallLoadReq) : Bool := decide (k = .turn) && decide (r.sd < r.sa + r.oa)

/-- The record of a load, its expected times computed (R15, R16); `partner` is what it brings into the
conflict recomputation that follows. -/
def loadedCall (k : CallKind) (d : DayTag) (r : CallLoadReq) (partner : Option Nat) : Call :=
  computeTimes
    { id := r.id, day := d, kind := k, zone := r.zone,
      sa := if hasArrival k then some r.sa else none, sd := if hasDeparture k then some r.sd else none,
      oa := r.oa, da := 0, dd := 0, aa := none, ad := none, ea := none, ed := none, ec := none,
      dest := r.dest, origin := r.origin, cls := r.cls, calling := r.calling, plan := r.plan,
      marks := List.replicate Config.maxCues .unfired, state := .planned, unconfirmed := false,
      changed := false, previous := none, partner := partner, clampArrival := false,
      clampDeparture := false, ceiling := false }

/-- A call is taken out of the table. -/
def removeCall (id : Nat) (s : State) : State :=
  s.withTtu { s.ttu with calls := s.ttu.calls.filter (fun c => c.id != id) }

/-- A call enters the table at its place (R14). -/
def enterCall (c : Call) (s : State) : State := s.withTtu { s.ttu with calls := insertCall c s.ttu.calls }

/-- The conflicts of a call's platform zone are recomputed when it is CURRENT (R16, R26). -/
def recomputeIfCurrent (c : Call) (s : State) : State :=
  if c.day = .current then recomputeConflicts c.zone none s else s

/-- A load creates a new call (R16). -/
def addCall (c : Call) (s : State) : State := recomputeIfCurrent c (enterCall c s)

/-- A load replaces a PLANNED call (R17). -/
def replaceCall (old c : Call) (s : State) : State :=
  let s1 := enterCall c (removeCall old.id (withdrawCall old.id s))
  let s2 :=
    if old.zone = c.zone then recomputeConflicts c.zone none s1
    else recomputeConflicts c.zone none (recomputeConflicts old.zone (some c.id) s1)
  settle s2

/-- The accepted reply of a load: the call's position (R15). -/
def loadReply (id : Nat) (s : State) : Result × State := (accept false (u16 (positionOf s.ttu.calls id)), s)

/-- CALL_LOAD (R15 to R17). -/
def loadCall (r : CallLoadReq) (s : State) : Result × State :=
  match callKindOfCode r.kind, dayOfCode r.dayTag with
  | some k, some d =>
    if loadOutOfRange k r then (refuse .outOfRange, s)
    else if turnTooShort k r then (refuse .outOfRange, s)
    else if (s.zone r.zone).kind ≠ .platform then (refuse .notPlatform, s)
    else
      match s.call? r.id with
      | some old =>
        if old.state ≠ .planned then (refuse .wrongState, s)
        else loadReply r.id (replaceCall old (loadedCall k d r old.partner) s)
      | none =>
        if Config.maxCalls ≤ s.ttu.calls.length then (refuse .tableFull, s)
        else loadReply r.id (addCall (loadedCall k d r none) s)
  | _, _ => (refuse .outOfRange, s)

/-! ### CALL_DELETE and the reads -/

/-- A call leaves the table (R18). -/
def deleteFound (c : Call) (s : State) : State :=
  let s1 := withdrawCall c.id s
  let s2 :=
    if c.day = .current ∧ c.state = .planned then recomputeConflicts c.zone (some c.id) s1 else s1
  settle (removeCall c.id s2)

/-- CALL_DELETE (R18). -/
def deleteCall (id : Nat) (s : State) : Result × State :=
  match s.call? id with
  | none => (refuse .notFound, s)
  | some c =>
    if c.state = .atPlatform then (refuse .wrongState, s) else (accept false [], deleteFound c s)

/-- The flags word of CALL_READ (11, "The call record"). -/
def callFlags (c : Call) : Nat :=
  let reported (a : Option Actual) := match a with
    | some x => decide (x.source = .reported)
    | none => false
  let held (a : Option Actual) := match a with
    | some x => x.held
    | none => false
  [c.unconfirmed, c.changed, c.clampArrival, c.clampDeparture, c.ceiling, reported c.aa, held c.aa,
    reported c.ad, held c.ad].foldr (fun b n => b.toNat + 2 * n) 0

/-- The accepted body of CALL_READ (11, "The call record"). -/
def callBody (position : Nat) (c : Call) : List Byte :=
  u16 position ++ u16 c.id ++ u8 (dayCode c.day) ++ u8 (callKindCode c.kind) ++ u8 c.zone ++
    u8 (callStateCode c.state) ++ u16 (callFlags c) ++ optTime c.sa ++ optTime c.sd ++ u16 c.oa ++
    i32 c.da ++ i32 c.dd ++ optTime (c.aa.map Actual.time) ++ optTime (c.ad.map Actual.time) ++
    optTime c.ea ++ optTime c.ed ++ optTime c.ec ++ optNumber c.previous ++ optCall c.partner ++
    u8 c.plan ++ c.marks.flatMap (fun m => u8 (markCode m)) ++ optPhrase c.dest ++ optPhrase c.origin ++
    optPhrase c.cls ++ u8 c.calling.length ++ c.calling.flatMap u16

/-- CALL_READ (R19). -/
def readCall (id : Nat) (s : State) : Result :=
  match s.call? id with
  | none => refuse .notFound
  | some c => accept false (callBody (positionOf s.ttu.calls id) c)

/-- The summary of a call in CALL_LIST (R20; log entry 16). -/
def callSummary (c : Call) : List Byte :=
  u16 c.id ++ u8 (dayCode c.day) ++ u8 (callKindCode c.kind) ++ u8 (callStateCode c.state) ++ u8 c.zone ++
    u32 (earliest c) ++ optTime c.ea ++ optTime (c.ed.or c.ec) ++ optCall c.partner

/-- CALL_LIST (R20). -/
def listCalls (start : Nat) (s : State) : Result :=
  if Config.maxCalls ≤ start then refuse .outOfRange
  else accept false
    (u16 s.ttu.calls.length ++ ((s.ttu.calls.drop start).take 12).flatMap callSummary)

/-! ### CALL_DELAY -/

/-- A delay as the record stores it (R33). -/
def clampDelay (d : Int) : Int := clampInt d (-900) 14400

/-- A delay was clamped. -/
def delayClamped : Option Int → Bool
  | some d => decide (clampDelay d ≠ d)
  | none => false

/-- The record with the present delays replaced and their clamp flags set or cleared (R26). -/
def withDelays (a d : Option Int) (c : Call) : Call :=
  let c1 := match a with
    | some x => { c with da := clampDelay x, clampArrival := delayClamped a }
    | none => c
  match d with
  | some x => { c1 with dd := clampDelay x, clampDeparture := delayClamped d }
  | none => c1

/-- A call is in a terminal state (02, "The life of a call"). -/
def isTerminal (c : Call) : Bool := !isLive c

/-- A delay is given that the call's kind lacks (R26, order 3). -/
def delayForeign (c : Call) (r : CallDelayReq) : Bool :=
  (r.arrival.isSome && !hasArrival c.kind) || (r.departure.isSome && !hasDeparture c.kind)

/-- The delays take effect: the times, then the conflicts (R26, R32). -/
def delayFound (c : Call) (r : CallDelayReq) (s : State) : State :=
  recomputeIfCurrent c
    (s.modifyCall c.id (fun c => computeTimes (withDelays r.arrival r.departure c)))

/-- CALL_DELAY (R26). -/
def delayCall (r : CallDelayReq) (s : State) : Result × State :=
  if r.arrival = none ∧ r.departure = none then (refuse .malformed, s)
  else
    match s.call? r.id with
    | none => (refuse .notFound, s)
    | some c =>
      if delayForeign c r then (refuse .outOfRange, s)
      else if isTerminal c then (refuse .wrongState, s)
      else if r.arrival.isSome ∧ c.aa.isSome then (refuse .wrongState, s)
      else (accept (delayClamped r.arrival || delayClamped r.departure) [], delayFound c r s)

/-! ### CALL_PLATFORM, CALL_CANCEL and CALL_REPORT -/

/-- The record of a platform change (R53, step 2). -/
def movedTo (z : Nat) (c : Call) : Call :=
  { c with previous := some c.zone, changed := true, zone := z }

/-- The four steps of an accepted platform change (R53). -/
def changePlatform (c : Call) (z : Nat) (s : State) : State :=
  let s1 := (withdrawCall c.id s).modifyCall c.id (movedTo z)
  let s2 :=
    if c.day = .current then
      fireEventCues c.id .platformChange s1.clock.service
        (recomputeConflicts z none (recomputeConflicts c.zone (some c.id) s1))
    else s1
  settle s2

/-- CALL_PLATFORM (R52, R53). -/
def platformCall (r : CallPlatformReq) (s : State) : Result × State :=
  match s.call? r.id with
  | none => (refuse .notFound, s)
  | some c =>
    if Config.maxZones ≤ r.zone then (refuse .outOfRange, s)
    else if c.state ≠ .planned then (refuse .wrongState, s)
    else if (s.zone r.zone).kind ≠ .platform then (refuse .notPlatform, s)
    else if r.zone = c.zone then (refuse .duplicate, s)
    else (accept false [], changePlatform c r.zone s)

/-- The steps of an accepted cancel (R25). -/
def cancelFound (c : Call) (s : State) : State :=
  let s1 := (withdrawCall c.id s).modifyCall c.id (fun c => { c with state := .cancelled })
  let s2 := recomputeConflicts c.zone none (generate (.callState c.id c.state .cancelled .cancelled none) s1)
  settle (if c.day = .current then fireEventCues c.id .cancel s2.clock.service s2 else s2)

/-- CALL_CANCEL (R25). -/
def cancelCall (id : Nat) (s : State) : Result × State :=
  match s.call? id with
  | none => (refuse .notFound, s)
  | some c => if isTerminal c then (refuse .wrongState, s) else (accept false [], cancelFound c s)

/-- A host's time as a capture, without a held marker (R22, R27). -/
def reportedAt (t : Nat) : Capture := { time := t, held := false }

/-- Another call stands at the platform of call `c` (R27, order 6). -/
def otherAtPlatform (s : State) (c : Call) : Bool :=
  s.ttu.calls.any (fun o =>
    decide (o.id ≠ c.id) && decide (o.state = .atPlatform) && decide (o.zone = c.zone))

/-- CALL_REPORT (R27). -/
def reportCall (r : CallReportReq) (s : State) : Result × State :=
  match s.call? r.id with
  | none => (refuse .notFound, s)
  | some c =>
    match movementOfCode r.stage with
    | none => (refuse .outOfRange, s)
    | some m =>
      if Config.daySeconds ≤ r.time then (refuse .outOfRange, s)
      else if c.day = .next then (refuse .wrongState, s)
      else
        match m with
        | .arrival =>
          if c.state ≠ .planned then (refuse .wrongState, s)
          else if otherAtPlatform s c then (refuse .platformOccupied, s)
          else (accept false [], arrive c (reportedAt r.time) .reported .reported s)
        | .departure =>
          if c.state ≠ .atPlatform then (refuse .wrongState, s)
          else if r.time < (c.aa.map Actual.time).getD 0 then (refuse .outOfRange, s)
          else (accept false [], depart c (reportedAt r.time) .reported .reported s)

/-! ### PLAN_SET -/

/-- A time-anchored cue's offset is outside −3,600 to +600 (R42). -/
def offsetBad (a : Anchor) (offset : Int) : Bool :=
  match a with
  | .arrival => decide (offset < -3600) || decide (600 < offset)
  | .departure => decide (offset < -3600) || decide (600 < offset)
  | _ => false

/-- The offset a cue stores: 0 for an event anchor (R42). -/
def storedOffset (a : Anchor) (offset : Int) : Int :=
  match a with
  | .arrival => offset
  | .departure => offset
  | _ => 0

/-- A cue of PLAN_SET as it is stored, clamped, or `none` when it is refused (R42). -/
def storeCue (q : RawCue) : Option Cue :=
  match anchorOfCode q.anchor, targetKindOfCode q.targetKind with
  | some a, some k =>
    if Config.maxTemplates ≤ q.template ∨ q.priority = 0 ∨ 7 < q.priority ∨ offsetBad a q.offset then none
    else some
      { anchor := a, offset := storedOffset a q.offset, template := q.template,
        priority := min q.priority 5, targetKind := k, address := BitVec.ofNat 12 q.address,
        mask := BitVec.ofNat 12 q.mask, repeats := min q.repeats 3,
        interval := clampNat q.interval 10 600, expiry := clampNat q.expiry 30 1800,
        late := min q.late 600 }
  | _, _ => none

/-- A value of a cue was clamped (R42). -/
def cueClamped (q : RawCue) : Bool :=
  decide (5 < q.priority) || decide (3 < q.repeats) || decide (clampNat q.interval 10 600 ≠ q.interval)
    || decide (clampNat q.expiry 30 1800 ≠ q.expiry) || decide (600 < q.late)

/-- The delay threshold a plan stores (R42). -/
def clampThreshold (t : Nat) : Nat := clampNat t 60 900

/-- All the cues of a list as they are stored, or `none` when one is refused (R42). -/
def storeCues : List RawCue → Option (List Cue)
  | [] => some []
  | q :: qs =>
    match storeCue q, storeCues qs with
    | some c, some cs => some (c :: cs)
    | _, _ => none

/-- PLAN_SET (R42). -/
def setPlan (r : PlanSetReq) (s : State) : Result × State :=
  if Config.maxPlans ≤ r.plan ∨ Config.maxCues < r.cues.length then (refuse .outOfRange, s)
  else
    match storeCues r.cues with
    | none => (refuse .outOfRange, s)
    | some cues =>
      (accept (decide (clampThreshold r.threshold ≠ r.threshold) || r.cues.any cueClamped) [],
        s.withTtu { s.ttu with
          plans := s.ttu.plans.set r.plan { threshold := clampThreshold r.threshold, cues := cues } })

/-! ### The commands -/

/-- CALL_LOAD. -/
def execCallLoad (tag : Byte) (body : Body CallLoadReq) (s : State) : Exec :=
  .next (serve (.callLoad tag body) body loadCall s)

/-- CALL_DELETE. -/
def execCallDelete (tag : Byte) (body : Body Nat) (s : State) : Exec :=
  .next (serve (.callDelete tag body) body deleteCall s)

/-- CALL_DELAY. -/
def execCallDelay (tag : Byte) (body : Body CallDelayReq) (s : State) : Exec :=
  .next (serve (.callDelay tag body) body delayCall s)

/-- CALL_PLATFORM. -/
def execCallPlatform (tag : Byte) (body : Body CallPlatformReq) (s : State) : Exec :=
  .next (serve (.callPlatform tag body) body platformCall s)

/-- CALL_CANCEL. -/
def execCallCancel (tag : Byte) (body : Body Nat) (s : State) : Exec :=
  .next (serve (.callCancel tag body) body cancelCall s)

/-- CALL_REPORT. -/
def execCallReport (tag : Byte) (body : Body CallReportReq) (s : State) : Exec :=
  .next (serve (.callReport tag body) body reportCall s)

/-- CALL_READ. -/
def execCallRead (tag : Byte) (body : Body Nat) (s : State) : Exec :=
  .next (serveRead (.callRead tag body) body readCall s)

/-- CALL_LIST. -/
def execCallList (tag : Byte) (body : Body Nat) (s : State) : Exec :=
  .next (serveRead (.callList tag body) body listCalls s)

/-- PLAN_SET. -/
def execPlanSet (tag : Byte) (body : Body PlanSetReq) (s : State) : Exec :=
  .next (serve (.planSet tag body) body setPlan s)

end Sys2Proof.Machine
end

