-- ==== Sys2Proof/Machine/ZoneFamily.lean ====
section
/-! DEFINITION. The zone requests of ZRT: ZONE_CONFIG, GROUP_SET, ZONE_STATE and ZONE_READ, with the
changes of base state and group validity they share with the inputs (R92 to R95, R107, R109, R123). -/

namespace Sys2Proof.Machine

/-! ### Base states -/

/-- The lowest-numbered input that holds a level hold on, if any (R63, R71, R159). -/
def holdingInput (inputs : List Input) (f : InputFunction) : Option Nat :=
  allInputs.find? (fun n =>
    let i := inputs.getD n coldInput
    decide (f ≠ .general) && decide (i.function = f) && decide (i.sense = .level) && activeInput i)

/-- A zone that has become CLOSED, outside EVACUATE (R107). -/
def closeZone (z : Nat) (s : State) : State :=
  let s1 := dropWhere z .closed (fun p => decide (p.priority < 6)) s
  match runOf s1 z with
  | some r => if r.priority < 6 then markZone z .close s1 else s1
  | none => s1

/-- A zone that has become ISOLATED (R107). -/
def isolateZone (z : Nat) (s : State) : State := cutZone z .isolation (dropWhere z .isolated (fun _ => true) s)

/-- Zone `z`'s base state is set. -/
def writeBase (z : Nat) (b : Base) (s : State) : State := s.modifyZone z (fun zn => { zn with base := b })

/-- A change of base state acts on the zone, which no source covers (R107). -/
def baseEffects (z : Nat) (b : Base) (s : State) : State :=
  match b with
  | .opn => s
  | .closed => closeZone z s
  | .isolated => isolateZone z s

/-- A zone takes a base state other than its own, with the effects and the notice of the change (R106,
R107, R115, R123). -/
def changeBase (z : Nat) (b : Base) (cause : ZoneCause) (s : State) : State :=
  let before := s.zone z
  let s1 := writeBase z b s
  match b with
  | .isolated =>
    let s2 := baseEffects z .isolated (setCovering z none s1)
    generate (zoneChange s2 z before cause) s2
  | _ =>
    if before.covering.isSome then generate (zoneChange s1 z before cause) s1
    else
      match coveringOf s1 z with
      | some n => enterEvacuate z n before cause true s1
      | none =>
        let s2 := baseEffects z b s1
        generate (zoneChange s2 z before cause) s2

/-- ZONE_STATE (R107). That OPEN is accepted on a zone already OPEN while the level hold of its PLATFORM_CLOSE set
is on (R71, R107, R123) is the model's choice (log entry 36). -/
def zoneStateRequest (r : ZoneStateReq) (s : State) : Result × State :=
  match baseOfCode r.state with
  | none => (refuse .outOfRange, s)
  | some b =>
    if Config.maxZones ≤ r.zone then (refuse .outOfRange, s)
    else if (s.zone r.zone).base = b then (accept false [], s)
    else
      match (if b = .opn then holdingInput s.fiu.inputs (.platformClose r.zone) else none) with
      | some i => (.refused .inputActive i, s)
      | none => (accept false [], settle (changeBase r.zone b .request s))

/-! ### ZONE_CONFIG -/

/-- A gain as it is stored (R92). -/
def clampGain (g : Int) : Int := clampInt g (-120) 0

/-- A value of ZONE_CONFIG was clamped (R92). -/
def zoneClamped (r : ZoneConfigReq) : Bool :=
  decide (clampGain r.g0 ≠ r.g0) || decide (clampGain r.gmin ≠ r.gmin) || decide (clampGain r.gmax ≠ r.gmax)
    || decide (clampNat r.nref 30 120 ≠ r.nref) || decide (8 < r.slope)
    || decide (clampNat r.lampThreshold 1 7 ≠ r.lampThreshold)

/-- The record with the configuration of an accepted ZONE_CONFIG; a lamp pulse ends when the mode is not
PULSED (R92, R93, R140). -/
def configured (r : ZoneConfigReq) (k : ZoneKind) (m : LampMode) (z : Zone) : Zone :=
  { z with
    enabled := r.enabled, address := BitVec.ofNat 12 r.address, kind := k, name := r.name,
    g0 := clampGain r.g0, gmin := clampGain r.gmin, gmax := clampGain r.gmax,
    nref := clampNat r.nref 30 120, slope := min r.slope 8, lampMode := m,
    lampThreshold := clampNat r.lampThreshold 1 7,
    pulseEnd := if m = .pulsed then z.pulseEnd else none }

/-- The range checks of ZONE_CONFIG other than its codes (R92, order 2). -/
def zoneOutOfRange (r : ZoneConfigReq) : Bool :=
  decide (Config.maxZones ≤ r.zone) || decide (4096 ≤ r.address) ||
    (match r.name with
     | some p => decide (Config.maxPhrases ≤ p)
     | none => false)

/-- ZONE_CONFIG (R92, R93); coverage is recomputed for the zone (R115). -/
def configureZone (r : ZoneConfigReq) (s : State) : Result × State :=
  match zoneKindOfCode r.kind, lampOfCode r.lampMode with
  | some k, some m =>
    let z := s.zone r.zone
    if zoneOutOfRange r then (refuse .outOfRange, s)
    else if clampGain r.gmax < clampGain r.gmin then (refuse .outOfRange, s)
    else if z.address ≠ BitVec.ofNat 12 r.address ∧ z.queue ≠ [] then (refuse .wrongState, s)
    else if r.enabled = false ∧ z.enabled ∧ (z.queue ≠ [] ∨ (attachedChannel s r.zone).isSome) then
      (refuse .wrongState, s)
    else
      (accept (zoneClamped r) [],
        settle (recomputeZone true r.zone (s.modifyZone r.zone (configured r k m))))
  | _, _ => (refuse .outOfRange, s)

/-! ### GROUP_SET -/

/-- The zones of a group, by ascending zone id (R95). -/
def zonesOfGroup (s : State) (g : Nat) : List Nat :=
  allZones.filter (fun z => decide (groupOf (s.zone z).address = g))

/-- A zone of an invalidated group (R95). -/
def invalidateZone (z : Nat) (s : State) : State :=
  let s1 := cutZone z .groupInvalid (dropWhere z .groupInvalid (fun _ => true) s)
  if (s1.zone z).covering.isSome then
    let s2 := setCovering z none s1
    generate (zoneChange s2 z (s1.zone z) .group) s2
  else s1

/-- The group numbers in ascending order. -/
def allGroups : List Nat := List.range Config.maxGroups

/-- The group table after a request: the selected groups take their values (R94). -/
def groupsAfter (groups : BitVec 16) (r : GroupSetReq) : BitVec 16 :=
  (groups &&& ~~~ r.select) ||| (r.value &&& r.select)

/-- GROUP_SET (R94, R95). -/
def setGroups (r : GroupSetReq) (s : State) : Result × State :=
  if r.select = 0 then (refuse .malformed, s)
  else
    let old := s.zrt.groups
    let new := groupsAfter old r
    let s1 := s.withZrt { s.zrt with groups := new }
    let s2 := forEach (allGroups.filter (fun g => old.getLsbD g && !new.getLsbD g))
      (fun g s => forEach (zonesOfGroup s g) invalidateZone s) s1
    let s3 := forEach (allGroups.filter (fun g => !old.getLsbD g && new.getLsbD g))
      (fun g s => forEach (zonesOfGroup s g) (recomputeZone true) s) s2
    (accept false (u16 new.toNat), settle s3)

/-! ### ZONE_READ -/

/-- A zone in the reply for all zones (R109). -/
def zoneSummary (s : State) (z : Nat) : List Byte :=
  let zn := s.zone z
  flag zn.enabled ++ u8 (baseCode zn.base) ++ u8 (effectiveCode (effective zn)) ++ u8 zn.queue.length ++
    optNumber (attachedChannel s z)

/-- A placement's 13-byte entry (11, "Placements and channels"). -/
def placementBytes (p : Placement) : List Byte :=
  u8 p.announcement ++ u8 p.priority ++ stampBytes p.stamp ++ u8 (conditionCode p.condition) ++
    (match p.condition with
     | .resting t => runTimeBytes t
     | _ => u32 0) ++
    repeatsBytes p.repeats ++ u8 p.interrupted

/-- The ambient window: a count and eight samples (11, "Placements and channels"). -/
def windowBytes (w : List Nat) : List Byte :=
  u8 w.length ++ (w.take 8).flatMap u8 ++ List.replicate (8 - w.length) 0

/-- A zone's whole record (R109; log entry 16). -/
def zoneRecord (s : State) (z : Nat) : List Byte :=
  let zn := s.zone z
  flag zn.enabled ++ addressBytes zn.address ++ u8 (zoneKindCode zn.kind) ++ optPhrase zn.name ++ i8 zn.g0 ++
    i8 zn.gmin ++ i8 zn.gmax ++ u8 zn.nref ++ u8 zn.slope ++ u8 (lampCode zn.lampMode) ++
    u8 zn.lampThreshold ++ u8 (baseCode zn.base) ++ u8 (effectiveCode (effective zn)) ++
    optNumber zn.covering ++ optNumber (attachedChannel s z) ++ windowBytes zn.window ++
    u8 zn.queue.length ++ zn.queue.flatMap placementBytes ++
    flag (levelHold s.fiu.inputs (.platformClose z))

/-- ZONE_READ (R109). -/
def readZones (z : Option Nat) (s : State) : Result :=
  match z with
  | none => accept false (allZones.flatMap (zoneSummary s) ++ u16 s.zrt.groups.toNat)
  | some z => if Config.maxZones ≤ z then refuse .outOfRange else accept false (zoneRecord s z)

/-! ### Platform closure -/

/-- ZRT takes the active edge of a PLATFORM_CLOSE set (R123). -/
def closureActive (z : Nat) (s : State) : State :=
  if (s.zone z).base = .opn then changeBase z .closed .input s else s

/-- ZRT takes the inactive edge of a PLATFORM_CLOSE set (R123). -/
def closureInactive (z : Nat) (sense : Sense) (s : State) : State :=
  if sense = .level ∧ (s.zone z).base = .closed then changeBase z .opn .input s else s

/-! ### The commands -/

/-- ZONE_CONFIG. -/
def execZoneConfig (tag : Byte) (body : Body ZoneConfigReq) (s : State) : Exec :=
  .next (serve (.zoneConfig tag body) body configureZone s)

/-- GROUP_SET. -/
def execGroupSet (tag : Byte) (body : Body GroupSetReq) (s : State) : Exec :=
  .next (serve (.groupSet tag body) body setGroups s)

/-- ZONE_STATE. -/
def execZoneState (tag : Byte) (body : Body ZoneStateReq) (s : State) : Exec :=
  .next (serve (.zoneState tag body) body zoneStateRequest s)

/-- ZONE_READ. -/
def execZoneRead (tag : Byte) (body : Body (Option Nat)) (s : State) : Exec :=
  .next (serveRead (.zoneRead tag body) body readZones s)

end Sys2Proof.Machine
end

