-- ==== Sys2Proof/Machine/EvacFamily.lean ====
section
/-! DEFINITION. The evacuation requests and the fire-panel edges (R113, R114, R121). -/

namespace Sys2Proof.Machine

/-- The repeat interval of a source, clamped (R61, R113). -/
def clampInterval (i : Nat) : Nat := clampNat i 10 600

/-- The key of an EVAC_START, formed with the clamped interval (R113). -/
def hostKey (r : EvacStartReq) : SourceKey :=
  { kind := .host, target := { address := BitVec.ofNat 12 r.address, mask := BitVec.ofNat 12 r.mask },
    template := r.template, interval := clampInterval r.interval }

/-- EVAC_START is refused OUT_OF_RANGE (R113). -/
def evacOutOfRange (r : EvacStartReq) : Bool :=
  decide (4096 ≤ r.address) || decide (4096 ≤ r.mask) || decide (Config.maxTemplates ≤ r.template)

/-- The accepted body of an EVAC_START that activated source `n` (R113). -/
def evacBody (n : Nat) (r : Created) (s : State) : List Byte :=
  u8 n ++ u8 (createdId r) ++ u8 (coveredCount s n) ++ u8 (deferredCount s n) ++
    u8 (isolatedZones s (s.source n).key.target).length ++ u8 (createdFull r)

/-- EVAC_START (R113). One that is refused TABLE_FULL changes nothing by R113, while R111 calls it an activation that fails
and R122 has a notice at each failed activation: that the model sends no EVAC_CHANGE ACTIVATION_FAILED for it, as R114
does for an edge, is its choice (log entry 45). -/
def startEvac (r : EvacStartReq) (s : State) : Result × State :=
  if evacOutOfRange r then (refuse .outOfRange, s)
  else
    let key := hostKey r
    let clamped := decide (clampInterval r.interval ≠ r.interval)
    match activeWithKey s key with
    | some n => (accept clamped (u8 n), s)
    | none =>
      match findEntry s key with
      | none => (refuse .tableFull, s)
      | some n =>
        let (c, s1) := activate n key false s
        (accept clamped (evacBody n c s1), s1)

/-- The key of a FIRE_PANEL set (R114). -/
def panelKey (address mask : Address) (template interval : Nat) : SourceKey :=
  { kind := .input, target := { address := address, mask := mask }, template := template,
    interval := interval }

/-- The notice of an activation that finds no entry (R114, R122). -/
def activationFailed (s : State) (key : SourceKey) : Notice :=
  .evacChange
    { source := none, key := key, event := .activationFailed, reason := some .tableFull, voice := .none,
      covered := 0, deferred := 0, full := 0, isolated := isolatedZones s key.target }

/-- ZRT takes the active edge of a FIRE_PANEL set (R114). -/
def panelActive (key : SourceKey) (sense : Sense) (s : State) : State :=
  match activeWithKey s key with
  | some _ => s
  | none =>
    match findEntry s key with
    | none => generate (activationFailed s key) s
    | some n => (activate n key (decide (sense = .edge)) s).2

/-- The FIRE_PANEL function whose sets have the key of an INPUT source (R121). -/
def panelFunction (key : SourceKey) : InputFunction :=
  .firePanel key.target.address key.target.mask key.template key.interval

/-- Step 1 of a clearing (R121). -/
def releasedEntry (e : Source) : Source := { e with state := .inactive, latched := false, voice := .none }

/-- Step 2 of a clearing: the source's announcement is withdrawn (R121). -/
def withdrawVoice (v : Voice) (s : State) : State :=
  match v with
  | .voiced a => withdrawAnnouncement a s
  | _ => s

/-- The zones source `n` covers, by ascending zone id. -/
def coveredBy (s : State) (n : Nat) : List Nat :=
  allZones.filter (fun z => decide ((s.zone z).covering = some n))

/-- The five steps of a clearing (R121). -/
def clearSource (n : Nat) (s : State) : State :=
  let s1 := withdrawVoice (s.source n).voice (s.modifySource n releasedEntry)
  let s2 := judgeHold (forEach (coveredBy s n) (recomputeZone true) s1)
  settle (generate (evacNotice s2 n .cleared 0) s2)

/-- The input that holds source `n` active, if one does (R121). -/
def panelHold (s : State) (n : Nat) : Option Nat :=
  if (s.source n).key.kind = .input then holdingInput s.fiu.inputs (panelFunction (s.source n).key) else none

/-- EVAC_CLEAR (R121). The detail byte of its OUT_OF_RANGE and NOT_FOUND, which R121 does not say carries the source
number it was given, is the model's choice: 0 (R159; log entry 42). -/
def clearEvac (n : Nat) (s : State) : Result × State :=
  if Config.maxSources ≤ n then (refuse .outOfRange, s)
  else if (s.source n).state ≠ .active then (refuse .notFound, s)
  else
    match panelHold s n with
    | some i => (.refused .inputActive i, s)
    | none =>
      let s1 := clearSource n s
      let handed := (coveredBy s n).countP (fun z => (s1.zone z).covering.isSome)
      (accept false (u8 handed ++ u8 ((coveredBy s n).length - handed)), s1)

/-- EVAC_START. -/
def execEvacStart (tag : Byte) (body : Body EvacStartReq) (s : State) : Exec :=
  .next (serve (.evacStart tag body) body startEvac s)

/-- EVAC_CLEAR. -/
def execEvacClear (tag : Byte) (body : Body Nat) (s : State) : Exec :=
  .next (serve (.evacClear tag body) body clearEvac s)

end Sys2Proof.Machine
end

