-- ==== Sys2Proof/Machine/InputFamily.lean ====
section
/-! DEFINITION. FIU: its requests, sampling and debounce, and the delivery of set edges (R55 to R65, R71). -/

namespace Sys2Proof.Machine

/-! ### INPUT_CONFIG -/

/-- A debounce time raised to a multiple of 10 ms and clamped (R61). -/
def clampDebounce (ms : Nat) : Nat := min ((ms + 9) / 10 * 10) 2550

/-- A function as the record stores it, or `none` for one out of range (R61). -/
def storeFunction : RawFunction → Option InputFunction
  | .general => some .general
  | .trainDetect z => if z < Config.maxZones then some (.trainDetect z) else none
  | .dispatch z => if z < Config.maxZones then some (.dispatch z) else none
  | .platformClose z => if z < Config.maxZones then some (.platformClose z) else none
  | .firePanel a m t i =>
    if a < 4096 ∧ m < 4096 ∧ t < Config.maxTemplates then
      some (.firePanel (BitVec.ofNat 12 a) (BitVec.ofNat 12 m) t (clampInterval i))
    else none
  | .unknown _ => none

/-- A value of INPUT_CONFIG was changed by its clamp (R61). -/
def inputClamped (r : InputConfigReq) : Bool :=
  decide (clampDebounce r.debounce ≠ r.debounce) ||
    (match r.function with
     | .firePanel _ _ _ i => decide (clampInterval i ≠ i)
     | _ => false)

/-- A function names a platform whose kind is not PLATFORM (R61, order 3). -/
def wrongPlatform (s : State) : InputFunction → Bool
  | .trainDetect z => decide ((s.zone z).kind ≠ .platform)
  | .dispatch z => decide ((s.zone z).kind ≠ .platform)
  | _ => false

/-- A debounce that was due stays so only while it has lasted the new time (R62). -/
def rejudged (ms : Nat) (d : Debounce) : Debounce := { d with due := d.due && decide (ms ≤ d.samples * 10) }

/-- Pending after a configuration: equal to the active state under LEVEL, kept under EDGE (R62). -/
def settledPending (i : Input) : Input :=
  match i.sense with
  | .level => { i with pending := activeInput i }
  | .edge => i

/-- The record with an accepted configuration (R61, R62). -/
def reconfigured (r : InputConfigReq) (p : Polarity) (e : Sense) (f : InputFunction) (i : Input) : Input :=
  settledPending
    { i with polarity := p, sense := e, debounceMs := clampDebounce r.debounce, function := f,
             notice := r.notice, wake := r.wake,
             debounce := i.debounce.map (rejudged (clampDebounce r.debounce)) }

/-- An INPUT_EVENT for input `n` when its status has gone from clear to set (R58). -/
def reportStatus (n : Nat) (before : Bool) (t : Capture) (s : State) : State :=
  if before = false ∧ statusInput (s.input n) then
    generate (.inputEvent n (s.input n).function (s.input n).stable t) s
  else s

/-- INPUT_CONFIG (R61, R62). Where the configuration itself sets the pending latch (a LEVEL input made active by its new
polarity or sense) and the status goes from clear to set, R58 names no capture: it gives a transition's, and the
request's for a notice enable turned on over a latch already set. The model's choice is the request's capture
(log entry 40). -/
def configureInput (r : InputConfigReq) (s : State) : Result × State :=
  match polarityOfCode r.polarity, senseOfCode r.sense, storeFunction r.function with
  | some p, some e, some f =>
    if Config.maxInputs ≤ r.input then (refuse .outOfRange, s)
    else if wrongPlatform s f then (refuse .notPlatform, s)
    else
      (accept (inputClamped r) [],
        reportStatus r.input (statusInput (s.input r.input)) s.capture
          (s.modifyInput r.input (reconfigured r p e f)))
  | _, _, _ => (refuse .outOfRange, s)

/-! ### INPUT_CLEAR and INPUT_READ -/

/-- The lowest named input that is LEVEL-sensed and active (R59). -/
def clearBar (s : State) (named : BitVec 32) : Option Nat :=
  allInputs.find? (fun n =>
    named.getLsbD n && decide ((s.input n).sense = .level) && activeInput (s.input n))

/-- The named pending latches are cleared (R59). -/
def clearNamed (named : BitVec 32) (s : State) : State :=
  s.withFiu { s.fiu with
    inputs := s.fiu.inputs.mapIdx (fun n i => if named.getLsbD n then { i with pending := false } else i) }

/-- INPUT_CLEAR (R59). -/
def clearInputs (named : BitVec 32) (s : State) : Result × State :=
  if named = 0 then (refuse .malformed, s)
  else
    match clearBar s named with
    | some n => (.refused .inputActive n, s)
    | none => (accept false [], clearNamed named s)

/-- An input in the reply for all inputs (R60). The bytes are the model's choice: a level is 1 for high and 0 for low,
and each yes or no is 1 or 0 (log entry 16). -/
def inputSummary (i : Input) : List Byte :=
  flag i.stable ++ flag (activeInput i) ++ flag i.pending ++ flag (statusInput i) ++ flag i.debounce.isSome

/-- A function code with its parameters as INPUT_CONFIG carries them (R60). -/
def storedFunctionBytes (f : InputFunction) : List Byte :=
  u8 (functionCode f) ++
    (match f with
     | .general => []
     | .trainDetect z => u8 z
     | .dispatch z => u8 z
     | .platformClose z => u8 z
     | .firePanel a m t i => addressBytes a ++ addressBytes m ++ u8 t ++ u16 i)

/-- The candidate level of a debounce in progress, after its presence byte (R60; 11, "Field encodings"). Its byte, 1 for
high and 0 for low, is the model's choice, and so is the 0 that stands where there is none (log entry 16). -/
def candidateBytes (d : Option Debounce) : List Byte :=
  flag d.isSome ++ flag ((d.map Debounce.candidate).getD false)

/-- An input's full record (R60). Its layout is the model's choice, as is the byte of the stable level: 1 for high,
0 for low (log entry 16). -/
def inputRecord (s : State) (i : Input) : List Byte :=
  u8 (polarityCode i.polarity) ++ u8 (senseCode i.sense) ++ u16 i.debounceMs ++
    storedFunctionBytes i.function ++ flag i.notice ++ flag i.wake ++ flag i.stable ++
    flag (activeInput i) ++ flag i.pending ++ flag (statusInput i) ++ candidateBytes i.debounce ++
    flag (setActive s.fiu.inputs i.function) ++ u8 (membersOf s.fiu.inputs i.function).length

/-- INPUT_READ (R60). -/
def readInputs (n : Option Nat) (s : State) : Result :=
  match n with
  | none => accept false (s.fiu.inputs.flatMap inputSummary)
  | some n =>
    if Config.maxInputs ≤ n then refuse .outOfRange else accept false (inputRecord s (s.input n))

/-! ### Sampling -/

/-- A debounce after one more sample that finds the candidate level, the first included (R55). -/
def continued (ms samples : Nat) (candidate : Bool) : Debounce :=
  { candidate := candidate, samples := samples, due := decide (ms ≤ samples * 10) }

/-- The table of R55 for one input at one sample. -/
def sampleInput (raw : Bool) (i : Input) : Input :=
  if raw = i.stable then { i with debounce := none }
  else
    match i.debounce with
    | none => { i with debounce := some (continued i.debounceMs 0 raw) }
    | some d => { i with debounce := some (continued i.debounceMs (d.samples + 1) raw) }

/-- The first sample after a reset: the raw level is the stable level, and no transition (R72). -/
def firstSampleInput (raw : Bool) (i : Input) : Input := { i with stable := raw, debounce := none }

/-- FIU after a sample of the raw levels (R55, R72). -/
def sampledFiu (levels : BitVec 32) (f : Fiu) : Fiu :=
  let take := if f.firstSample then firstSampleInput else sampleInput
  { inputs := f.inputs.mapIdx (fun n i => take (levels.getLsbD n) i), firstSample := false }

/-! ### The debounce expiry -/

/-- The record after a transition to `level` (R56 steps 1 and 3, R57). -/
def transitioned (level : Bool) (i : Input) : Input :=
  let i1 := { i with stable := level, debounce := none }
  match i1.sense with
  | .edge => { i1 with pending := i1.pending || activeInput i1 }
  | .level => { i1 with pending := activeInput i1 }

/-- A set's edge is handed to its owner (R64). -/
def handEdge (f : InputFunction) (active : Bool) (t : Capture) (input : Nat) (s : State) : State :=
  match f, active with
  | .trainDetect z, true => trainActive z t input s
  | .trainDetect z, false => trainInactive z t input s
  | .dispatch z, true => dispatchActive z t input s
  | .platformClose z, true => closureActive z s
  | .platformClose z, false => closureInactive z (setSense s.fiu.inputs (.platformClose z)) s
  | .firePanel a m p i, true => panelActive (panelKey a m p i) (setSense s.fiu.inputs (.firePanel a m p i)) s
  | _, _ => s

/-- The expiry of input `n`'s debounce to `level`, whole, in the order of R56. That SMC takes the wake request of
step 4 before the set's owner takes the edge of step 5, with no pass of the arbiter between the two, is the model's
choice: each is its owner's own event (R56, R65; log entry 37). -/
def expireTo (n : Nat) (level : Bool) (s : State) : State :=
  let f := (s.input n).function
  let before := setActive s.fiu.inputs f
  let t := s.capture
  let s1 := reportStatus n (statusInput (s.input n)) t (s.modifyInput n (transitioned level))
  let i := s1.input n
  let s2 := if activeInput i ∧ i.wake then wakeRequest n s1 else s1
  let after := setActive s1.fiu.inputs f
  settle (if before = after then s2 else handEdge f after t n s2)

/-- A debounce expiry that is due is taken (R55, R56). -/
def takeExpiry (n : Nat) (s : State) : State :=
  match (s.input n).debounce with
  | some d => if d.due then expireTo n d.candidate s else s
  | none => s

/-- Every debounce expiry still due is taken, by ascending input number (log entry 6). -/
def takeExpiries (s : State) : State := forEach allInputs takeExpiry s

/-! ### The commands -/

/-- INPUT_CONFIG. -/
def execInputConfig (tag : Byte) (body : Body InputConfigReq) (s : State) : Exec :=
  .next (serve (.inputConfig tag body) body configureInput s)

/-- INPUT_READ. -/
def execInputRead (tag : Byte) (body : Body (Option Nat)) (s : State) : Exec :=
  .next (serveRead (.inputRead tag body) body readInputs s)

/-- INPUT_CLEAR. -/
def execInputClear (tag : Byte) (body : Body (BitVec 32)) (s : State) : Exec :=
  .next (serve (.inputClear tag body) body clearInputs s)

/-- DEBOUNCE_EXPIRY (R56): nothing where no expiry of the input is due, or in reset. -/
def execDebounceExpiry (input : Nat) (s : State) : Exec :=
  .next (if s.resetLine then s else takeExpiry input s)

/-- INPUT_SAMPLING (R55, R72): the expiries of the sample before are taken first. -/
def execInputSampling (levels : BitVec 32) (s : State) : Exec :=
  .next
    (if s.resetLine then s.withPins { s.pins with inputs := levels }
     else
      let s1 := takeExpiries s
      (s1.withPins { s1.pins with inputs := levels }).withFiu (sampledFiu levels s1.fiu))

end Sys2Proof.Machine
end

