-- ==== Sys2Proof/Machine/ModeFamily.lean ====
section
/-! DEFINITION. SMC: MODE_SET, the end of the warm-up and the expiry of the alert hold (R145, R150, R151). -/

namespace Sys2Proof.Machine

/-- The warm-up setting a MODE_SET gives, clamped (R145). -/
def clampWarmUp (w : Nat) : Nat := clampNat w 1 30

/-- The mode a MODE_SET asks for: `some none` for NONE, `none` for a code it refuses (R145). -/
def requestedMode : Nat → Option (Option Target)
  | 0 => some none
  | 1 => some (some .opn)
  | 3 => some (some .night)
  | _ => none

/-- A requested mode acts on the station mode (R145). -/
def actOnMode (m : Option Target) (s : State) : State :=
  match m with
  | some .opn => requestOpen .request s
  | some _ => requestNight .request s
  | none => s

/-- The accepted body of MODE_SET: mode, warming target, warm-up setting (R145), and for mode NONE whether
the alert hold timer is running (R152; its place last is log entry 16). -/
def modeBody (m : Option Target) (c : Smc) : List Byte :=
  u8 (modeCode c.mode) ++ optTarget c.mode ++ u8 c.warmUp ++ (if m = none then flag (holdRunning c.mode) else [])

/-- MODE_SET (R145): the setting is replaced, then the requested mode acts (log entry 17). -/
def setModeRequest (r : ModeSetReq) (s : State) : Result × State :=
  match requestedMode r.mode with
  | none => (refuse .outOfRange, s)
  | some m =>
    let s1 := settle (actOnMode m (s.withSmc { s.smc with warmUp := clampWarmUp r.warmUp }))
    (accept (decide (clampWarmUp r.warmUp ≠ r.warmUp)) (modeBody m s1.smc), s1)

/-- SMC enters the target at the warm-up's end (R150). -/
def enterTarget (t : Target) (s : State) : State :=
  match t with
  | .opn => setMode .opn .warmed s
  | .nightAlert => enterNightAlert .warmed s
  | .night => enterNight .warmed s

/-- The end of a warm-up that is due is taken (R150). -/
def takeWarmUpEnd (s : State) : State :=
  match s.smc.mode with
  | .warming t e => if reached e s.now then settle (enterTarget t s) else s
  | _ => s

/-- The run time at which a hold that started at `t` expires (R151). -/
def holdEnd (t : RunTime) : RunTime := t + BitVec.ofNat 32 Config.alertHoldTenths

/-- The expiry of the alert hold that is due is taken (R151). -/
def takeHoldExpiry (s : State) : State :=
  match s.smc.mode with
  | .nightAlert (some t) => if reached (holdEnd t) s.now then settle (enterNight .holdExpired s) else s
  | _ => s

/-- MODE_SET. -/
def execModeSet (tag : Byte) (body : Body ModeSetReq) (s : State) : Exec :=
  .next (serve (.modeSet tag body) body setModeRequest s)

/-- WARM_UP_END: nothing where no warm-up has reached its end, or in reset. -/
def execWarmUpEnd (s : State) : Exec := .next (if s.resetLine then s else takeWarmUpEnd s)

/-- ALERT_HOLD_EXPIRY: nothing where no hold has run its time, or in reset. -/
def execAlertHoldExpiry (s : State) : Exec := .next (if s.resetLine then s else takeHoldExpiry s)

end Sys2Proof.Machine
end

