-- ==== Sys2Proof/Machine/PlayoutFamily.lean ====
section
/-! DEFINITION. PLE: PLAYOUT_CONFIG, CHANNEL_READ, and the events of a channel and a lamp (R127, R140,
R141, R143, R169). -/

namespace Sys2Proof.Machine

/-! ### PLAYOUT_CONFIG and CHANNEL_READ -/

/-- The gap a PLAYOUT_CONFIG sets (R141). -/
def clampGap (g : Nat) : Nat := min g 9

/-- PLAYOUT_CONFIG (R141). -/
def configurePlayout (g : Nat) (s : State) : Result × State :=
  (accept (decide (clampGap g ≠ g)) [], s.withPle { s.ple with gap := clampGap g })

/-- A channel in the reply for all channels (R143). The codes of its state, 1 for IDLE and 2 for PLAYING, and the zeros
of an IDLE channel are the model's choice (log entry 16). -/
def channelSummary (r : Option Run) : List Byte :=
  match r with
  | none => u8 1 ++ List.replicate 5 0
  | some r =>
    u8 2 ++ u8 r.announcement ++ u8 r.priority ++ u8 r.zones.length ++ u8 r.position ++ u8 r.phrases.length

/-- The HEAD section (R169). The codes of the channel's state, which chapter 11 does not list, are the model's choice:
1 for IDLE, 2 for PLAYING (log entry 16). -/
def headSection (c : Nat) (r : Option Run) : List Byte :=
  match r with
  | none => u8 c ++ u8 1 ++ List.replicate 22 0
  | some r =>
    u8 c ++ u8 2 ++ u8 r.announcement ++ u8 r.priority ++ runTimeBytes r.start ++ stampBytes r.seq ++
      u8 (phaseCode r.phase) ++ runTimeBytes r.phaseEnd ++ u8 r.position ++ u8 r.phrases.length ++
      u16 r.skipped ++ flag r.truncated ++ u8 r.zones.length ++ u8 r.left.length

/-- The PHRASES section (R169). -/
def phraseSection (r : Run) : List Byte := u8 r.phrases.length ++ r.phrases.flatMap (fun p => u16 p.id)

/-- The zone entry of an attached zone (R169). -/
def attachedEntry (a : Attached) : List Byte :=
  u8 a.zone ++ u8 1 ++ i8 a.gain ++ u8 (truncateCode a.mark) ++ stampBytes a.placement.stamp ++
    repeatsBytes a.placement.repeats ++ u8 a.placement.interrupted ++ u8 0

/-- The zone entry of a zone that left (R169; log entry 16). -/
def leftEntry (e : Left) : List Byte :=
  u8 e.zone ++ u8 2 ++ u8 0 ++ u8 (outcomeCode e.outcome) ++ u32 0 ++ u8 0 ++ u8 0 ++ u8 0

/-- The ZONES section from a start index (R169). -/
def zoneSection (r : Run) (start : Nat) : List Byte :=
  (((r.zones.map attachedEntry ++ r.left.map leftEntry).drop start).take 20).flatten

/-- The section of a single channel; every section of an IDLE channel is its HEAD (R169). -/
def channelSection (c : Nat) (r : Option Run) (code start : Nat) : Result :=
  match code, r with
  | 1, r => accept false (headSection c r)
  | 2, some r => accept false (phraseSection r)
  | 3, some r => accept false (zoneSection r start)
  | 2, none => accept false (headSection c none)
  | 3, none => accept false (headSection c none)
  | _, _ => refuse .outOfRange

/-- CHANNEL_READ (R143, R169). -/
def readChannels (q : ChannelReadReq) (s : State) : Result :=
  match q.channel with
  | none => accept false (u8 s.ple.gap ++ s.ple.channels.flatMap channelSummary)
  | some c =>
    if Config.maxChannels ≤ c then refuse .outOfRange
    else channelSection c (s.channel c) q.sectionCode q.start

/-! ### Phrase by phrase -/

/-- The next phrase of a run starts (R127). -/
def nextPhrase (s : State) (r : Run) : Run :=
  { r with
    position := r.position + 1, phase := .phrase,
    phaseEnd := s.after ((r.phrases[r.position + 1]?.map Phrase.duration).getD 0) }

/-- A run enters its gap, which with a gap of 0 ends at once (R127, R141). -/
def enterGap (s : State) (r : Run) : Run :=
  if s.ple.gap = 0 then nextPhrase s r else { r with phase := .gap, phaseEnd := s.after s.ple.gap }

/-- The zones of a run that are marked to truncate, by ascending zone id (R128). -/
def markedZones (r : Run) : List Nat := (r.zones.filter (fun a => a.mark.isSome)).map Attached.zone

/-- The channel goes on into its gap, or becomes IDLE when no zone remains (R127). -/
def continueRun (c : Nat) (s : State) : State :=
  match s.channel c with
  | none => s
  | some r => if r.zones = [] then channelIdle c .truncated s else s.setChannel c (some (enterGap s r))

/-- A phrase completion of run `r` on channel `c` (R127, R128). -/
def completePhrase (c : Nat) (r : Run) (s : State) : State :=
  if r.phrases.length ≤ r.position + 1 then endRun c .completed s
  else continueRun c (forEach (markedZones r) (endPart c .truncated false) s)

/-- A phrase completion that is due is taken, with the pass that follows (R127, R133). -/
def takePhraseEnd (c : Nat) (s : State) : State :=
  match s.channel c with
  | some r =>
    if r.phase = .phrase ∧ reached r.phaseEnd s.now then settle (completePhrase c r s) else s
  | none => s

/-- The end of a gap that is due is taken (R127). -/
def takeGapEnd (c : Nat) (s : State) : State :=
  match s.channel c with
  | some r =>
    if r.phase = .gap ∧ reached r.phaseEnd s.now then s.setChannel c (some (nextPhrase s r)) else s
  | none => s

/-- The end of a lamp pulse that is due is taken (R140). -/
def takePulseEnd (z : Nat) (s : State) : State :=
  match (s.zone z).pulseEnd with
  | some t => if reached t s.now then s.modifyZone z (fun zn => { zn with pulseEnd := none }) else s
  | none => s

/-! ### The commands -/

/-- PLAYOUT_CONFIG. -/
def execPlayoutConfig (tag : Byte) (body : Body Nat) (s : State) : Exec :=
  .next (serve (.playoutConfig tag body) body configurePlayout s)

/-- CHANNEL_READ. -/
def execChannelRead (tag : Byte) (body : Body ChannelReadReq) (s : State) : Exec :=
  .next (serveRead (.channelRead tag body) body readChannels s)

/-- PHRASE_COMPLETION: nothing where the channel's phrase has not reached its end, or in reset. -/
def execPhraseCompletion (channel : Nat) (s : State) : Exec :=
  .next (if s.resetLine then s else takePhraseEnd channel s)

/-- GAP_END: nothing where the channel's gap has not reached its end, or in reset. -/
def execGapEnd (channel : Nat) (s : State) : Exec :=
  .next (if s.resetLine then s else takeGapEnd channel s)

/-- LAMP_PULSE_END: nothing where the zone's pulse has not reached its end, or in reset. -/
def execLampPulseEnd (zone : Nat) (s : State) : Exec :=
  .next (if s.resetLine then s else takePulseEnd zone s)

end Sys2Proof.Machine
end

