-- ==== Sys2Proof/Machine/StoreFamily.lean ====
section
/-! DEFINITION. The requests of ASC: phrases, templates, ANNOUNCE, the composer with its check, WITHDRAW
and STORE_READ (R74, R75, R80, R85 to R90, R168). -/

namespace Sys2Proof.Machine

/-! ### Tokens -/

/-- The token of a code without a parameter that is not a conditional marker (R168). -/
def fieldToken : Nat → Option Token
  | 0x10 => some .dest
  | 0x11 => some .origin
  | 0x12 => some .cls
  | 0x13 => some .calling
  | 0x14 => some .platform
  | 0x15 => some .oldPlatform
  | 0x16 => some .schedTime
  | 0x17 => some .expTime
  | 0x18 => some .delay
  | _ => none

/-- A host token as it is stored, or `none` when it is out of range (R80, R168). -/
def hostToken (t : RawToken) : Option Token :=
  match t.code with
  | 0x01 => if t.param < Config.maxPhrases then some (.phrase t.param) else none
  | 0x02 => some (.number (min t.param 99))
  | 0x03 => if t.param < 1440 then some (.time t.param) else none
  | c => fieldToken c

/-- A template token as it is stored, the conditional markers allowed (R75, R168). -/
def templateToken (t : RawToken) : Option Token :=
  match t.code with
  | 0x20 => some .ifDelayed
  | 0x21 => some .ifChanged
  | 0x22 => some .endIf
  | _ => hostToken t

/-- All the tokens of a list as they are stored, or `none` when one is out of range. -/
def storeTokens (f : RawToken → Option Token) : List RawToken → Option (List Token)
  | [] => some []
  | t :: ts =>
    match f t, storeTokens f ts with
    | some x, some xs => some (x :: xs)
    | _, _ => none

/-- A NUMBER of the list was clamped (R168). -/
def tokensClamped (ts : List RawToken) : Bool := ts.any (fun t => decide (t.code = 0x02) && decide (99 < t.param))

/-- A call field token (05, "Templates and tokens"). -/
def isCallField : Token → Bool
  | .phrase _ => false
  | .number _ => false
  | .time _ => false
  | .ifDelayed => false
  | .ifChanged => false
  | .endIf => false
  | _ => true

/-- The conditional markers of a template nest as R75 allows; `opn` tells whether a segment is open. -/
def segmentsOk : Bool → List Token → Bool
  | _, [] => true
  | opn, t :: ts =>
    match t with
    | .ifDelayed => !opn && segmentsOk true ts
    | .ifChanged => !opn && segmentsOk true ts
    | .endIf => opn && segmentsOk false ts
    | _ => segmentsOk opn ts

/-! ### PHRASE_SET and TEMPLATE_SET -/

/-- An entry goes to its place by phrase id. -/
def insertPhrase (e : Phrase) : List Phrase → List Phrase
  | [] => [e]
  | x :: xs => if e.id < x.id then e :: x :: xs else x :: insertPhrase e xs

/-- One entry of PHRASE_SET takes effect: a duration of 0 deletes (R74). -/
def putPhrase (r : PhraseReq) (dir : List Phrase) : List Phrase :=
  let rest := dir.filter (fun e => e.id != r.id)
  if r.duration = 0 then rest
  else insertPhrase { id := r.id, duration := min r.duration 600, location := r.location } rest

/-- Two entries of a request name one phrase id (R74, order 3). -/
def repeatsId : List PhraseReq → Bool
  | [] => false
  | p :: ps => ps.any (fun q => q.id == p.id) || repeatsId ps

/-- PHRASE_SET (R74). -/
def setPhrases (ps : List PhraseReq) (s : State) : Result × State :=
  if ps = [] ∨ 16 < ps.length then (refuse .malformed, s)
  else if ps.any (fun p => decide (Config.maxPhrases ≤ p.id)) then (refuse .outOfRange, s)
  else if repeatsId ps then (refuse .duplicate, s)
  else
    (accept (ps.any (fun p => decide (600 < p.duration))) [],
      s.withAsc { s.asc with directory := ps.foldl (fun dir p => putPhrase p dir) s.asc.directory })

/-- TEMPLATE_SET (R75). -/
def setTemplate (r : TemplateSetReq) (s : State) : Result × State :=
  if Config.maxTemplates ≤ r.template ∨ 32 < r.tokens.length then (refuse .outOfRange, s)
  else
    match storeTokens templateToken r.tokens with
    | none => (refuse .outOfRange, s)
    | some ts =>
      if segmentsOk false ts then
        (accept (tokensClamped r.tokens) [],
          s.withAsc { s.asc with templates := s.asc.templates.set r.template ts })
      else (refuse .outOfRange, s)

/-! ### The header and ANNOUNCE -/

/-- A header field is out of range (R80, order 2). -/
def headerOutOfRange (h : HeaderReq) : Bool :=
  decide (h.priority = 0) || decide (7 < h.priority) || decide (4096 ≤ h.address) || decide (4096 ≤ h.mask)
    || (match h.chime with
        | some p => decide (Config.maxPhrases ≤ p)
        | none => false)
    || (match h.latestStart with
        | some t => decide (t < 0) || decide (103199 < t)
        | none => false)

/-- A header as it is kept, repeats and interval clamped (R80, R88). -/
def storeHeader (h : HeaderReq) : Header :=
  { priority := h.priority, target := { address := BitVec.ofNat 12 h.address, mask := BitVec.ofNat 12 h.mask },
    chime := h.chime, repeats := min h.repeats 3, interval := clampNat h.interval 10 600,
    latestStart := h.latestStart, call := h.call }

/-- Repeats or interval were clamped (R80, R88). -/
def headerClamped (h : HeaderReq) : Bool :=
  decide (3 < h.repeats) || decide (clampNat h.interval 10 600 ≠ h.interval)

/-- A call field token stands in content without a call (R80, R88). -/
def fieldWithoutCall (call : Option Nat) (ts : List Token) : Bool := call.isNone && ts.any isCallField

/-- A call reference names no call of the table (R80, order 3). -/
def callMissing (s : State) (call : Option Nat) : Bool :=
  match call with
  | some id => (s.call? id).isNone
  | none => false

/-- The first position of a token list that names an absent phrase, counted from `at'` (R80, order 4). -/
def missingToken (s : State) : Nat → List Token → Option Nat
  | _, [] => none
  | at', t :: ts =>
    match t with
    | .phrase p => if (s.phrase? p).isNone then some at' else missingToken s (at' + 1) ts
    | _ => missingToken s (at' + 1) ts

/-- The first offending position: 0 for the chime, 1 upward for the tokens (R80, R89). -/
def missingPhrase (s : State) (chime : Option Nat) (ts : List Token) : Option Nat :=
  match chime with
  | some p => if (s.phrase? p).isNone then some 0 else missingToken s 1 ts
  | none => missingToken s 1 ts

/-- The host announcement that a header and a token list ask for (R80, R89). -/
def hostProto (h : Header) (tag : Byte) (ts : List Token) : Slot :=
  { id := 0, seq := 0, priority := h.priority, origin := .host tag, content := .tokens ts, call := h.call,
    chime := h.chime, repeats := .count h.repeats, interval := h.interval, latestStart := h.latestStart,
    target := [h.target], withdrawn := false }

/-- ANNOUNCE's reply to its creation (R80). -/
def announceReply (clamped : Bool) : Created → Result
  | .kept a c => accept clamped (u8 a ++ u8 c.placed ++ u8 c.refused ++ u8 c.held)
  | .storeFull => refuse .storeFull
  | .noTarget _ => refuse .noTarget

/-- ANNOUNCE (R80). -/
def announceRequest (tag : Byte) (r : AnnounceReq) (s : State) : Result × State :=
  if r.tokens = [] ∨ 16 < r.tokens.length then (refuse .malformed, s)
  else
    match storeTokens hostToken r.tokens with
    | none => (refuse .outOfRange, s)
    | some ts =>
      if headerOutOfRange r.header || fieldWithoutCall r.header.call ts then (refuse .outOfRange, s)
      else if callMissing s r.header.call then (refuse .notFound, s)
      else
        match missingPhrase s r.header.chime ts with
        | some n => (.refused .missingPhrase n, s)
        | none =>
          let (c, s1) := createWhole (hostProto (storeHeader r.header) tag ts) s
          (announceReply (headerClamped r.header || tokensClamped r.tokens) c, s1)

/-! ### The composer -/

/-- `s` with the composer replaced. -/
def setComposer (c : Composer) (s : State) : State := s.withAsc { s.asc with composer := c }

/-- COMPOSE_BEGIN (R86). -/
def composeBeginRequest (restart : Bool) (s : State) : Result × State :=
  match s.asc.composer with
  | .idle => (accept false [], setComposer (.filling []) s)
  | .checking .. => (refuse .busy, s)
  | _ =>
    if restart then (accept false [], setComposer (.filling []) s) else (refuse .composerInUse, s)

/-- The most tokens the composer's buffer holds (R87). -/
def maxBuffer : Nat := 64

/-- COMPOSE_PART (R87). -/
def composePartRequest (raw : List RawToken) (s : State) : Result × State :=
  if raw = [] ∨ 16 < raw.length then (refuse .malformed, s)
  else
    match s.asc.composer with
    | .idle => (refuse .wrongState, s)
    | .closed _ => (refuse .wrongState, s)
    | .checking .. => (refuse .busy, s)
    | .filling buffer =>
      match storeTokens hostToken raw with
      | none => (refuse .outOfRange, s)
      | some ts =>
        if maxBuffer < buffer.length + ts.length then (refuse .outOfRange, s)
        else
          let joined := buffer ++ ts
          (accept (tokensClamped raw) (u8 joined.length),
            setComposer (if ts.length < 16 then .closed joined else .filling joined) s)

/-- The header of a COMPOSE_END is checked and the check begins (R88). -/
def composeEndChecked (tag : Byte) (h : HeaderReq) (buffer : List Token) (s : State) : Result × State :=
  if headerOutOfRange h || fieldWithoutCall h.call buffer then (refuse .outOfRange, s)
  else if callMissing s h.call then (refuse .notFound, s)
  else (accept (headerClamped h) [], setComposer (.checking buffer (storeHeader h) tag s.now) s)

/-- COMPOSE_END (R88). -/
def composeEndRequest (tag : Byte) (h : HeaderReq) (s : State) : Result × State :=
  match s.asc.composer with
  | .idle => (refuse .wrongState, s)
  | .filling [] => (refuse .wrongState, s)
  | .filling (t :: ts) => composeEndChecked tag h (t :: ts) s
  | .closed buffer => composeEndChecked tag h buffer s
  | .checking .. => (refuse .busy, s)

/-- What a creation leaves for COMPOSE_DONE to report (R89). -/
def composeResult : Created → ComposeResult
  | .kept a c => .created a c.placed c.refused c.held
  | .storeFull => .failed .storeFull 0
  | .noTarget _ => .failed .noTarget 0

/-- The check of a buffer and header against the part as it stands (R89). -/
def checkContent (buffer : List Token) (h : Header) (tag : Byte) (s : State) : ComposeResult × State :=
  if callMissing s h.call then (.failed .notFound 0, s)
  else
    match missingPhrase s h.chime buffer with
    | some n => (.failed .missingPhrase n, s)
    | none =>
      let (c, s1) := createWhole (hostProto h tag buffer) s
      (composeResult c, s1)

/-- The completion of a composer check (R89). -/
def completeCheck (s : State) : State :=
  match s.asc.composer with
  | .checking buffer h tag _ =>
    let (r, s1) := checkContent buffer h tag s
    generate (.composeDone tag r) (setComposer .idle s1)
  | _ => s

/-! ### WITHDRAW and STORE_READ -/

/-- The slot's announcement is an evacuation announcement (R85). -/
def isEvac (x : Slot) : Bool :=
  match x.origin with
  | .evac _ => true
  | _ => false

/-- WITHDRAW (R85). -/
def withdrawRequest (a : Nat) (s : State) : Result × State :=
  match s.slot? a with
  | none => (refuse .notFound, s)
  | some x =>
    if isEvac x then (refuse .wrongState, s)
    else
      let (placements, marked) := withdrawCounts s a
      (accept false (u8 placements ++ u8 marked), settle (withdrawAnnouncement a s))

/-- An origin with its detail (R90; log entry 16). -/
def originBytes : Origin → List Byte
  | .cue c i a => u8 1 ++ u16 c ++ u8 i ++ u8 (anchorCode a)
  | .host tag => u8 2 ++ [tag]
  | .evac n => u8 3 ++ u8 n

/-- The summary of an announcement (R90). -/
def slotSummary (s : State) (x : Slot) : List Byte :=
  u8 x.id ++ u8 x.priority ++ originBytes x.origin ++ optLatest x.latestStart ++
    u8 (placementCount s x.id) ++ u8 (runCount s x.id) ++ flag x.withdrawn

/-- A template number, or the count of a host token list (R90). -/
def contentByte : Content → List Byte
  | .template n => u8 n
  | .tokens ts => u8 ts.length

/-- An announcement's whole slot (R90; log entry 16). -/
def slotRecord (s : State) (x : Slot) : List Byte :=
  u8 x.id ++ u8 x.priority ++ originBytes x.origin ++ contentByte x.content ++ optCall x.call ++
    optPhrase x.chime ++ repeatsBytes x.repeats ++ u16 x.interval ++ optLatest x.latestStart ++
    u8 x.target.length ++ x.target.flatMap (fun p => addressBytes p.address ++ addressBytes p.mask) ++
    flag x.withdrawn ++ u8 (placementCount s x.id) ++ u8 (runCount s x.id)

/-- STORE_READ (R90). -/
def readStore (r : StoreReadReq) (s : State) : Result :=
  match r.selector with
  | 1 =>
    if Config.maxSlots ≤ r.value then refuse .outOfRange
    else accept false
      (u8 s.asc.slots.length ++ ((s.asc.slots.drop r.value).take 12).flatMap (slotSummary s))
  | 2 =>
    match s.slot? r.value with
    | none => refuse .notFound
    | some x => accept false (slotRecord s x)
  | _ => refuse .outOfRange

/-! ### The commands -/

/-- PHRASE_SET. -/
def execPhraseSet (tag : Byte) (body : Body (List PhraseReq)) (s : State) : Exec :=
  .next (serve (.phraseSet tag body) body setPhrases s)

/-- TEMPLATE_SET. -/
def execTemplateSet (tag : Byte) (body : Body TemplateSetReq) (s : State) : Exec :=
  .next (serve (.templateSet tag body) body setTemplate s)

/-- ANNOUNCE. -/
def execAnnounce (tag : Byte) (body : Body AnnounceReq) (s : State) : Exec :=
  .next (serve (.announce tag body) body (announceRequest tag) s)

/-- COMPOSE_BEGIN. -/
def execComposeBegin (tag : Byte) (body : Body Bool) (s : State) : Exec :=
  .next (serve (.composeBegin tag body) body composeBeginRequest s)

/-- COMPOSE_PART. -/
def execComposePart (tag : Byte) (body : Body (List RawToken)) (s : State) : Exec :=
  .next (serve (.composePart tag body) body composePartRequest s)

/-- COMPOSE_END. -/
def execComposeEnd (tag : Byte) (body : Body HeaderReq) (s : State) : Exec :=
  .next (serve (.composeEnd tag body) body (composeEndRequest tag) s)

/-- COMPOSE_CHECK_COMPLETION (R89): nothing while no check is in progress, or in reset. -/
def execComposeCheckCompletion (s : State) : Exec := .next (if s.resetLine then s else completeCheck s)

/-- WITHDRAW. -/
def execWithdraw (tag : Byte) (body : Body Nat) (s : State) : Exec :=
  .next (serve (.withdraw tag body) body withdrawRequest s)

/-- STORE_READ. -/
def execStoreRead (tag : Byte) (body : Body StoreReadReq) (s : State) : Exec :=
  .next (serveRead (.storeRead tag body) body readStore s)

end Sys2Proof.Machine
end

