-- ==== Sys2Proof/Machine/Events.lean ====
section
/-! DEFINITION. The events of run time and of station time: the second and its delivery, the end of a rest,
the ambient sample, and the tenth (R1 to R3, R9, R10, R24, R30, R45, R102 to R104, R108, R146). -/

namespace Sys2Proof.Machine

/-! ### TTU's part of a second -/

/-- A live CURRENT call lapses (R30, step 1). -/
def lapse (c : Call) (s : State) : State :=
  let s1 := withdrawCall c.id (s.modifyCall c.id (fun c => { c with state := .lapsed }))
  recomputeConflicts c.zone none (generate (.callState c.id c.state .lapsed .lapsed none) s1)

/-- Every live CURRENT call lapses (R30, step 1). Their order, which R30 leaves open, is the model's choice: each
whole, in table order (log entry 35). -/
def lapseAll (s : State) : State := forEach (s.ttu.calls.filter isLiveCurrent) lapse s

/-- Every CURRENT call leaves the table, its announcements first withdrawn (R30, step 2). Their order, which R30
leaves open, is the model's choice: table order (log entry 35). -/
def purgeAll (s : State) : State :=
  forEach ((s.ttu.calls.filter (fun c => decide (c.day = .current))).map Call.id)
    (fun id s => removeCall id (withdrawCall id s)) s

/-- A NEXT call becomes CURRENT, its times computed again from the same fields (R30 step 3, R32). -/
def promoted (c : Call) : Call := computeTimes { c with day := .current }

/-- Every call left in the table is promoted (R30, step 3). -/
def promoteAll (s : State) : State := s.withTtu { s.ttu with calls := s.ttu.calls.map promoted }

/-- The rollover of the call table, before the evaluation of the second (R30, steps 1 to 4). The order of the
zones in step 4, which R30 and R41 leave open, is the model's choice: ascending zone id (log entry 35). -/
def rolloverTable (s : State) : State :=
  forEach allZones (fun z => recomputeConflicts z none) (promoteAll (purgeAll (lapseAll s)))

/-- TTU takes a second of station time (R3, R24, R30, R45). -/
def secondTtu (rollover : Bool) (s : State) : State :=
  settle (completions (evaluateCues (if rollover then rolloverTable s else s)))

/-! ### ZRT's part of a second -/

/-- The sweep of a second drops the placement (R103). -/
def sweptPlain (s : State) (p : Placement) : Bool := latestPassed s p.announcement

/-- The sweep of the rollover second drops the placement: its announcement was created before the second
and its latest start is of the ended day (R104). -/
def sweptRollover (s : State) (limit : Nat) (p : Placement) : Bool :=
  match s.slot? p.announcement with
  | none => false
  | some x =>
    match x.latestStart with
    | some t => decide (x.seq < limit) && decide (t < (Config.daySeconds : Int))
    | none => false

/-- The latest starts of the slots created before the rollover second are reduced (R104). -/
def reduceLatest (limit : Nat) (s : State) : State :=
  s.withAsc { s.asc with
    slots := s.asc.slots.map (fun x =>
      if x.seq < limit then { x with latestStart := x.latestStart.map (fun t => t - (Config.daySeconds : Int)) }
      else x) }

/-- ZRT sweeps every zone queue, in ascending zone id and queue order (R103). -/
def sweep (which : State → Placement → Bool) (s : State) : State :=
  forEach allZones (fun z s => dropWhere z .expired (which s) s) s

/-- ZRT takes a second of station time; `limit` counts the creations before it (R103, R104). -/
def secondZrt (rollover : Bool) (limit : Nat) (s : State) : State :=
  settle
    (if rollover then reduceLatest limit (sweep (fun s => sweptRollover s limit) s)
     else sweep sweptPlain s)

/-! ### SMC's part of a second -/

/-- SMC takes a second of station time with its markers (R10, R146). -/
def secondSmc (night opn : Bool) (s : State) : State :=
  settle
    (if night then requestNight .nightTime s
     else if opn then requestOpen .openTime s
     else s)

/-! ### The second -/

/-- CLK takes a second of station time (R2, R9). -/
def advanceClock (c : Clock) : Clock :=
  if c.service + 1 < Config.daySeconds then { c with service := c.service + 1 }
  else { c with service := 0, day := c.day + 1 }

/-- The second that follows a clock is the rollover (R9). -/
def isRollover (c : Clock) : Bool := decide (Config.daySeconds ≤ c.service + 1)

/-- The second is taken by TTU, ZRT and SMC in an order that R3 leaves open. -/
def deliver (order : DeliveryOrder) (ttu zrt smc : State → State) (s : State) : State :=
  match order with
  | .ttuZrtSmc => smc (zrt (ttu s))
  | .ttuSmcZrt => zrt (smc (ttu s))
  | .zrtTtuSmc => smc (ttu (zrt s))
  | .zrtSmcTtu => ttu (smc (zrt s))
  | .smcTtuZrt => zrt (ttu (smc s))
  | .smcZrtTtu => ttu (zrt (smc s))

/-- A second of station time, whole: CLK, then its delivery (R2, R3, R9, R10). -/
def takeSecond (order : DeliveryOrder) (s : State) : State :=
  let rollover := isRollover s.clock
  let c := advanceClock s.clock
  let s1 := s.withClock c
  let s2 := if rollover then generate (.clockEvent .rollover none) s1 else s1
  deliver order (secondTtu rollover) (secondZrt rollover s.asc.created)
    (secondSmc (decide (c.nightStart = some c.service)) (decide (c.openTime = some c.service))) s2

/-! ### The end of a rest -/

/-- A rest that has ended: dropped EXPIRED, or HELD or WAITING where it stands (R102). -/
def endRest (z : Nat) (p : Placement) (s : State) : State :=
  if latestPassed s p.announcement then dropPlacement z .expired p s
  else
    let c : Condition := restoredCondition s z p
    s.modifyZone z (fun zn =>
      { zn with queue := zn.queue.map (fun q =>
          if q.announcement == p.announcement then { q with condition := c } else q) })

/-- The rest of a placement has reached its end (R102). -/
def restDue (s : State) (p : Placement) : Bool :=
  match p.condition with
  | .resting t => reached t s.now
  | _ => false

/-- The rests of zone `z` that have reached their end are taken, in queue order (R102). -/
def endRestsIn (z : Nat) (s : State) : State := forEach ((s.zone z).queue.filter (restDue s)) (endRest z) s

/-- Every rest that has reached its end is taken, in ascending zone id, before the pass that follows: the
zones of one run wake together (R131; log entry 18). -/
def endRests (s : State) : State := settle (forEach allZones endRestsIn s)

/-- The rest of announcement `a` in zone `z` has reached its end. -/
def restEnded (s : State) (z a : Nat) : Bool := (placementIn s z a).any (restDue s)

/-- The end of the rest of announcement `a` in zone `z` is taken where it is due (R102). -/
def takeRestEnd (z a : Nat) (s : State) : State := if restEnded s z a then endRests s else s

/-! ### Ambient sampling -/

/-- A zone takes noise-sense samples: enabled, not ISOLATED and not attached (R108). -/
def sampledZone (s : State) (z : Nat) : Bool :=
  (s.zone z).enabled && decide ((s.zone z).base ≠ .isolated) && (attachedChannel s z).isNone

/-- A reading as a sample (R108). -/
def sampleOf (reading : Int) : Nat := (clampInt reading 30 120).toNat

/-- A sample joins a window as its newest of eight (R108). -/
def joinWindow (sample : Nat) (w : List Nat) : List Nat :=
  let joined := w ++ [sample]
  joined.drop (joined.length - 8)

/-- Zone `z` takes its sample (R108). -/
def sampleZone (readings : List Int) (z : Nat) (s : State) : State :=
  if sampledZone s z then
    s.modifyZone z (fun zn => { zn with window := joinWindow (sampleOf (readings.getD z 30)) zn.window })
  else s

/-- The samples of a sampling instant that has come are taken (R108). -/
def takeSamples (readings : List Int) (s : State) : State :=
  if s.zrt.ambientDue then
    let s1 := s.withZrt { s.zrt with ambientDue := false }
    forEach allZones (sampleZone readings) s1
  else s

/-! ### The tenth -/

/-- A composer check in progress has used up its five tenths (R88). -/
def checkOverdue (s : State) : Bool :=
  match s.asc.composer with
  | .checking _ _ _ start => reached (start + BitVec.ofNat 32 Config.checkTenths) s.now
  | _ => false

/-- A rest has reached its end in some zone. -/
def restsDue (s : State) : Bool := s.zrt.zones.any (fun z => z.queue.any (restDue s))

/-- A composer check that is due is completed (R88). -/
def takeCheckEnd (s : State) : State := if checkOverdue s then completeCheck s else s

/-- Every event due at the present moment and not yet taken is taken, in one order (log entry 5). -/
def takeOverdue (s : State) : State :=
  let s1 := forEach allChannels (fun c s => takeGapEnd c (takePhraseEnd c s)) (takeCheckEnd s)
  let s2 := forEach allZones takePulseEnd (if restsDue s1 then endRests s1 else s1)
  takeExpiries (takeSamples s2.pins.noise (takeHoldExpiry (takeWarmUpEnd s2)))

/-- The noise-sense lines take the readings, and the samples of an instant that has come are taken (R108). -/
def takeReadings (readings : List Int) (s : State) : State :=
  takeSamples readings (s.withPins { s.pins with noise := readings })

/-- An event of run time is taken where it is due. -/
def takeTimed : TimedEvent → State → State
  | .composeCheck => takeCheckEnd
  | .phraseEnd c => takePhraseEnd c
  | .gapEnd c => takeGapEnd c
  | .restEnd z a => takeRestEnd z a
  | .pulseEnd z => takePulseEnd z
  | .warmUpEnd => takeWarmUpEnd
  | .holdExpiry => takeHoldExpiry
  | .sample readings => takeReadings readings

/-- The next tenth is a second of station time: it would bring the running prescaler to 10 (R2). -/
def isSecond (c : Clock) : Bool := !c.held && decide (10 ≤ c.prescaler + 1)

/-- CLK counts a tenth (R1, R2): the tenth that would bring a running prescaler to 10 returns it to 0. -/
def tenthClock (c : Clock) : Clock :=
  if c.held then { c with runTime := c.runTime + 1 }
  else { c with runTime := c.runTime + 1, prescaler := if isSecond c then 0 else c.prescaler + 1 }

/-- ZRT counts a tenth towards its next sampling instant (R108). -/
def tenthZrt (r : Zrt) : Zrt :=
  if r.ambientTick + 1 < Config.ambientTenths then { r with ambientTick := r.ambientTick + 1 }
  else { r with ambientTick := 0, ambientDue := true }

/-- CLK and ZRT count a tenth of run time (R1, R2, R108). -/
def countTenth (s : State) : State := (s.withClock (tenthClock s.clock)).withZrt (tenthZrt s.zrt)

/-- The tenth that is a second of station time: the tenth is counted, the events of run time that fall due with
it and are taken before the second are taken, and the second is taken (R2, R3; log entry 9). -/
def secondTenth (order : SecondOrder) (s : State) : State :=
  takeSecond order.blocks (forEach order.early takeTimed (countTenth s))

/-- A tenth of run time, the events of earlier tenths first (R1, R2). One that is a second of station time brings
that second with it, in one order. -/
def takeTenth (s : State) : State :=
  let s1 := takeOverdue s
  if isSecond s1.clock then secondTenth { early := [], blocks := .ttuZrtSmc } s1 else countTenth s1

/-! ### The commands -/

/-- SECOND_OF_STATION_TIME: the tenth that brings the prescaler to ten, with its second; nothing where the next
tenth is no second, or in reset. -/
def execSecondOfStationTime (order : SecondOrder) (s : State) : Exec :=
  .next (if s.resetLine = false ∧ isSecond s.clock then secondTenth order (takeOverdue s) else s)

/-- REST_END: nothing where no such rest has reached its end, or in reset. -/
def execRestEnd (zone announcement : Nat) (s : State) : Exec :=
  .next (if s.resetLine then s else takeRestEnd zone announcement s)

/-- AMBIENT_SAMPLE: the noise-sense lines take the readings; nothing more where no sampling instant has
come, or in reset. -/
def execAmbientSample (readings : List Int) (s : State) : Exec :=
  .next (if s.resetLine then s.withPins { s.pins with noise := readings } else takeReadings readings s)

/-- TENTH_OF_RUN_TIME: run time and the prescaler do not advance in reset (R1). -/
def execTenthOfRunTime (s : State) : Exec := .next (if s.resetLine then s else takeTenth s)

end Sys2Proof.Machine
end

