-- ==== Sys2Proof/Machine/Resets.lean ====
section
/-! DEFINITION. Cold reset and warm reset of every block (R1, R13, R31, R54, R72, R91, R110, R124, R125,
R153, R154, R166). -/

namespace Sys2Proof.Machine

/-! ### Cold reset -/

/-- Cold reset: every block at its cold values, then the RESTARTED notice (R13, R166). -/
def coldReset (s : State) : State :=
  generate (.restarted .powerOn) { State.reset with pending := s.pending, pins := s.pins }

/-! ### What a warm reset leaves in each block -/

/-- CLK (R13). -/
def warmClock (c : Clock) : Clock := { c with runTime := 0, prescaler := 0 }

/-- An input record (R72). -/
def warmInput (i : Input) : Input := { i with pending := false, debounce := none }

/-- FIU (R72). -/
def warmFiu (f : Fiu) : Fiu := { inputs := f.inputs.map warmInput, firstSample := true }

/-- ASC (R91). -/
def warmAsc (a : Asc) : Asc := { a with slots := [], idCounter := 0, created := 0, composer := .idle }

/-- A zone record (R110, R140). -/
def warmZone (z : Zone) : Zone := { z with queue := [], window := [], pulseEnd := none }

/-- A source entry, its voice still to be set by the re-issue (R111, R124). -/
def warmSource (e : Source) : Source := { e with voice := .none }

/-- ZRT (R108, R110, R111). -/
def warmZrt (r : Zrt) : Zrt :=
  { r with zones := r.zones.map warmZone, stampCounter := 0, ambientTick := 0, ambientDue := false,
           sources := r.sources.map warmSource }

/-- PLE (R125). That its start sequence 0 is the number of the next run is log entry 44. -/
def warmPle (p : Ple) : Ple := { p with channels := List.replicate Config.maxChannels none, nextSeq := 0 }

/-- The mode a warm reset leaves; a warm-up begins again from run time 0 (R154). -/
def warmMode (m : Mode) (warmUp : Nat) : Mode :=
  match m with
  | .opn => .opn
  | .winding => .night
  | .night => .night
  | .warming t _ => .warming t (BitVec.ofNat 32 (10 * warmUp))
  | .nightAlert _ => .nightAlert none

/-- SMC (R154). -/
def warmSmc (c : Smc) : Smc :=
  { c with mode := warmMode c.mode c.warmUp, supply := supplyIn (warmMode c.mode c.warmUp) }

/-- LNK (R166). -/
def warmLnk (l : Lnk) : Lnk :=
  { l with receiver := .hunting, queue := [], replies := [], outbox := [], lost := 0, tx := none }

/-- Every block as a warm reset leaves it, before the re-issue; TTU is kept whole (R31, R54). -/
def warmBlocks (s : State) : State :=
  { s with resetLine := false, clock := warmClock s.clock, fiu := warmFiu s.fiu, asc := warmAsc s.asc,
           zrt := warmZrt s.zrt, ple := warmPle s.ple, smc := warmSmc s.smc, lnk := warmLnk s.lnk }

/-! ### The re-issue -/

/-- Coverage is recomputed for a zone whose queue and channel the reset has emptied (R124). -/
def recoverZone (z : Nat) (s : State) : State := setCovering z (coveringOf s z) s

/-- An ACTIVE source's announcement is created again, with the pass of its creation, and reported (R124). -/
def reissue (n : Nat) (s : State) : State :=
  let (r, s1) := createEvac n s
  let s2 := settle s1
  generate (evacNotice s2 n .reissued (createdFull r)) s2

/-- The ACTIVE sources, by number. -/
def activeSourceList (s : State) : List Nat := allSources.filter (fun n => decide ((s.source n).state = .active))

/-- The MODE_CHANGE of a warm reset that changes the mode or restarts a warm-up (R154). -/
def reportWarmMode (before : Mode) (s : State) : State :=
  match before with
  | .winding => generate (.modeChange before s.smc.mode .reset) s
  | .warming _ _ => generate (.modeChange before s.smc.mode .reset) s
  | _ => s

/-- SMC is informed of the active sources (R124, R154). -/
def informActive (s : State) : State :=
  judgeHold (if activeSourceList s = [] then s else emergencyEvent s)

/-- A warm reset (R13, R124, R154, R166). -/
def warmReset (cause : RestartCause) (s : State) : State :=
  let s1 := generate (.restarted cause) (warmBlocks s)
  let s2 := forEach allZones recoverZone s1
  let s3 := forEach (activeSourceList s2) reissue s2
  settle (informActive (reportWarmMode s.smc.mode s3))

/-! ### The commands -/

/-- POWER_ON (R13, R166). -/
def execPowerOn (s : State) : Exec := .next (coldReset s)

/-- RESET_ASSERT: the frame in transmission is broken off; in reset nothing advances (R1, R155). -/
def execResetAssert (s : State) : Exec :=
  .next ((s.withResetLine true).withLnk { s.lnk with tx := none })

/-- RESET_RELEASE: the warm reset takes effect (R1, R13). -/
def execResetRelease (s : State) : Exec := .next (warmReset .resetLine s)

end Sys2Proof.Machine
end

