-- ==== Sys2Proof/Machine/LinkFamily.lean ====
section
/-! DEFINITION. LNK: the receiver, the transmitter's frame ends, and the link's own requests (R156 to R158,
R160, R163 to R166). -/

namespace Sys2Proof.Machine

/-! ### The receiver -/

/-- The START byte (10, "Frames"). -/
abbrev startByte : Byte := 0xA5

/-- The receiver returns to HUNTING. -/
def hunt (l : Lnk) : Lnk := { l with receiver := .hunting }

/-- A frame in reception is discarded for a fault, with its LINK_FAULT (R157). -/
def discard (f : LinkFault) (kind : Nat) (tag : Byte) (s : State) : State :=
  generate (.linkFault f kind tag) (s.withLnk (hunt s.lnk))

/-- The check of a frame: LEN through CHECK sum to a multiple of 256 (10, "Frames"). -/
def checkGood (bytes : List Byte) : Bool := decide ((bytes.map BitVec.toNat).sum % 256 = 0)

/-- The body of a frame whose bytes from LEN to CHECK are given. -/
def frameBody (bytes : List Byte) : List Byte := (bytes.drop 3).take (bytes.length - 4)

/-- A frame complete with its CHECK byte: discarded for a fault, or well-formed and queued (R157, R158). -/
def completeFrame (bytes : List Byte) (s : State) : State :=
  let kind := fieldAt bytes 1 1
  let tag := bytes.getD 2 0
  if checkGood bytes = false then discard .check kind tag s
  else if kind = 0 ∨ 0x80 ≤ kind then discard .direction kind tag s
  else if Config.maxRequests ≤ s.lnk.queue.length then discard .overrun kind tag s
  else
    s.withLnk (enqueue { kind := kind, tag := tag, body := frameBody bytes, answered := false } (hunt s.lnk))

/-- A byte within a frame, the bytes from LEN on being `bytes` (R156, R157). -/
def takeByte (b : RxByte) (bytes : List Byte) (s : State) : State :=
  if b.framingError then discard .framing 0 0 s
  else
    let joined := bytes ++ [b.value]
    let len := fieldAt joined 0 1
    if len < 2 ∨ 250 < len then discard .length 0 0 s
    else if joined.length = len + 2 then completeFrame joined s
    else s.withLnk { s.lnk with receiver := .inFrame joined }

/-- One byte arrives (R156). -/
def receiveByte (b : RxByte) (s : State) : State :=
  match s.lnk.receiver with
  | .hunting =>
    if b.value = startByte ∧ b.framingError = false then s.withLnk { s.lnk with receiver := .inFrame [] } else s
  | .inFrame bytes => takeByte b bytes s

/-- More than 10 ms pass within a frame (R157). -/
def timeOut (s : State) : State :=
  match s.lnk.receiver with
  | .hunting => s
  | .inFrame _ => discard .timeout 0 0 s

/-! ### The transmitter -/

/-- What the end of a reply's last byte brings (R165, R166). Whether a LINK_CONFIG asks for the rate already set, and so
changes nothing, is judged here against the rate at the reply's end, not when the request is taken: the model's choice
(log entry 39). -/
def applyAtEnd (a : AtEnd) (s : State) : State :=
  match a with
  | .nothing => s
  | .setRate n k =>
    if n = s.lnk.n ∧ k = s.lnk.k then s else s.withLnk (hunt { s.lnk with n := n, k := k })
  | .warmReset => warmReset .restartRequest s

/-- What a result asks for at its reply's end. -/
def atEndOf : Result → AtEnd
  | .accepted _ _ a => a
  | .refused _ _ => .nothing

/-- The transmit arbiter is run (R160). -/
def runTransmit (s : State) : State := s.withLnk (arbitrate s.lnk)

/-- The frame in transmission has been sent to its last byte (R158, R160). -/
def endFrame (s : State) : State :=
  match s.lnk.tx with
  | none => s
  | some (.notice _) => runTransmit (s.withLnk { s.lnk with tx := none })
  | some (.reply r) =>
    runTransmit (applyAtEnd (atEndOf r.result)
      (s.withLnk { s.lnk with tx := none, queue := s.lnk.queue.drop 1 }))

/-! ### The link's own requests -/

/-- The capacities IDENTIFY reports, in its order (R164). -/
def capacities : List Nat :=
  [Config.maxCalls, Config.maxPlans, Config.maxCues, Config.maxPhrases, Config.maxTemplates,
    Config.maxSlots, Config.maxZones, Config.maxGroups, Config.maxPlacements, Config.maxChannels,
    Config.maxInputs, Config.maxSources, Config.maxNotices]

/-- The accepted body of IDENTIFY (R164). -/
def identifyBody : List Byte :=
  u8 Config.familyCode ++ u16 Config.partCode ++ u8 Config.revision ++ capacities.flatMap u16

/-- The accepted body of STATUS_READ (R164). -/
def statusBody (s : State) : List Byte :=
  u8 (modeCode s.smc.mode) ++ optTarget s.smc.mode ++ u8 s.smc.warmUp ++ flag (holdRunning s.smc.mode) ++
    flag s.smc.supply ++ u32 s.clock.service ++ flag s.clock.held ++ flag s.clock.unset ++
    u16 s.clock.day.toNat ++ u16 s.ttu.calls.length ++ u16 s.asc.directory.length ++
    u8 s.asc.slots.length ++ u8 (composerCode s.asc.composer) ++ u8 (activeSources s) ++
    u8 (runs s).length ++ u8 s.lnk.n ++ u8 s.lnk.k ++ u16 s.lnk.mask.toNat ++ u8 s.lnk.queue.length ++
    u8 s.lnk.outbox.length ++ u8 s.lnk.lost

/-- LINK_CONFIG (R165). -/
def configureLink (r : LinkConfigReq) (_ : State) : Result :=
  if 7 < r.n ∨ 14 < r.k then refuse .outOfRange else .accepted false [] (.setRate r.n r.k)

/-- The class mask of a NOTICE_MASK: the eleven enables, SAFETY on (R163). -/
def maskOf (m : BitVec 16) : BitVec 11 := m.setWidth 11 ||| 1

/-- NOTICE_MASK (R163). -/
def setMask (m : BitVec 16) (s : State) : Result × State :=
  (accept false (u16 (maskOf m).toNat), s.withLnk { s.lnk with mask := maskOf m })

/-! ### The commands -/

/-- FRAME_RECEIVED: bytes arriving on the receive line; ignored in reset (R155 to R158). -/
def execFrameReceived (bytes : List RxByte) (s : State) : Exec :=
  .next (if s.resetLine then s else forEach bytes receiveByte s)

/-- INTER_BYTE_TIMEOUT: nothing outside a frame, or in reset (R157). -/
def execInterByteTimeout (s : State) : Exec := .next (if s.resetLine then s else timeOut s)

/-- UNKNOWN_KIND (R158). -/
def execUnknownKind (tag : Byte) (kind : Nat) (s : State) : Exec :=
  .next (serveRead (.unknownKind tag kind) (.fields ()) (fun _ _ => refuse .unknownKind) s)

/-- FRAME_TRANSMITTED: nothing where the transmitter is idle, or in reset (R160). -/
def execFrameTransmitted (s : State) : Exec := .next (if s.resetLine then s else endFrame s)

/-- IDENTIFY (R164). -/
def execIdentify (tag : Byte) (body : Body Unit) (s : State) : Exec :=
  .next (serveRead (.identify tag body) body (fun _ _ => accept false identifyBody) s)

/-- STATUS_READ (R164). -/
def execStatusRead (tag : Byte) (body : Body Unit) (s : State) : Exec :=
  .next (serveRead (.statusRead tag body) body (fun _ s => accept false (statusBody s)) s)

/-- RESTART (R166). -/
def execRestart (tag : Byte) (body : Body Unit) (s : State) : Exec :=
  .next (serveRead (.restart tag body) body (fun _ _ => .accepted false [] .warmReset) s)

/-- LINK_CONFIG. -/
def execLinkConfig (tag : Byte) (body : Body LinkConfigReq) (s : State) : Exec :=
  .next (serveRead (.linkConfig tag body) body configureLink s)

/-- NOTICE_MASK. -/
def execNoticeMask (tag : Byte) (body : Body (BitVec 16)) (s : State) : Exec :=
  .next (serve (.noticeMask tag body) body setMask s)

end Sys2Proof.Machine
end

