-- ==== Sys2Proof/Machine/Dispatch.lean ====
section
/-! DEFINITION. The dispatch: one arm for each command, one direct call of its meaning. -/

namespace Sys2Proof.Machine

def exec (i : Instr) (s : State) : Host.Outcome State Fault Refusal :=
  match i with
  | .powerOn => Sys2Proof.Machine.execPowerOn s
  | .resetAssert => Sys2Proof.Machine.execResetAssert s
  | .resetRelease => Sys2Proof.Machine.execResetRelease s
  | .frameReceived bytes => Sys2Proof.Machine.execFrameReceived bytes s
  | .interByteTimeout => Sys2Proof.Machine.execInterByteTimeout s
  | .unknownKind tag kind => Sys2Proof.Machine.execUnknownKind tag kind s
  | .frameTransmitted => Sys2Proof.Machine.execFrameTransmitted s
  | .identify tag body => Sys2Proof.Machine.execIdentify tag body s
  | .statusRead tag body => Sys2Proof.Machine.execStatusRead tag body s
  | .restart tag body => Sys2Proof.Machine.execRestart tag body s
  | .linkConfig tag body => Sys2Proof.Machine.execLinkConfig tag body s
  | .noticeMask tag body => Sys2Proof.Machine.execNoticeMask tag body s
  | .clockHold tag body => Sys2Proof.Machine.execClockHold tag body s
  | .clockSet tag body => Sys2Proof.Machine.execClockSet tag body s
  | .clockRelease tag body => Sys2Proof.Machine.execClockRelease tag body s
  | .clockRead tag body => Sys2Proof.Machine.execClockRead tag body s
  | .dayConfig tag body => Sys2Proof.Machine.execDayConfig tag body s
  | .callLoad tag body => Sys2Proof.Machine.execCallLoad tag body s
  | .callDelete tag body => Sys2Proof.Machine.execCallDelete tag body s
  | .callDelay tag body => Sys2Proof.Machine.execCallDelay tag body s
  | .callPlatform tag body => Sys2Proof.Machine.execCallPlatform tag body s
  | .callCancel tag body => Sys2Proof.Machine.execCallCancel tag body s
  | .callReport tag body => Sys2Proof.Machine.execCallReport tag body s
  | .callRead tag body => Sys2Proof.Machine.execCallRead tag body s
  | .callList tag body => Sys2Proof.Machine.execCallList tag body s
  | .planSet tag body => Sys2Proof.Machine.execPlanSet tag body s
  | .inputConfig tag body => Sys2Proof.Machine.execInputConfig tag body s
  | .inputRead tag body => Sys2Proof.Machine.execInputRead tag body s
  | .inputClear tag body => Sys2Proof.Machine.execInputClear tag body s
  | .phraseSet tag body => Sys2Proof.Machine.execPhraseSet tag body s
  | .templateSet tag body => Sys2Proof.Machine.execTemplateSet tag body s
  | .announce tag body => Sys2Proof.Machine.execAnnounce tag body s
  | .composeBegin tag body => Sys2Proof.Machine.execComposeBegin tag body s
  | .composePart tag body => Sys2Proof.Machine.execComposePart tag body s
  | .composeEnd tag body => Sys2Proof.Machine.execComposeEnd tag body s
  | .withdraw tag body => Sys2Proof.Machine.execWithdraw tag body s
  | .storeRead tag body => Sys2Proof.Machine.execStoreRead tag body s
  | .zoneConfig tag body => Sys2Proof.Machine.execZoneConfig tag body s
  | .groupSet tag body => Sys2Proof.Machine.execGroupSet tag body s
  | .zoneState tag body => Sys2Proof.Machine.execZoneState tag body s
  | .zoneRead tag body => Sys2Proof.Machine.execZoneRead tag body s
  | .evacStart tag body => Sys2Proof.Machine.execEvacStart tag body s
  | .evacClear tag body => Sys2Proof.Machine.execEvacClear tag body s
  | .playoutConfig tag body => Sys2Proof.Machine.execPlayoutConfig tag body s
  | .channelRead tag body => Sys2Proof.Machine.execChannelRead tag body s
  | .modeSet tag body => Sys2Proof.Machine.execModeSet tag body s
  | .secondOfStationTime order => Sys2Proof.Machine.execSecondOfStationTime order s
  | .debounceExpiry input => Sys2Proof.Machine.execDebounceExpiry input s
  | .composeCheckCompletion => Sys2Proof.Machine.execComposeCheckCompletion s
  | .restEnd zone announcement => Sys2Proof.Machine.execRestEnd zone announcement s
  | .ambientSample readings => Sys2Proof.Machine.execAmbientSample readings s
  | .phraseCompletion channel => Sys2Proof.Machine.execPhraseCompletion channel s
  | .gapEnd channel => Sys2Proof.Machine.execGapEnd channel s
  | .lampPulseEnd zone => Sys2Proof.Machine.execLampPulseEnd zone s
  | .warmUpEnd => Sys2Proof.Machine.execWarmUpEnd s
  | .alertHoldExpiry => Sys2Proof.Machine.execAlertHoldExpiry s
  | .tenthOfRunTime => Sys2Proof.Machine.execTenthOfRunTime s
  | .inputSampling levels => Sys2Proof.Machine.execInputSampling levels s

end Sys2Proof.Machine
end

