-- ==== Sys2Proof/Machine/Wire.lean ====
section
/-! DEFINITION. What the transmit line carries: the frame of a reply and of each notice, by the layouts of
11_message_layouts.md. A field that a rule gives only in some cases travels in every case, at its absent
value or 0 (log entry 16). -/

namespace Sys2Proof.Machine

/-- The type code of a notice (11, "Kinds, types and codes"). -/
def noticeType : Notice → Nat
  | .restarted _ => 0x01
  | .linkFault .. => 0x02
  | .clockEvent .. => 0x03
  | .modeChange .. => 0x04
  | .callState .. => 0x10
  | .cueFired .. => 0x11
  | .cueMissed .. => 0x12
  | .platformConflict .. => 0x13
  | .trainUnmatched .. => 0x14
  | .dispatchUnmatched .. => 0x15
  | .inputEvent .. => 0x20
  | .composeDone .. => 0x30
  | .announceDropped .. => 0x31
  | .placementDropped .. => 0x40
  | .placementRefused .. => 0x41
  | .runStarted .. => 0x50
  | .runEnded .. => 0x51
  | .evacChange _ => 0x60
  | .zoneStateChange .. => 0x61

/-- The result of a composer check (R89). -/
def composeBytes : ComposeResult → List Byte
  | .created a p r h => u8 0 ++ u8 0 ++ u8 a ++ u8 p ++ u8 r ++ u8 h
  | .failed c n => u8 (codeNumber c) ++ u8 n ++ u8 0 ++ u8 0 ++ u8 0 ++ u8 0

/-- The matching isolated zones: one bit for each of the 40 zones (R122). -/
def zoneSetBytes (zs : List Nat) : List Byte := beBytes 5 (zs.foldl (fun n z => n + 2 ^ z) 0)

/-- The fields of an EVAC_CHANGE (R122). -/
def evacBytes (e : EvacChange) : List Byte :=
  optNumber e.source ++ addressBytes e.key.target.address ++ addressBytes e.key.target.mask ++
    u8 e.key.template ++ u16 e.key.interval ++ u8 (sourceKindCode e.key.kind) ++ u8 (evacEventCode e.event) ++
    u8 ((e.reason.map codeNumber).getD 0) ++ u8 (voiceCode e.voice) ++ u8 (voiceId e.voice) ++
    u8 e.covered ++ u8 e.deferred ++ u8 e.full ++ zoneSetBytes e.isolated

/-- A notice's own fields, in the order its rule names them. The order of the four states of ZONE_STATE_CHANGE, which
R106 leaves open, is the model's choice: base before, effective before, base after, effective after. So are the count
byte before the zones of RUN_STARTED (R126) and of RUN_ENDED (R132), and the level byte of INPUT_EVENT (R58), 1 for high
and 0 for low. The trigger of CUE_FIRED and CUE_MISSED (R47), which may be negative (R44) and to which chapter 11
gives neither width nor sign, travels as four bytes, signed, and an event time in its place alike: the model's choice
too (log entry 16). -/
def noticeFields : Notice → List Byte
  | .restarted c => u8 (restartCode c) ++ u8 Config.revision
  | .linkFault f k t => u8 (faultCode f) ++ u8 k ++ [t]
  | .clockEvent k b => u8 (clockEventCode k) ++ optTime b
  | .modeChange b a c =>
    u8 (modeCode b) ++ u8 (modeCode a) ++ optTarget b ++ optTarget a ++ u8 (modeCauseCode c) ++
      optNumber (wakeInput c)
  | .callState c b a cause t =>
    u16 c ++ u8 (callStateCode b) ++ u8 (callStateCode a) ++ u8 (callCauseCode cause) ++ captureBytes t
  | .cueFired c i a t ann sup zs =>
    u16 c ++ u8 i ++ u8 (anchorCode a) ++ i32 t ++ u8 ann ++ flag sup ++ u8 zs
  | .cueMissed c i t n => u16 c ++ u8 i ++ i32 t ++ u32 n
  | .platformConflict c z d p => u16 c ++ u8 z ++ u8 (directionCode d) ++ u16 p
  | .trainUnmatched z m t i r c =>
    u8 z ++ u8 (movementCode m) ++ captureBytes (some t) ++ u8 i ++ u8 (trainReasonCode r) ++ optCall c
  | .dispatchUnmatched z t i r c =>
    u8 z ++ captureBytes (some t) ++ u8 i ++ u8 (dispatchReasonCode r) ++ optCall c
  | .inputEvent n f l t => u8 n ++ u8 (functionCode f) ++ flag l ++ captureBytes (some t)
  | .composeDone t r => [t] ++ composeBytes r
  | .announceDropped c i r => u16 c ++ u8 i ++ u8 (codeNumber r)
  | .placementDropped a z p c st r =>
    u8 a ++ u8 z ++ u8 p ++ u8 (conditionCode c) ++ stampBytes st ++ u8 (dropCode r)
  | .placementRefused a z p r => u8 a ++ u8 z ++ u8 p ++ u8 (refuseCode r)
  | .runStarted c a p n zs s =>
    u8 c ++ u8 a ++ u8 p ++ u8 n ++ u8 zs.length ++ zs.flatMap (fun e => u8 e.1 ++ i8 e.2) ++ u8 (s.getD 0)
  | .runEnded c a p o n k t zs =>
    u8 c ++ u8 a ++ u8 p ++ u8 (outcomeCode o) ++ u8 n ++ u16 k ++ flag t ++ u8 zs.length ++
      zs.flatMap (fun e => u8 e.zone ++ u8 (outcomeCode e.outcome) ++ u8 (fateCode e.fate))
  | .evacChange e => evacBytes e
  | .zoneStateChange z bb eb ba ea c =>
    u8 z ++ u8 (baseCode bb) ++ u8 (effectiveCode eb) ++ u8 (baseCode ba) ++ u8 (effectiveCode ea) ++
      u8 (zoneCauseCode c)

/-- The body of a notice: its header, then its fields (11, "Frame and headers"). -/
def noticeBody (e : NoticeEntry) : List Byte :=
  u8 (noticeType e.notice) ++ u16 e.day.toNat ++ u32 e.service ++ u8 e.lost ++ noticeFields e.notice

/-- The body of a reply (R159). -/
def replyBody : Result → List Byte
  | .accepted clamped body _ => u8 0 ++ flag clamped ++ body
  | .refused c d => u8 (codeNumber c) ++ u8 d

/-- The CHECK byte: LEN through CHECK sum to a multiple of 256 (10, "Frames"). -/
def checkByte (bytes : List Byte) : Byte := BitVec.ofNat 8 (256 - (bytes.map BitVec.toNat).sum % 256)

/-- A frame: START, LEN, KIND, TAG, BODY, CHECK (10, "Frames"). -/
def frameBytes (kind : Nat) (tag : Byte) (body : List Byte) : List Byte :=
  let summed := u8 (body.length + 2) ++ u8 kind ++ [tag] ++ body
  [startByte] ++ summed ++ [checkByte summed]

/-- The frame in transmission, as the line carries it (R159 to R161). -/
def txBytes : TxFrame → List Byte
  | .reply r => frameBytes (r.kind + 0x80) r.tag (replyBody r.result)
  | .notice n => frameBytes 0x80 0 (noticeBody n)

/-- A request as the host sends it, its bytes without framing errors. -/
def requestFrame (r : Request) : List RxByte :=
  (frameBytes r.kind r.tag r.body).map (fun b => { value := b, framingError := false })

/-- The line rate in bits per second, as a quotient (R155). -/
def lineRate (n k : Nat) : Nat := 14745600 / (2 ^ n * (k + 16))

end Sys2Proof.Machine
end

