-- ==== Sys2Proof/Safety.lean ====
section
/-! DEFINITION. What the manual promises of every state of the part: the ranges of the clock, the capacities
of the tables, the link's limits, the amplifier supply, the coverage of zones, the store and the station mode. -/

namespace Sys2Proof.Machine

/-! ### The clock (01, "The clock's state") -/

/-- An automatic time is absent or a service time (R10, R11). -/
def timeOk (t : Option Nat) : Prop := ∀ x, t = some x → x < Config.daySeconds

/-- The clock's ranges; an unset clock is held (R8). -/
structure ClockOk (c : Clock) : Prop where
  service : c.service < Config.daySeconds
  prescaler : c.prescaler ≤ 9
  unset : c.unset = true → c.held = true
  offset : c.offset < Config.daySeconds
  window : 60 ≤ c.matchWindow ∧ c.matchWindow ≤ 3600
  nightStart : timeOk c.nightStart
  openTime : timeOk c.openTime
  distinct : c.nightStart.isSome = true → c.nightStart ≠ c.openTime

/-! ### The link (10, the state table) -/

/-- The frame in transmission is a reply. -/
def sendsReply (l : Lnk) : Nat :=
  match l.tx with
  | some (.reply _) => 1
  | _ => 0

/-- The answered requests of the queue stand before the unanswered ones (R158). -/
def answeredFirst : List Request → Prop
  | [] => True
  | r :: rs => (r.answered = false → ∀ q ∈ rs, q.answered = false) ∧ answeredFirst rs

/-- A rate that a reply's end will set is one R155 allows (R165). -/
def rateOk : AtEnd → Prop
  | .setRate n k => n ≤ 7 ∧ k ≤ 14
  | _ => True

/-- The result of the reply in transmission, if one is. -/
def sentResults (l : Lnk) : List Result :=
  match l.tx with
  | some (.reply r) => [r.result]
  | _ => []

/-- The link's limits in or out of reset (R155, R158, R161 to R163). -/
structure LinkOk (l : Lnk) : Prop where
  rate : l.n ≤ 7 ∧ l.k ≤ 14
  queue : l.queue.length ≤ Config.maxRequests
  outbox : l.outbox.length ≤ Config.maxNotices
  lost : l.lost ≤ Config.maxLost
  carried : ∀ e ∈ l.outbox, e.lost ≤ Config.maxLost
  safety : l.mask.getLsbD 0 = true
  order : answeredFirst l.queue
  rates : ∀ r ∈ sentResults l ++ l.replies.map Reply.result, rateOk (atEndOf r)

/-- Out of reset, every answered request still has its reply on the way, and the transmitter idles only
when nothing waits (R158, R160). -/
structure LinkLive (l : Lnk) : Prop where
  answered : l.queue.countP Request.answered = l.replies.length + sendsReply l
  idle : l.tx = none → l.replies = [] ∧ l.outbox = []

/-- LNK's invariant. -/
def LinkSound (s : State) : Prop := LinkOk s.lnk ∧ (s.resetLine = false → LinkLive s.lnk)

/-! ### The amplifier supply -/

/-- The supply line is off in NIGHT and on in every other mode (R144). -/
def SupplyOk (c : Smc) : Prop := c.supply = supplyIn c.mode

/-! ### Capacities -/

/-- A queue's capacity and its order by priority (R99). -/
def QueueOk (q : List Placement) : Prop :=
  q.length ≤ Config.maxPlacements ∧ q.Pairwise (fun a b => b.priority ≤ a.priority)

/-- A zone's record: its gain limits, its settings' ranges, its window and its queue (R92, R99, R108). -/
structure ZoneOk (z : Zone) : Prop where
  gains : -120 ≤ z.gmin ∧ z.gmin ≤ z.gmax ∧ z.gmax ≤ 0
  base : -120 ≤ z.g0 ∧ z.g0 ≤ 0
  nref : 30 ≤ z.nref ∧ z.nref ≤ 120
  slope : z.slope ≤ 8
  threshold : 1 ≤ z.lampThreshold ∧ z.lampThreshold ≤ 7
  window : z.window.length ≤ 8 ∧ ∀ x ∈ z.window, 30 ≤ x ∧ x ≤ 120
  queue : QueueOk z.queue

/-- The tokens the composer holds (R87). -/
def bufferOf : Composer → List Token
  | .idle => []
  | .filling b => b
  | .closed b => b
  | .checking b _ _ _ => b

/-- A queue's placements, stated of every zone. -/
def QueuesOk (s : State) : Prop := ∀ z ∈ s.zrt.zones, QueueOk z.queue

/-- The store: its capacity, and ids 1 to 255 each held by one slot (R82, R84). -/
structure SlotsOk (slots : List Slot) : Prop where
  capacity : slots.length ≤ Config.maxSlots
  ids : (slots.map Slot.id).Nodup
  range : ∀ x ∈ slots, 1 ≤ x.id ∧ x.id ≤ 255

/-- The phrase directory: by ascending id, at most one entry for each of the 2,048 ids, durations of 1 to 600
tenths (R73, R74). -/
structure DirectoryOk (d : List Phrase) : Prop where
  capacity : d.length ≤ Config.maxPhrases
  order : d.Pairwise (fun a b => a.id < b.id)
  range : ∀ e ∈ d, e.id < Config.maxPhrases ∧ 1 ≤ e.duration ∧ e.duration ≤ 600

/-- The tables keep their sizes and no capacity is passed (00, "Identifiers and ranges"; R14, R42, R73 to R75,
R82, R84, R87, R99, R111, R125, R141, R145). -/
structure CapacityOk (s : State) : Prop where
  calls : s.ttu.calls.length ≤ Config.maxCalls
  plans : s.ttu.plans.length = Config.maxPlans
  cues : ∀ p ∈ s.ttu.plans, p.cues.length ≤ Config.maxCues
  inputs : s.fiu.inputs.length = Config.maxInputs
  directory : DirectoryOk s.asc.directory
  templates : s.asc.templates.length = Config.maxTemplates
  tokens : ∀ t ∈ s.asc.templates, t.length ≤ 32
  slots : SlotsOk s.asc.slots
  buffer : (bufferOf s.asc.composer).length ≤ 64
  zones : s.zrt.zones.length = Config.maxZones
  sources : s.zrt.sources.length = Config.maxSources
  records : ∀ z ∈ s.zrt.zones, ZoneOk z
  channels : s.ple.channels.length = Config.maxChannels
  gap : s.ple.gap ≤ 9
  warmUp : 1 ≤ s.smc.warmUp ∧ s.smc.warmUp ≤ 30

/-! ### The call table -/

/-- The table order, distinct ids, and one train to a platform (R14). -/
structure TableOk (calls : List Call) : Prop where
  order : calls.Pairwise (fun a b => comesBefore a b = true)
  ids : (calls.map Call.id).Nodup
  platform : calls.Pairwise (fun a b =>
    a.state = .atPlatform → b.state = .atPlatform → a.zone ≠ b.zone)

/-! ### Coverage -/

/-- Every zone's covering source is the one R115 gives it: the lowest-numbered that covers it. -/
structure CoverageOk (s : State) : Prop where
  zones : s.zrt.zones.length = Config.maxZones
  sources : s.zrt.sources.length = Config.maxSources
  covering : ∀ z < Config.maxZones, (s.zone z).covering = coveringOf s z

/-- The law of isolation (R107, R115): a zone is attached to at most one channel, and an ISOLATED zone is
covered by no source, holds no placement and is attached to no channel. -/
structure IsolationOk (s : State) : Prop where
  channels : s.ple.channels.length = Config.maxChannels
  alone : ∀ z < Config.maxZones, ∀ c < Config.maxChannels, ∀ d < Config.maxChannels,
    attachedTo s z c = true → attachedTo s z d = true → c = d
  isolated : ∀ z < Config.maxZones, (s.zone z).base = .isolated →
    (s.zone z).covering = none ∧ (s.zone z).queue = [] ∧ ∀ c < Config.maxChannels, attachedTo s z c = false

/-! ### Announcements and the station mode -/

/-- The law of the store (R81, R84, R99, R120, R126): every queued placement and every run is of an announcement in the
store and of its priority, a run carries the placements of its own announcement, an ACTIVE source is VOICED by an
announcement of priority 7 in the store, and every announcement in the store has a placement or a run. -/
structure AnnouncementsOk (s : State) : Prop where
  queued : ∀ z ∈ s.zrt.zones, ∀ p ∈ z.queue, ∃ x, s.slot? p.announcement = some x ∧ x.priority = p.priority
  playing : ∀ c r, s.channel c = some r →
    (∃ x, s.slot? r.announcement = some x ∧ x.priority = r.priority) ∧
      ∀ a ∈ r.zones, a.placement.announcement = r.announcement ∧ a.placement.priority = r.priority
  voiced : ∀ n a, (s.source n).state = .active → (s.source n).voice = .voiced a →
    ∃ x, s.slot? a = some x ∧ x.priority = 7
  used : ∀ x ∈ s.asc.slots, 0 < placementCount s x.id ∨ 0 < runCount s x.id

/-- The law of the modes (R144, R147, R151): no channel is PLAYING in NIGHT or WARMING; in NIGHT_ALERT every run is of
priority 6 or above, and the hold runs exactly while the station is quiet; no placement below 6 is queued in NIGHT or
NIGHT_ALERT; in WINDING a run below 6 is still playing. -/
structure ModeOk (s : State) : Prop where
  silent : (s.smc.mode = .night ∨ ∃ g e, s.smc.mode = .warming g e) → ∀ c, s.channel c = none
  alert : ∀ h, s.smc.mode = .nightAlert h → ∀ c r, s.channel c = some r → 6 ≤ r.priority
  hold : ∀ h, s.smc.mode = .nightAlert h → h.isSome = quiet s
  queues : (s.smc.mode = .night ∨ ∃ h, s.smc.mode = .nightAlert h) →
    ∀ z ∈ s.zrt.zones, ∀ p ∈ z.queue, 6 ≤ p.priority
  winding : s.smc.mode = .winding → ∃ c r, s.channel c = some r ∧ r.priority < 6

/-! ### What playing leaves alone -/

/-- LNK after any number of notices (R161, R162). -/
inductive Notified : Lnk → Lnk → Prop where
  | refl (l : Lnk) : Notified l l
  | notify {l m : Lnk} (day : BitVec 16) (service : Nat) (n : Notice) (h : Notified l m) :
    Notified l (notifyLnk m day service n)

/-- A zone's record apart from its queue and its lamp pulse. -/
def settings (z : Zone) : Zone := { z with queue := [], pulseEnd := none }

/-- A source's entry apart from its voice. -/
def standing (e : Source) : Source := { e with voice := .none }

/-- `t` is `s` after work on announcements alone: slots, placements, runs, voices, lamp pulses, the station
mode and notices may differ; the host's settings, the tables it loads, the clock, the inputs, and the
coverage of the zones do not. -/
structure Plays (s t : State) : Prop where
  pending : t.pending = s.pending
  resetLine : t.resetLine = s.resetLine
  pins : t.pins = s.pins
  clock : t.clock = s.clock
  ttu : t.ttu = s.ttu
  fiu : t.fiu = s.fiu
  directory : t.asc.directory = s.asc.directory
  templates : t.asc.templates = s.asc.templates
  composer : t.asc.composer = s.asc.composer
  zones : t.zrt.zones.map settings = s.zrt.zones.map settings
  groups : t.zrt.groups = s.zrt.groups
  ambient : t.zrt.ambientTick = s.zrt.ambientTick ∧ t.zrt.ambientDue = s.zrt.ambientDue
  sources : t.zrt.sources.map standing = s.zrt.sources.map standing
  channels : t.ple.channels.length = s.ple.channels.length
  gap : t.ple.gap = s.ple.gap
  warmUp : t.smc.warmUp = s.smc.warmUp
  lnk : Notified s.lnk t.lnk

/-- A zone's configuration with its ambient window (R92, R108). -/
def configuration (z : Zone) : Zone := { z with queue := [], pulseEnd := none, covering := none, base := .opn }

/-- `t` is `s` after work on announcements, base states, coverage and sources: what `Plays` says, but for
the base states, the coverage and the source entries. -/
structure Routes (s t : State) : Prop where
  pending : t.pending = s.pending
  resetLine : t.resetLine = s.resetLine
  pins : t.pins = s.pins
  clock : t.clock = s.clock
  ttu : t.ttu = s.ttu
  fiu : t.fiu = s.fiu
  directory : t.asc.directory = s.asc.directory
  templates : t.asc.templates = s.asc.templates
  composer : t.asc.composer = s.asc.composer
  zones : t.zrt.zones.map configuration = s.zrt.zones.map configuration
  groups : t.zrt.groups = s.zrt.groups
  ambient : t.zrt.ambientTick = s.zrt.ambientTick ∧ t.zrt.ambientDue = s.zrt.ambientDue
  sources : t.zrt.sources.length = s.zrt.sources.length
  channels : t.ple.channels.length = s.ple.channels.length
  gap : t.ple.gap = s.ple.gap
  warmUp : t.smc.warmUp = s.smc.warmUp
  lnk : Notified s.lnk t.lnk

end Sys2Proof.Machine
end

