-- ==== Sys2Proof/WellFormed.lean ====
section
/-! DEFINITION. Which commands a host can spell: every field fits the width its layout gives it, every list
fits one body, and an absent value is not also given as present (11_message_layouts.md, R167). -/

namespace Sys2Proof

/-- A value of one byte. -/
def byteOk (n : Nat) : Bool := decide (n < 256)
/-- A value of two bytes. -/
def wordOk (n : Nat) : Bool := decide (n < 65536)
/-- A value of four bytes. -/
def longOk (n : Nat) : Bool := decide (n < 4294967296)
/-- A signed value of `w` bits. -/
def signedOk (w : Nat) (n : Int) : Bool := decide (-(2 ^ (w - 1) : Int) ≤ n) && decide (n < (2 ^ (w - 1) : Int))
/-- An optional value that is not its own absent value. -/
def optOk (ok : Nat → Bool) (absent : Nat) : Option Nat → Bool
  | none => true
  | some n => ok n && decide (n ≠ absent)
/-- An optional signed value of 32 bits after a presence byte. -/
def optSignedOk : Option Int → Bool
  | none => true
  | some n => signedOk 32 n
/-- An optional latest start: 0x7FFFFFFF means none. -/
def latestOk : Option Int → Bool
  | none => true
  | some n => signedOk 32 n && decide (n ≠ 0x7FFFFFFF)
/-- A body of fields is well-formed when its fields are. -/
def bodyOk {α : Type} (ok : α → Bool) : Body α → Bool
  | .malformed => true
  | .fields a => ok a
/-- A list of tokens that fits `limit`. -/
def tokensOk (limit : Nat) (ts : List RawToken) : Bool :=
  decide (ts.length ≤ limit) && ts.all (fun t => byteOk t.code && wordOk t.param)
/-- A header (R80). -/
def headerOk (h : HeaderReq) : Bool :=
  byteOk h.priority && wordOk h.address && wordOk h.mask && optOk wordOk 0xFFFF h.chime && byteOk h.repeats
    && wordOk h.interval && latestOk h.latestStart && optOk wordOk 0 h.call
/-- DAY_CONFIG (R11). -/
def dayConfigOk (r : DayConfigReq) : Bool :=
  longOk r.offset && optOk longOk 0xFFFFFFFF r.nightStart && optOk longOk 0xFFFFFFFF r.openTime
    && wordOk r.matchWindow
/-- CALL_LOAD (R15). -/
def callLoadOk (r : CallLoadReq) : Bool :=
  wordOk r.id && byteOk r.dayTag && byteOk r.kind && byteOk r.zone && longOk r.sa && longOk r.sd && wordOk r.oa
    && optOk wordOk 0xFFFF r.dest && optOk wordOk 0xFFFF r.origin && optOk wordOk 0xFFFF r.cls && byteOk r.plan
    && decide (r.calling.length ≤ 112) && r.calling.all wordOk
/-- One cue of PLAN_SET; only 12 bits of its address and mask are read (R167). -/
def cueOk (q : RawCue) : Bool :=
  byteOk q.anchor && signedOk 16 q.offset && byteOk q.template && byteOk q.priority && byteOk q.targetKind
    && decide (q.address < 4096) && decide (q.mask < 4096) && byteOk q.repeats && wordOk q.interval
    && wordOk q.expiry && wordOk q.late
/-- PLAN_SET (R42). -/
def planSetOk (r : PlanSetReq) : Bool :=
  byteOk r.plan && wordOk r.threshold && decide (r.cues.length ≤ 14) && r.cues.all cueOk
/-- A function code with its parameters (R61). -/
def functionOk : RawFunction → Bool
  | .general => true
  | .trainDetect z => byteOk z
  | .dispatch z => byteOk z
  | .platformClose z => byteOk z
  | .firePanel a m t i => wordOk a && wordOk m && byteOk t && wordOk i
  | .unknown c => byteOk c && (decide (c = 0) || decide (5 < c))
/-- INPUT_CONFIG (R61). -/
def inputConfigOk (r : InputConfigReq) : Bool :=
  byteOk r.input && byteOk r.polarity && byteOk r.sense && wordOk r.debounce && functionOk r.function
/-- One entry of PHRASE_SET (R74). -/
def phraseOk (p : PhraseReq) : Bool := wordOk p.id && wordOk p.duration && longOk p.location
/-- ZONE_CONFIG (R92). -/
def zoneConfigOk (r : ZoneConfigReq) : Bool :=
  byteOk r.zone && wordOk r.address && byteOk r.kind && optOk wordOk 0xFFFF r.name && signedOk 8 r.g0
    && signedOk 8 r.gmin && signedOk 8 r.gmax && byteOk r.nref && byteOk r.slope && byteOk r.lampMode
    && byteOk r.lampThreshold
/-- CHANNEL_READ (R169): a start index other than 0 belongs to section 3, or to all channels. -/
def channelReadOk (r : ChannelReadReq) : Bool :=
  optOk byteOk 0xFF r.channel && byteOk r.sectionCode && byteOk r.start
    && (decide (r.sectionCode = 3) || decide (r.start = 0) || decide (r.channel = none))

/-- The request kinds the part knows (11, "Kinds, types and codes"). -/
def knownKinds : List Nat :=
  [0x01, 0x02, 0x03, 0x04, 0x05, 0x10, 0x11, 0x12, 0x13, 0x14, 0x20, 0x21, 0x22, 0x23, 0x24, 0x25, 0x26,
    0x27, 0x28, 0x30, 0x31, 0x32] ++
  [0x40, 0x41, 0x42, 0x43, 0x44, 0x45, 0x46, 0x47, 0x50, 0x51, 0x52, 0x53, 0x54, 0x55, 0x60, 0x61, 0x70]

/-- The operands of an event of run time: a channel, a zone, an announcement, forty readings. -/
def timedOk : TimedEvent → Bool
  | .composeCheck => true
  | .phraseEnd c => decide (c < 8)
  | .gapEnd c => decide (c < 8)
  | .restEnd z a => decide (z < 40) && decide (1 ≤ a) && decide (a ≤ 255)
  | .pulseEnd z => decide (z < 40)
  | .warmUpEnd => true
  | .holdExpiry => true
  | .sample rs => decide (rs.length = 40)

/-- A command is well-formed: for a request, one frame spells it; for an event, its operands name what the
part has. -/
def wellFormed : Instr → Bool
  | .powerOn => true
  | .resetAssert => true
  | .resetRelease => true
  | .frameReceived _ => true
  | .interByteTimeout => true
  | .unknownKind _ k => decide (1 ≤ k) && decide (k ≤ 0x7F) && decide (k ∉ knownKinds)
  | .frameTransmitted => true
  | .identify _ _ => true
  | .statusRead _ _ => true
  | .restart _ _ => true
  | .linkConfig _ b => bodyOk (fun r => byteOk r.n && byteOk r.k) b
  | .noticeMask _ _ => true
  | .clockHold _ _ => true
  | .clockSet _ b => bodyOk longOk b
  | .clockRelease _ _ => true
  | .clockRead _ _ => true
  | .dayConfig _ b => bodyOk dayConfigOk b
  | .callLoad _ b => bodyOk callLoadOk b
  | .callDelete _ b => bodyOk wordOk b
  | .callDelay _ b => bodyOk (fun r => wordOk r.id && optSignedOk r.arrival && optSignedOk r.departure) b
  | .callPlatform _ b => bodyOk (fun r => wordOk r.id && byteOk r.zone) b
  | .callCancel _ b => bodyOk wordOk b
  | .callReport _ b => bodyOk (fun r => wordOk r.id && byteOk r.stage && longOk r.time) b
  | .callRead _ b => bodyOk wordOk b
  | .callList _ b => bodyOk wordOk b
  | .planSet _ b => bodyOk planSetOk b
  | .inputConfig _ b => bodyOk inputConfigOk b
  | .inputRead _ b => bodyOk (optOk byteOk 0xFF) b
  | .inputClear _ _ => true
  | .phraseSet _ b => bodyOk (fun ps => decide (ps.length ≤ 30) && ps.all phraseOk) b
  | .templateSet _ b => bodyOk (fun r => byteOk r.template && tokensOk 82 r.tokens) b
  | .announce _ b => bodyOk (fun r => headerOk r.header && tokensOk 77 r.tokens) b
  | .composeBegin _ _ => true
  | .composePart _ b => bodyOk (tokensOk 82) b
  | .composeEnd _ b => bodyOk headerOk b
  | .withdraw _ b => bodyOk byteOk b
  | .storeRead _ b => bodyOk (fun r => byteOk r.selector && byteOk r.value) b
  | .zoneConfig _ b => bodyOk zoneConfigOk b
  | .groupSet _ _ => true
  | .zoneState _ b => bodyOk (fun r => byteOk r.zone && byteOk r.state) b
  | .zoneRead _ b => bodyOk (optOk byteOk 0xFF) b
  | .evacStart _ b =>
    bodyOk (fun r => wordOk r.address && wordOk r.mask && byteOk r.template && wordOk r.interval) b
  | .evacClear _ b => bodyOk byteOk b
  | .playoutConfig _ b => bodyOk byteOk b
  | .channelRead _ b => bodyOk channelReadOk b
  | .modeSet _ b => bodyOk (fun r => byteOk r.mode && byteOk r.warmUp) b
  | .secondOfStationTime order => order.early.all timedOk
  | .debounceExpiry n => decide (n < 32)
  | .composeCheckCompletion => true
  | .restEnd z a => decide (z < 40) && decide (1 ≤ a) && decide (a ≤ 255)
  | .ambientSample rs => decide (rs.length = 40)
  | .phraseCompletion c => decide (c < 8)
  | .gapEnd c => decide (c < 8)
  | .lampPulseEnd z => decide (z < 40)
  | .warmUpEnd => true
  | .alertHoldExpiry => true
  | .tenthOfRunTime => true
  | .inputSampling _ => true

end Sys2Proof
end

