-- ==== Sys2Proof/Certificates/Slice0/Obligations.lean ====
section
/-! DEFINITION. The statements for the provers. A request command is handed in a state `s0`: the state `s` of
the part, or `s` with the frame that spells the command just queued (`Handed`); what it leaves is said of
`s0`, whose blocks are those of `s` but for the request queue. -/

open Sys2Proof Sys2Proof.Machine

namespace Sys2Proof.Claims

/-- Command `c` is handed to its owner; `s0` is the state it is handed in (R158; log entry 2). -/
def Handed (c : Instr) (s s0 : State) : Prop := takeRequest c s = some s0

/-- An acceptance that clamped nothing (R159). -/
def accepted (body : List Byte) : Result := .accepted false body .nothing

/-- A refusal without detail (R159). -/
def refused (c : Code) : Result := .refused c 0

/-- Command `c` is answered with `r` and has no other effect. -/
def OnlyAnswers (c : Instr) (s s0 : State) (r : Result) : Prop := exec c s = .next (answer r s0)

/-- The request carries a body of a length that its kind does not allow. -/
def malformed : Instr → Bool
  | .identify _ b => decide (b = .malformed)
  | .statusRead _ b => decide (b = .malformed)
  | .restart _ b => decide (b = .malformed)
  | .linkConfig _ b => decide (b = .malformed)
  | .noticeMask _ b => decide (b = .malformed)
  | .clockHold _ b => decide (b = .malformed)
  | .clockSet _ b => decide (b = .malformed)
  | .clockRelease _ b => decide (b = .malformed)
  | .clockRead _ b => decide (b = .malformed)
  | .dayConfig _ b => decide (b = .malformed)
  | .callLoad _ b => decide (b = .malformed)
  | .callDelete _ b => decide (b = .malformed)
  | .callDelay _ b => decide (b = .malformed)
  | .callPlatform _ b => decide (b = .malformed)
  | .callCancel _ b => decide (b = .malformed)
  | .callReport _ b => decide (b = .malformed)
  | .callRead _ b => decide (b = .malformed)
  | .callList _ b => decide (b = .malformed)
  | .planSet _ b => decide (b = .malformed)
  | .inputConfig _ b => decide (b = .malformed)
  | .inputRead _ b => decide (b = .malformed)
  | .inputClear _ b => decide (b = .malformed)
  | .phraseSet _ b => decide (b = .malformed)
  | .templateSet _ b => decide (b = .malformed)
  | .announce _ b => decide (b = .malformed)
  | .composeBegin _ b => decide (b = .malformed)
  | .composePart _ b => decide (b = .malformed)
  | .composeEnd _ b => decide (b = .malformed)
  | .withdraw _ b => decide (b = .malformed)
  | .storeRead _ b => decide (b = .malformed)
  | .zoneConfig _ b => decide (b = .malformed)
  | .groupSet _ b => decide (b = .malformed)
  | .zoneState _ b => decide (b = .malformed)
  | .zoneRead _ b => decide (b = .malformed)
  | .evacStart _ b => decide (b = .malformed)
  | .evacClear _ b => decide (b = .malformed)
  | .playoutConfig _ b => decide (b = .malformed)
  | .channelRead _ b => decide (b = .malformed)
  | .modeSet _ b => decide (b = .malformed)
  | _ => false

/-- A frame in reception is discarded with a LINK_FAULT (R157). -/
def discarded (f : LinkFault) (kind : Nat) (tag : Byte) (s : State) : State :=
  generate (.linkFault f kind tag) (s.withLnk { s.lnk with receiver := .hunting })

/-- SMC after a warm reset with no ACTIVE source: the table of R154, where a warm-up begins again from run time 0, and
NIGHT_ALERT is quiet, so that its hold runs from 0. -/
def smcByTable (c : Smc) : Smc :=
  match c.mode with
  | .opn => { c with mode := .opn, supply := true }
  | .winding => { c with mode := .night, supply := false }
  | .night => { c with mode := .night, supply := false }
  | .warming g _ => { c with mode := .warming g (BitVec.ofNat 32 (10 * c.warmUp)), supply := true }
  | .nightAlert _ => { c with mode := .nightAlert (some 0), supply := true }

/-- SMC after a warm reset with a source ACTIVE: the table of R154, and then the emergency events of the re-issue by
R149. NIGHT goes to a warm-up with target NIGHT_ALERT, a warm-up with target NIGHT is retargeted, and NIGHT_ALERT is not
quiet, so that its hold stays stopped. -/
def smcUnderSource (c : Smc) : Smc :=
  let ends : RunTime := BitVec.ofNat 32 (10 * c.warmUp)
  match c.mode with
  | .opn => { c with mode := .opn, supply := true }
  | .winding => { c with mode := .warming .nightAlert ends, supply := true }
  | .night => { c with mode := .warming .nightAlert ends, supply := true }
  | .warming .opn _ => { c with mode := .warming .opn ends, supply := true }
  | .warming _ _ => { c with mode := .warming .nightAlert ends, supply := true }
  | .nightAlert _ => { c with mode := .nightAlert none, supply := true }

/-- What a warm reset leaves in `t` of the state `s` it is taken in (R13, R31, R72, R82, R91, R98, R110, R111, R125, R154,
R166): everything it keeps and everything it empties, with SMC by R154 and R149; what the re-issue of the ACTIVE sources
adds to the store is evacuation announcements alone (R91, R124). That the stable levels stand as before until the first
sample gives each its raw level (R72) is the model's choice (log entry 3). -/
structure WarmReset (cause : RestartCause) (s t : State) : Prop where
  pending : t.pending = s.pending
  resetLine : t.resetLine = false
  pins : t.pins = s.pins
  clock : t.clock = { s.clock with runTime := 0, prescaler := 0 }
  ttu : t.ttu = s.ttu
  inputs : t.fiu.inputs = s.fiu.inputs.map (fun i => { i with pending := false, debounce := none })
  firstSample : t.fiu.firstSample = true
  directory : t.asc.directory = s.asc.directory
  templates : t.asc.templates = s.asc.templates
  composer : t.asc.composer = .idle
  zones : t.zrt.zones.map configuration =
    s.zrt.zones.map (fun z => configuration { z with window := [] })
  bases : t.zrt.zones.map Zone.base = s.zrt.zones.map Zone.base
  groups : t.zrt.groups = s.zrt.groups
  ambient : t.zrt.ambientTick = 0 ∧ t.zrt.ambientDue = false
  sources : t.zrt.sources.map standing = s.zrt.sources.map standing
  gap : t.ple.gap = s.ple.gap
  warmUp : t.smc.warmUp = s.smc.warmUp
  rate : t.lnk.n = s.lnk.n ∧ t.lnk.k = s.lnk.k
  mask : t.lnk.mask = s.lnk.mask
  receiver : t.lnk.receiver = .hunting
  requests : t.lnk.queue = [] ∧ t.lnk.replies = []
  restarted : t.lnk.tx = some (.notice
    { day := s.clock.day, service := s.clock.service, lost := 0, notice := .restarted cause })
  origins : ∀ x ∈ t.asc.slots, ∃ n, x.origin = .evac n
  unalarmed : (∀ e ∈ s.zrt.sources, e.state ≠ .active) → t.smc = smcByTable s.smc
  alarmed : (∃ n < 8, (s.source n).state = .active) → t.smc = smcUnderSource s.smc
  quiet : (∀ e ∈ s.zrt.sources, e.state ≠ .active) →
    t.asc.slots = [] ∧ (∀ r ∈ t.ple.channels, r = none) ∧ ∀ z ∈ t.zrt.zones, z.queue = []
  counters : (∀ e ∈ s.zrt.sources, e.state ≠ .active) →
    t.asc.idCounter = 0 ∧ t.zrt.stampCounter = 0 ∧ t.ple.nextSeq = 0

/-- A call's record apart from its conflict partner. -/
def core (c : Call) : Call := { c with partner := none }

/-- A call's record apart from its partner and, for call `id`, its fired marks. -/
def bare (id : Nat) (c : Call) : Call :=
  if c.id == id then { c with partner := none, marks := [] } else { c with partner := none }

/-- `t` differs from `s` in the call table and in the notices generated, and in nothing else. -/
structure OnlyCalls (s t : State) : Prop where
  rest : t = (s.withTtu t.ttu).withLnk t.lnk
  plans : t.ttu.plans = s.ttu.plans
  lnk : Notified s.lnk t.lnk

/-- Beside the call table, `t` is `s` after work on announcements alone, and the plans are unchanged. -/
structure CallsAndPlays (s t : State) : Prop where
  rest : Plays s (t.withTtu s.ttu)
  plans : t.ttu.plans = s.ttu.plans

/-- Every announcement that referred to the call in `s` and is still in the store of `t` is withdrawn (R28); one of a
later creation may refer to the call anew. -/
def Withdrawn (s : State) (id : Nat) (t : State) : Prop :=
  (s.asc.slots.map Slot.id).Nodup →
    ∀ x ∈ t.asc.slots, x.call = some id → x.seq < s.asc.created → x.withdrawn = true

/-- A time-anchored cue's offset lies in −3,600 to +600 (R42). -/
def offsetFits (q : RawCue) : Prop :=
  (q.anchor = 1 ∨ q.anchor = 2) → -3600 ≤ q.offset ∧ q.offset ≤ 600

/-- PLAN_SET accepts the cue (R42). -/
structure CueFits (q : RawCue) : Prop where
  anchor : 1 ≤ q.anchor ∧ q.anchor ≤ 5
  target : 1 ≤ q.targetKind ∧ q.targetKind ≤ 3
  template : q.template ≤ 63
  priority : 1 ≤ q.priority ∧ q.priority ≤ 7
  offset : offsetFits q

/-- A value of the cue is clamped (R42). -/
def CueClamps (q : RawCue) : Prop :=
  5 < q.priority ∨ 3 < q.repeats ∨ q.interval < 10 ∨ 600 < q.interval ∨ q.expiry < 30 ∨ 1800 < q.expiry
    ∨ 600 < q.late

/-- The cue that PLAN_SET stores (R42). -/
structure CueStored (q : RawCue) (c : Cue) : Prop where
  anchor : anchorCode c.anchor = q.anchor
  offset : c.offset = if q.anchor ≤ 2 then q.offset else 0
  template : c.template = q.template
  priority : c.priority = min q.priority 5
  target : targetKindOfCode q.targetKind = some c.targetKind
  address : c.address = BitVec.ofNat 12 q.address ∧ c.mask = BitVec.ofNat 12 q.mask
  repeats : c.repeats = min q.repeats 3
  interval : c.interval = max 10 (min 600 q.interval)
  expiry : c.expiry = max 30 (min 1800 q.expiry)
  late : c.late = min 600 q.late

/-- CLK's clock after a tenth that is no second of station time (R1, R2). -/
def ticked (c : Clock) : Clock :=
  if c.held then { c with runTime := c.runTime + 1 }
  else { c with runTime := c.runTime + 1, prescaler := c.prescaler + 1 }

/-- CLK's clock after the tenth that is a second of station time (R2, R9). -/
def seconded (c : Clock) : Clock :=
  if c.service < 86399 then { c with runTime := c.runTime + 1, prescaler := 0, service := c.service + 1 }
  else { c with runTime := c.runTime + 1, prescaler := 0, service := 0, day := c.day + 1 }

/-- ZRT's count towards the next sampling instant after a tenth (R108). -/
def sampleTicked (r : Zrt) : Zrt :=
  if r.ambientTick < 9 then { r with ambientTick := r.ambientTick + 1 }
  else { r with ambientTick := 0, ambientDue := true }

/-- The next tenth is a second of station time (R2). -/
def SecondNext (s : State) : Prop := s.clock.held = false ∧ 9 ≤ s.clock.prescaler

/-- What the host gave of a call, apart from its day: it is kept through a rollover (R30). -/
def schedule (c : Call) : Nat × CallKind × Nat × Option Nat × Option Nat × Nat × Nat :=
  (c.id, c.kind, c.zone, c.sa, c.sd, c.oa, c.plan)

/-- The time a cue of the call is measured from, where its kind has it (R44). -/
def cueBase (c : Call) (q : Cue) : Option Nat :=
  match q.anchor with
  | .arrival => if c.kind = .departure then none else c.ea
  | .departure => if c.kind = .arrival then none else c.ed
  | _ => none

/-- The mark of a cue position after the evaluation of a second (R45, R46). -/
def judged (s : State) (c : Call) (i : Nat) : Mark :=
  match (s.plan c.plan).cues[i]?.bind (fun q => (cueBase c q).map (fun a => (q, a))) with
  | none => markOf c i
  | some (q, a) =>
    let past : Int := (s.clock.service : Int) - ((a : Int) + q.offset)
    if c.day = .current ∧ (c.state = .planned ∨ c.state = .atPlatform) ∧ markOf c i = .unfired then
      if past < 0 then .unfired else if past ≤ q.late then .fired else .missed
    else markOf c i

/-- A PLANNED CURRENT call is past its confirmation time (R24). -/
def overdueAt (now : Nat) (c : Call) : Bool :=
  decide (c.day = .current) && decide (c.state = .planned) &&
    decide ((if c.kind = .arrival then c.ea.getD 0 + c.oa + 600 else c.ed.getD 0 + 600) ≤ now)

/-- The placement's announcement has a latest start before the time (R103). -/
def startsBefore (s : State) (time : Int) (p : Placement) : Bool :=
  ((s.slot? p.announcement).bind Slot.latestStart).any (fun t => decide (t < time))

/-- No event of run time has fallen due and waits to be taken. -/
structure NothingDue (s : State) : Prop where
  check : ∀ b h g start, s.asc.composer = .checking b h g start → reached (start + 5) s.clock.runTime = false
  phases : ∀ c r, s.channel c = some r → reached r.phaseEnd s.clock.runTime = false
  rests : ∀ z ∈ s.zrt.zones, ∀ p ∈ z.queue, ∀ t, p.condition = .resting t → reached t s.clock.runTime = false
  pulses : ∀ z t, (s.zone z).pulseEnd = some t → reached t s.clock.runTime = false
  warmUp : ∀ g e, s.smc.mode = .warming g e → reached e s.clock.runTime = false
  hold : ∀ t, s.smc.mode = .nightAlert (some t) → reached (t + 600) s.clock.runTime = false
  ambient : s.zrt.ambientDue = false
  debounces : ∀ n d, (s.input n).debounce = some d → d.due = false

/-- Two lists agree element by element. -/
def Pairs {α β : Type} (r : α → β → Prop) (xs : List α) (ys : List β) : Prop :=
  xs.length = ys.length ∧ ∀ (i : Nat) x y, xs[i]? = some x → ys[i]? = some y → r x y

/-! #### Calls -/

/-- The ranges of CALL_LOAD's orders 2 and 3 (R15). -/
structure LoadFits (k : CallKind) (r : CallLoadReq) : Prop where
  id : r.id ≠ 0
  zone : r.zone ≤ 39
  sa : k ≠ .departure → r.sa ≤ 86399
  sd : k ≠ .arrival → r.sd ≤ 86399
  oa : 60 ≤ r.oa ∧ r.oa ≤ 3600
  phrases : ∀ p, (r.dest = some p ∨ r.origin = some p ∨ r.cls = some p ∨ p ∈ r.calling) → p ≤ 2047
  calling : r.calling.length ≤ 8
  plan : r.plan ≤ 15
  turn : k = .turn → r.sa + r.oa ≤ r.sd

/-- A call's record "At load" (02, "The call record"): on time, planned, its cues unfired (R16). -/
def newCall (k : CallKind) (d : DayTag) (r : CallLoadReq) : Call :=
  { id := r.id, day := d, kind := k, zone := r.zone
    sa := if k = .departure then none else some r.sa, sd := if k = .arrival then none else some r.sd
    oa := r.oa, da := 0, dd := 0, aa := none, ad := none
    ea := if k = .departure then none else some r.sa, ed := if k = .arrival then none else some r.sd
    ec := if k = .arrival then some (r.sa + r.oa) else none
    dest := r.dest, origin := r.origin, cls := r.cls, calling := r.calling, plan := r.plan
    marks := List.replicate 6 .unfired, state := .planned, unconfirmed := false, changed := false
    previous := none, partner := none, clampArrival := false, clampDeparture := false, ceiling := false }

/-- A delay is given that the call's kind lacks (R26). -/
def DelayForeign (c : Call) (r : CallDelayReq) : Prop :=
  (r.arrival ≠ none ∧ c.kind = .departure) ∨ (r.departure ≠ none ∧ c.kind = .arrival)

/-- A delay is given outside −900 to +14,400 (R26). -/
def DelayClamped (d : Option Int) : Prop := ∃ x, d = some x ∧ (x < -900 ∨ 14400 < x)

/-- The record with the delays of a CALL_DELAY, before its times are computed (R26, R33). -/
def delayed (r : CallDelayReq) (c : Call) : Call :=
  { c with
    da := match r.arrival with
      | some x => max (-900) (min 14400 x)
      | none => c.da
    clampArrival := match r.arrival with
      | some x => decide (x < -900 ∨ 14400 < x)
      | none => c.clampArrival
    dd := match r.departure with
      | some x => max (-900) (min 14400 x)
      | none => c.dd
    clampDeparture := match r.departure with
      | some x => decide (x < -900 ∨ 14400 < x)
      | none => c.clampDeparture }

/-- The record of a call that has come to its platform at `a` (R22). -/
def arrivedAt (a : Actual) (c : Call) : Call := computeTimes { c with state := .atPlatform, aa := some a }

/-- The record of a call that has left its platform at `a` (R23). -/
def departedAt (a : Actual) (c : Call) : Call := { c with state := .complete, ad := some a }

/-- Position `i` of the call's plan is an UNFIRED cue of the anchor (R48). -/
def FiresOn (s : State) (c : Call) (a : Anchor) (i : Nat) : Prop :=
  ∃ q, (s.plan c.plan).cues[i]? = some q ∧ q.anchor = a ∧ markOf c i = .unfired

/-- In `t` the UNFIRED cues of call `c` on the anchor are FIRED if `fires`, and its other marks are as they were. -/
def MarksFire (s : State) (c : Call) (fires : Prop) (a : Anchor) (t : State) : Prop :=
  c.marks.length = 6 → ∀ x, t.call? c.id = some x → ∀ i < 6,
    (fires → FiresOn s c a i → markOf x i = .fired) ∧ (¬ (fires ∧ FiresOn s c a i) → markOf x i = markOf c i)

/-- The occupancy window of a call (R39). -/
def occupancy (c : Call) : Nat × Nat :=
  match c.kind with
  | .arrival => (c.ea.getD 0, c.ec.getD 0)
  | .departure => (c.ed.getD 0 - c.oa, c.ed.getD 0)
  | .turn => (c.ea.getD 0, c.ed.getD 0)

/-- `o` is another live CURRENT call of `c`'s platform whose window overlaps that of `c` (R39, R40). -/
def Conflicts (c o : Call) : Prop :=
  o.id ≠ c.id ∧ o.zone = c.zone ∧ o.day = .current ∧ (o.state = .planned ∨ o.state = .atPlatform) ∧
    (occupancy c).1 < (occupancy c).2 ∧ (occupancy o).1 < (occupancy o).2 ∧
    (occupancy c).1 < (occupancy o).2 ∧ (occupancy o).1 < (occupancy c).2

/-- An anchor speaks the departure of the call: DEPARTURE, and an event anchor or host content of a call that has a
departure (R36, R38). -/
def speaksDepartureOf (c : Call) (a : Option Anchor) : Bool :=
  decide (a = some .departure) || (decide (a ≠ some .arrival) && decide (c.kind ≠ .arrival))

/-- The delay of the call for the anchor (R36). -/
def spokenDelay (c : Call) (a : Option Anchor) : Int :=
  if speaksDepartureOf c a then (c.ed.getD 0 : Int) - (c.sd.getD 0 : Int)
  else (c.ea.getD 0 : Int) - (c.sa.getD 0 : Int)

/-! #### Inputs -/

/-- An input of the polarity is active at the level (R56). -/
def activeAt : Polarity → Bool → Bool
  | .activeHigh, level => level
  | .activeLow, level => !level

/-- The function's parameters are in range (R61). -/
def FunctionFits : RawFunction → Prop
  | .general => True
  | .trainDetect z => z ≤ 39
  | .dispatch z => z ≤ 39
  | .platformClose z => z ≤ 39
  | .firePanel a m t _ => a ≤ 4095 ∧ m ≤ 4095 ∧ t ≤ 63
  | .unknown _ => False

/-- INPUT_CONFIG's order 2 passes (R61). -/
structure InputFits (r : InputConfigReq) : Prop where
  input : r.input ≤ 31
  polarity : 1 ≤ r.polarity ∧ r.polarity ≤ 2
  sense : 1 ≤ r.sense ∧ r.sense ≤ 2
  function : FunctionFits r.function

/-- The function names, for a train, a zone that is no platform (R61). -/
def NamesNoPlatform (s : State) : RawFunction → Prop
  | .trainDetect z => (s.zone z).kind ≠ .platform
  | .dispatch z => (s.zone z).kind ≠ .platform
  | _ => False

/-- A value of INPUT_CONFIG is clamped (R61). -/
def InputClamps (r : InputConfigReq) : Prop :=
  2550 < r.debounce ∨ r.debounce % 10 ≠ 0 ∨
    ∃ a m t i, r.function = .firePanel a m t i ∧ (i < 10 ∨ 600 < i)

/-- The function an input stores (R61). -/
def FunctionStored : RawFunction → InputFunction → Prop
  | .general, .general => True
  | .trainDetect z, .trainDetect y => y = z
  | .dispatch z, .dispatch y => y = z
  | .platformClose z, .platformClose y => y = z
  | .firePanel a m t i, .firePanel a' m' t' i' =>
    a' = BitVec.ofNat 12 a ∧ m' = BitVec.ofNat 12 m ∧ t' = t ∧ i' = max 10 (min 600 i)
  | _, _ => False

/-- `new` is the input `old` with an accepted configuration (R61, R62). -/
structure Configured (r : InputConfigReq) (old new : Input) : Prop where
  polarity : polarityCode new.polarity = r.polarity
  sense : senseCode new.sense = r.sense
  debounceMs : new.debounceMs = min 2550 (10 * ((r.debounce + 9) / 10))
  function : FunctionStored r.function new.function
  notice : new.notice = r.notice
  wake : new.wake = r.wake
  stable : new.stable = old.stable
  debounce : new.debounce = old.debounce.map (fun d =>
    { d with due := d.due && decide (new.debounceMs ≤ 10 * d.samples) })
  pending : new.pending = match new.sense with
    | .level => activeAt new.polarity old.stable
    | .edge => old.pending

/-- The named input `n` is LEVEL-sensed and active (R59). -/
def HoldsActive (s : State) (named : BitVec 32) (n : Nat) : Prop :=
  named.getLsbD n = true ∧ (s.input n).sense = .level ∧ activeInput (s.input n) = true

/-- Input `n` holds the level hold of function `f` on (R63, R71). -/
def Holding (s : State) (f : InputFunction) (n : Nat) : Prop :=
  (s.input n).function = f ∧ (s.input n).sense = .level ∧ activeInput (s.input n) = true

/-- Input `n` is the lowest that holds it on (R159). -/
def FirstHolding (s : State) (f : InputFunction) (n : Nat) : Prop :=
  n < 32 ∧ Holding s f n ∧ ∀ m < n, ¬ Holding s f m

/-- The OR set of function `f` is active (R63). -/
def SetActive (s : State) (f : InputFunction) : Prop :=
  f ≠ .general ∧ ∃ i ∈ s.fiu.inputs, i.function = f ∧ activeInput i = true

/-- The set has an active edge between `s` and `t` (R64). -/
def Rises (s t : State) (f : InputFunction) : Prop := ¬ SetActive s f ∧ SetActive t f

/-- The set has an inactive edge between `s` and `t` (R64). -/
def Falls (s t : State) (f : InputFunction) : Prop := SetActive s f ∧ ¬ SetActive t f

/-- The set is LEVEL-sensed: no member is EDGE-sensed (R63). -/
def SetLevel (s : State) (f : InputFunction) : Prop := ∀ i ∈ s.fiu.inputs, i.function = f → i.sense = .level

/-- No call is AT_PLATFORM on the zone. -/
def NoTrainAt (s : State) (z : Nat) : Prop := ∀ c ∈ s.ttu.calls, ¬ (c.state = .atPlatform ∧ c.zone = z)

/-- How far the service time lies from a call's arrival anchor (R66). -/
def anchorGap (s : State) (c : Call) : Nat :=
  ((s.clock.service : Int) -
    (if c.kind = .departure then (c.ed.getD 0 : Int) - c.oa else (c.ea.getD 0 : Int))).natAbs

/-- Call `c` is a candidate of an active edge on zone `z` (R66). -/
def MatchFor (s : State) (z : Nat) (c : Call) : Prop :=
  c ∈ s.ttu.calls ∧ c.day = .current ∧ c.zone = z ∧ c.state = .planned ∧ anchorGap s c ≤ s.clock.matchWindow

/-- `a` is matched before `b`: nearer, or scheduled earlier, or of the smaller id (R66). -/
def Nearer (s : State) (a b : Call) : Prop :=
  anchorGap s a < anchorGap s b ∨ (anchorGap s a = anchorGap s b ∧
    (earliest a < earliest b ∨ (earliest a = earliest b ∧ a.id < b.id)))

/-! #### Announcements -/

/-- The header's target. -/
def headerPair (h : HeaderReq) : Pair := { address := BitVec.ofNat 12 h.address, mask := BitVec.ofNat 12 h.mask }

/-- A header's fields are in range (R80). -/
structure HeaderFits (h : HeaderReq) : Prop where
  priority : 1 ≤ h.priority ∧ h.priority ≤ 7
  address : h.address ≤ 4095 ∧ h.mask ≤ 4095
  chime : ∀ p, h.chime = some p → p ≤ 2047
  latestStart : ∀ t, h.latestStart = some t → 0 ≤ t ∧ t ≤ 103199

/-- Repeats or interval are clamped (R80). -/
def HeaderClamps (h : HeaderReq) : Prop := 3 < h.repeats ∨ h.interval < 10 ∨ 600 < h.interval

/-- A call field token (R168). -/
def FieldCode (t : RawToken) : Prop := 0x10 ≤ t.code ∧ t.code ≤ 0x18

/-- ZRT drops the placement that comes back to the zone for the reason: the first condition of R101 that applies,
`abandons` telling that it is a restoration whose interrupted count was 1 already. -/
def DroppedFor (s : State) (z : Nat) (p : Placement) (abandons : Prop) (reason : DropReason) : Prop :=
  let withdrawn := ∀ x, s.slot? p.announcement = some x → x.withdrawn = true
  let closed := (s.zone z).covering = none ∧ (s.zone z).base = .closed ∧ p.priority < 6
  let expired := ∃ x t, s.slot? p.announcement = some x ∧ x.latestStart = some t ∧ t < (s.clock.service : Int)
  let full := 12 ≤ (s.zone z).queue.length ∧ ∀ q ∈ (s.zone z).queue, p.priority ≤ q.priority
  (reason = .withdrawn ∧ withdrawn) ∨
  (reason = .abandoned ∧ ¬ withdrawn ∧ abandons) ∨
  (reason = .closed ∧ ¬ withdrawn ∧ ¬ abandons ∧ closed) ∨
  (reason = .expired ∧ ¬ withdrawn ∧ ¬ abandons ∧ ¬ closed ∧ expired) ∨
  (reason = .displaced ∧ ¬ withdrawn ∧ ¬ abandons ∧ ¬ closed ∧ ¬ expired ∧ full)

/-- ZRT refuses the announcement in the zone for the reason: the first condition of R97 that applies. -/
def RefusedFor (s : State) (x : Slot) (z : Nat) (reason : RefuseReason) : Prop :=
  let zn := s.zone z
  let isolated := zn.covering = none ∧ zn.base = .isolated
  let closed := zn.covering = none ∧ zn.base = .closed ∧ x.priority < 6
  let night := (s.smc.mode = .night ∨ ∃ h, s.smc.mode = .nightAlert h) ∧ x.priority < 6
  let expired := ∃ t, x.latestStart = some t ∧ t < (s.clock.service : Int)
  let full := 12 ≤ zn.queue.length ∧ ∀ q ∈ zn.queue, x.priority ≤ q.priority
  (reason = .isolated ∧ isolated) ∨
  (reason = .closed ∧ ¬ isolated ∧ closed) ∨
  (reason = .night ∧ ¬ isolated ∧ ¬ closed ∧ night) ∨
  (reason = .expired ∧ ¬ isolated ∧ ¬ closed ∧ ¬ night ∧ expired) ∨
  (reason = .queueFull ∧ ¬ isolated ∧ ¬ closed ∧ ¬ night ∧ ¬ expired ∧ full)

/-- An evacuation announcement passes over the zone, which is under another source (R119). -/
def DefersHere (s : State) (x : Slot) (z : Nat) : Prop :=
  ∃ n, x.origin = .evac n ∧ (s.zone z).base ≠ .isolated ∧ (s.zone z).covering ≠ some n

/-- `zs` are the zones of the target set that satisfy `which`, in ascending zone id. -/
def ZonesOf (s : State) (x : Slot) (which : Nat → Prop) (zs : List Nat) : Prop :=
  zs.Pairwise (· < ·) ∧ ∀ z, z ∈ zs ↔ z ∈ targetSet s x.target ∧ which z

/-- The placement a creation makes in a zone as the `i`th: the slot's priority and repeats, interrupted count 0, the
next order stamp, HELD in EVACUATE below 7 and WAITING otherwise (R97, R98). -/
def placementFor (s : State) (x : Slot) (a i z : Nat) : Placement :=
  { announcement := a, priority := x.priority, stamp := s.zrt.stampCounter + BitVec.ofNat 32 i
    condition := if (s.zone z).covering.isSome = true ∧ x.priority < 7 then .held else .waiting
    repeats := x.repeats, interrupted := 0 }

/-- What a creation has placed in `t` of announcement `a`, the store's room having been made in `m`: one placement in
each zone of its target set that neither refuses nor defers it, in ascending zone id with stamps that follow one another,
and nothing in any other queue (R97, R98). -/
structure PlacedIn (m t : State) (x : Slot) (a : Nat) (zs : List Nat) : Prop where
  zones : ZonesOf m x (fun z => ¬ DefersHere m x z ∧ ∀ reason, ¬ RefusedFor m x z reason) zs
  placed : ∀ i z, zs[i]? = some z → placementFor m x a i z ∈ (t.zone z).queue ∧
    ∀ q ∈ (t.zone z).queue, q = placementFor m x a i z ∨ q ∈ (m.zone z).queue
  others : ∀ z, z ∉ zs → (t.zone z).queue = (m.zone z).queue
  stamps : t.zrt.stampCounter = m.zrt.stampCounter + BitVec.ofNat 32 zs.length

/-- Slot `v` is the victim of a newcomer of the priority in a store whose slots, in the order of their creation, are
`pre`, `v` and `post`: not playing, of the lowest priority below it, and of those the latest created (R83). -/
structure StoreVictimFor (s : State) (priority : Nat) (pre : List Slot) (v : Slot) (post : List Slot) : Prop where
  slots : s.asc.slots = pre ++ v :: post
  takes : v.priority < priority ∧ runCount s v.id = 0
  older : ∀ y ∈ pre, y.priority < priority → runCount s y.id = 0 → v.priority ≤ y.priority
  younger : ∀ y ∈ post, y.priority < priority → runCount s y.id = 0 → v.priority < y.priority

/-- Placement `v` is the victim of a newcomer of the priority in the zone's queue: of the lowest priority below it, and
of those the youngest (R100). -/
def QueueVictimFor (s : State) (z priority : Nat) (v : Placement) : Prop :=
  v ∈ (s.zone z).queue ∧ v.priority < priority ∧ ∀ y ∈ (s.zone z).queue, y ≠ v → v.priority < y.priority ∨
    (v.priority = y.priority ∧ ageOf s.zrt.stampCounter v.stamp < ageOf s.zrt.stampCounter y.stamp)

/-- A queue stands in its order: priority descending, then order stamp ascending (R99). -/
def InOrder (next : Stamp) (q : List Placement) : Prop :=
  q.Pairwise (fun a b => b.priority < a.priority ∨ (a.priority = b.priority ∧ ageOf next b.stamp ≤ ageOf next a.stamp))

/-- The announcement that a host's header, as it is stored, and its tokens ask for (R80, R89). -/
def hostAnnouncement (h : Header) (tag : Byte) (ts : List Token) : Slot :=
  { id := 0, seq := 0, priority := h.priority, origin := .host tag, content := .tokens ts, call := h.call
    chime := h.chime, repeats := .count h.repeats, interval := h.interval, latestStart := h.latestStart
    target := [h.target], withdrawn := false }

/-- A header as it is stored, clamped (R80). -/
def headerStored (h : HeaderReq) : Header :=
  { priority := h.priority, target := headerPair h, chime := h.chime, repeats := min h.repeats 3
    interval := max 10 (min 600 h.interval), latestStart := h.latestStart, call := h.call }

/-- The announcement that cue `q` at position `i` of call `c` asks for at its trigger or event time `t`: the exact
address of the call's platform, the cue's own pair, and at a PLATFORM_CHANGE that of the platform before (R49, R53). -/
def cueAnnouncement (s : State) (c : Call) (i : Nat) (q : Cue) (t : Int) : Slot :=
  let exactly (z : Nat) : Pair := { address := (s.zone z).address, mask := 0 }
  let own : Pair := { address := q.address, mask := q.mask }
  let before := if q.anchor = .platformChange then c.previous.toList.map exactly else []
  { id := 0, seq := 0, priority := q.priority, origin := .cue c.id i q.anchor, content := .template q.template
    call := some c.id, chime := none, repeats := .count q.repeats, interval := q.interval
    latestStart := some (t + q.expiry)
    target := match q.targetKind with
      | .platform => exactly c.zone :: before
      | .platformPlus => exactly c.zone :: own :: before
      | .fixed => [own]
    withdrawn := false }

/-- What a creation brings once it has placed: an emergency event at 6 and 7, and the pass it triggers (R97, R149). -/
def afterCreation (x : Slot) (k : Created × State) : State := settle (reportEmergency x.priority k.1 k.2)

/-- `u` is `s` after cue `q` at position `i` of call `c` has fired at its trigger or event time `t`: FIRED, and by night
and in WINDING suppressed; else with its announcement created, a failure reported, and CUE_FIRED last (R49 to R51). -/
def Fired (s : State) (c : Call) (i : Nat) (q : Cue) (t : Int) (u : State) : Prop :=
  let m := setMark c.id i .fired s
  let mode := s.smc.mode
  ((mode = .night ∨ mode = .winding ∨ ∃ h, mode = .nightAlert h) →
    u = generate (.cueFired c.id i q.anchor t 0 true 0) m) ∧
  ((mode = .opn ∨ ∃ g e, mode = .warming g e) →
    let x := cueAnnouncement s c i q t
    let k := create x m
    let v := afterCreation x k
    (∀ a n, k.1 = .kept a n → u = generate (.cueFired c.id i q.anchor t a false n.placed) v) ∧
    (k.1 = .storeFull → u = generate (.cueFired c.id i q.anchor t 0 false 0)
      (generate (.announceDropped c.id i .storeFull) v)) ∧
    ∀ n, k.1 = .noTarget n → u = generate (.cueFired c.id i q.anchor t 0 false 0)
      (generate (.announceDropped c.id i .noTarget) v))

/-- In `w`, where zone `z` has become CLOSED outside EVACUATE, a run below 6 that the zone was attached to in `s` has it
marked to truncate with cause CLOSE, where a WITHDRAWAL mark stays, or in a gap has let it go; a run of 6 or above goes on
(R107, R128). -/
def ClosedToRuns (s w : State) (z : Nat) : Prop :=
  ∀ c < 8, ∀ r a, s.channel c = some r → attachmentIn r z = some a →
    (6 ≤ r.priority → w.channel c = some r) ∧
    (r.priority < 6 → r.phase = .phrase → ∃ r', w.channel c = some r' ∧ attachmentIn r' z =
      some { a with mark := if a.mark = some .withdrawal then some .withdrawal else some .close }) ∧
    (r.priority < 6 → r.phase = .gap → attachedTo w z c = false)

/-- Zone `z`'s queue head is placement `p`, WAITING, and the zone's effective state and the station mode admit its
priority (the tables of R134). -/
structure AdmittedHead (s : State) (z : Nat) (p : Placement) : Prop where
  head : (s.zone z).queue.head? = some p
  waiting : p.condition = .waiting
  evacuate : (s.zone z).covering.isSome = true → 7 ≤ p.priority
  isolated : (s.zone z).covering = none → (s.zone z).base ≠ .isolated
  closed : (s.zone z).covering = none → (s.zone z).base = .closed → 6 ≤ p.priority
  mode : s.smc.mode = .opn ∨ (6 ≤ p.priority ∧ (s.smc.mode = .winding ∨ ∃ h, s.smc.mode = .nightAlert h))

/-- A token that ANNOUNCE and COMPOSE_PART take (R80, R168). -/
def HostTokenFits (t : RawToken) : Prop :=
  (t.code = 1 ∧ t.param ≤ 2047) ∨ t.code = 2 ∨ (t.code = 3 ∧ t.param ≤ 1439) ∨ FieldCode t

/-- A NUMBER above 99 is clamped (R168). -/
def NumberClamps (ts : List RawToken) : Prop := ∃ t ∈ ts, t.code = 2 ∧ 99 < t.param

/-- The token at index `k` names a phrase without a directory entry (R80). -/
def MissingAt (s : State) (ts : List RawToken) (k : Nat) : Prop :=
  ∃ t, ts[k]? = some t ∧ t.code = 1 ∧ s.phrase? t.param = none

/-- The token at index `k` of a buffer is a phrase without a directory entry (R89). -/
def AbsentAt (s : State) (ts : List Token) (k : Nat) : Prop := ∃ p, ts[k]? = some (.phrase p) ∧ s.phrase? p = none

/-- The markers of a template nest: no segment opens within one, none closes outside one (R75). -/
def SegmentsNest (ts : List Token) : Prop :=
  ∀ n ≤ ts.length,
    let opened := (ts.take n).countP (fun t => decide (t = .ifDelayed) || decide (t = .ifChanged))
    let closed := (ts.take n).countP (fun t => decide (t = .endIf))
    opened = closed ∨ opened = closed + 1

/-- The conditional markers (05, "Templates and tokens"). -/
def isMarker (t : Token) : Bool := decide (t = .ifDelayed) || decide (t = .ifChanged) || decide (t = .endIf)

/-- A conditional segment is kept: the call is delayed for the anchor, or changed; without a call neither (R77). -/
def segmentKept (s : State) (c : Option Call) (a : Option Anchor) (delayed : Bool) : Bool :=
  match c with
  | none => false
  | some x => if delayed then decide (((s.plan x.plan).threshold : Int) ≤ spokenDelay x a) else x.changed

/-! #### Zones and sources -/

/-- ZONE_CONFIG's order 2 passes (R92). -/
structure ZoneFits (r : ZoneConfigReq) : Prop where
  zone : r.zone ≤ 39
  address : r.address ≤ 4095
  kind : 1 ≤ r.kind ∧ r.kind ≤ 3
  lampMode : 1 ≤ r.lampMode ∧ r.lampMode ≤ 3
  name : ∀ p, r.name = some p → p ≤ 2047

/-- A value of ZONE_CONFIG is clamped (R92). -/
def ZoneClamps (r : ZoneConfigReq) : Prop :=
  r.g0 < -120 ∨ 0 < r.g0 ∨ r.gmin < -120 ∨ 0 < r.gmin ∨ r.gmax < -120 ∨ 0 < r.gmax ∨ r.nref < 30 ∨
    120 < r.nref ∨ 8 < r.slope ∨ r.lampThreshold < 1 ∨ 7 < r.lampThreshold

/-- The zone is attached to at most one channel. -/
def AttachedOnce (s : State) (z : Nat) : Prop :=
  ∀ c < 8, ∀ d < 8, attachedTo s z c = true → attachedTo s z d = true → c = d

/-- In `t` zone `z` is covered by `n`, and beside that coverage `t` is `s` after work on announcements alone. -/
structure Recovers (s t : State) (z : Nat) (n : Option Nat) : Prop where
  rest : Routes s t
  bases : t.zrt.zones.map Zone.base = s.zrt.zones.map Zone.base
  sources : t.zrt.sources.map standing = s.zrt.sources.map standing
  covering : (t.zone z).covering = n
  others : ∀ y, y ≠ z → (t.zone y).covering = (s.zone y).covering

/-- Where zone `z` still plays an announcement of source `a`, its part is marked to truncate as withdrawn (R117,
R118). -/
def MarkedFor (s t : State) (z a : Nat) : Prop :=
  ∀ c < 8, ∀ r, t.channel c = some r → ofSource s a r.announcement = true →
    ∀ e ∈ r.zones, e.zone = z → e.mark = some .withdrawal

/-- Channel `v` with its run `r` is the one a candidate of the priority seizes: of the lowest priority below it, then the
most recently started, then the highest-numbered (R137). -/
def VictimFor (s : State) (priority v : Nat) (r : Run) : Prop :=
  v < 8 ∧ s.channel v = some r ∧ r.priority < priority ∧
    ∀ d < 8, ∀ q, s.channel d = some q → q.priority < priority → r.priority < q.priority ∨
      (r.priority = q.priority ∧ (ageOf s.ple.nextSeq r.seq < ageOf s.ple.nextSeq q.seq ∨
        (ageOf s.ple.nextSeq r.seq = ageOf s.ple.nextSeq q.seq ∧ d ≤ v)))

/-- Entry `n` is the lowest-numbered that satisfies `which`. -/
def EntryFor (s : State) (which : Source → Prop) (n : Nat) : Prop :=
  n < 8 ∧ which (s.source n) ∧ ∀ m < n, ¬ which (s.source m)

/-- No entry satisfies `which`. -/
def NoEntry (s : State) (which : Source → Prop) : Prop := ∀ n < 8, ¬ which (s.source n)

/-- The entry an activation takes: one of its key, else the lowest FREE, else the lowest INACTIVE (R111). -/
def ActivationEntry (s : State) (key : SourceKey) (n : Nat) : Prop :=
  EntryFor s (fun e => e.state ≠ .free ∧ e.key = key) n ∨
    (NoEntry s (fun e => e.state ≠ .free ∧ e.key = key) ∧
      (EntryFor s (fun e => e.state = .free) n ∨
        (NoEntry s (fun e => e.state = .free) ∧ EntryFor s (fun e => e.state = .inactive) n)))

/-- The mode a MODE_SET leaves, `ends` being the end of a warm-up it begins and `hold` the alert hold of an
entry to NIGHT_ALERT (R145, R147, R149, R151). -/
def modeAfter (request : Nat) (s : State) (ends : RunTime) (hold : Option RunTime) : Mode :=
  match request, s.smc.mode with
  | 1, .winding => .opn
  | 1, .night => .warming .opn ends
  | 1, .warming _ e => .warming .opn e
  | 1, .nightAlert _ => .opn
  | 3, .opn =>
    if (runs s).any (fun r => decide (r.priority < 6)) then .winding
    else if quiet s then .night else .nightAlert hold
  | 3, .warming _ e => .warming (if emergencyExists s then .nightAlert else .night) e
  | _, m => m

end Sys2Proof.Claims

open Sys2Proof.Claims

/-! ### The part and its queue of commands -/

/-- The part takes its commands first in, first out (the queue is the model's; log entry 8 for the idling). -/
def Obligations.StepRunsTheFrontCommand : Prop :=
  (∀ c rest (s : State), s.pending = c :: rest → step s = exec c (s.withPending rest)) ∧
    ∀ s : State, s.pending = [] → step s = .next s

/-- No command faults and none is refused by the model: a discarded frame and a refused request leave the part
running (00_scope.md, "Conventions", Replies and notices). That every command, POWER_ON included, keeps the queue of the
commands that wait behind it is the model's own: the queue is no part of the hardware (log entries 1 and 8). -/
def Obligations.EveryCommandAnswersANextState : Prop :=
  ∀ c s, ∃ t, exec c s = .next t ∧ t.pending = s.pending

/-! ### Requests and replies (R158 to R160) -/

/-- A request command is handed when the oldest request without a reply spells it, or when none waits and its
frame arrives with it (log entry 2); else it has no effect. The generation of a reply marks the oldest unanswered
request and sends the reply behind those that wait. -/
def Obligations.RequestsAreHandedAndAnsweredInOrder : Prop :=
  ((∀ c s s0, Handed c s s0 ↔
     s.resetLine = false ∧
       ((∃ r, s.lnk.queue.find? (fun q => !q.answered) = some r ∧ decodeRequest r = c ∧ s0 = s) ∨
         (s.lnk.queue.find? (fun q => !q.answered) = none ∧ s.lnk.queue.length < 4 ∧
           ∃ r, requestOf c = some r ∧ decodeRequest r = c ∧
             s0 = s.withLnk { s.lnk with queue := s.lnk.queue ++ [r] }))) ∧
     ∀ c r s, requestOf c = some r → takeRequest c s = none → exec c s = .next s) ∧
  ∀ (res : Result) (s : State) (before after : List Request) (r : Request),
    s.lnk.queue = before ++ r :: after → (∀ q ∈ before, q.answered = true) → r.answered = false →
      ∃ l, answer res s = s.withLnk l ∧
        l.queue = before ++ { r with answered := true } :: after ∧
        (s.lnk.tx = none → s.lnk.replies = [] →
          l.tx = some (.reply { kind := r.kind, tag := r.tag, result := res }) ∧ l.replies = []) ∧
        (s.lnk.tx ≠ none → l.tx = s.lnk.tx ∧
          l.replies = s.lnk.replies ++ [{ kind := r.kind, tag := r.tag, result := res }]) ∧
        l.outbox = s.lnk.outbox ∧ l.lost = s.lnk.lost ∧ l.mask = s.lnk.mask ∧ l.receiver = s.lnk.receiver ∧
        l.n = s.lnk.n ∧ l.k = s.lnk.k

/-- Every handed request is answered by one reply, generated after its effect, and a refused request leaves the
part as it was, but for ANNOUNCE, whose creation may have displaced an announcement before it failed. A body of a
length that its kind does not allow is refused MALFORMED, whatever the request. -/
def Obligations.EveryHandedRequestIsAnswered : Prop :=
  (∀ c s s0, Handed c s s0 → ∃ res u, exec c s = .next (answer res u) ∧ u.lnk.queue = s0.lnk.queue ∧
     ∀ code d, res = .refused code d → (∀ tag body, c ≠ .announce tag body) → u = s0) ∧
  ∀ c s s0, malformed c = true → Handed c s s0 → OnlyAnswers c s s0 (refused .malformed)

/-- The body written for a well-formed request is read back as that request: no field is dropped. The places of the
fields that the manual leaves open are the model's (log entry 16). -/
def Obligations.RequestBodiesReadBack : Prop :=
  ∀ c r, wellFormed c = true → requestOf c = some r → decodeRequest r = c

/-- The frame of a well-formed request, received by a part with no request unanswered, hands that request. The places of
the fields that the manual leaves open are the model's (log entry 16). -/
def Obligations.ReceivedFramesHandTheirRequests : Prop :=
  ∀ c r (s : State), wellFormed c = true → requestOf c = some r → s.resetLine = false →
    s.lnk.receiver = .hunting → s.lnk.queue.length < 4 → (∀ q ∈ s.lnk.queue, q.answered = true) →
      ∃ t, exec (.frameReceived (requestFrame r)) s = .next t ∧ Handed c t t ∧
        t = s.withLnk { s.lnk with queue := s.lnk.queue ++ [r] }

/-- A frame in reception is discarded at its first fault, with a LINK_FAULT; a byte outside a frame that is no
START is passed over. Kind 0 and tag 0 of a TIMEOUT, FRAMING or LENGTH fault are the model's (log entry 27), and so is
that a timeout while HUNTING has no effect (log entry 7). -/
def Obligations.FaultyFramesAreDiscarded : Prop :=
  ∀ s : State, s.resetLine = false →
    (∀ b, s.lnk.receiver = .hunting → (b.value ≠ 0xA5 ∨ b.framingError = true) →
      exec (.frameReceived [b]) s = .next s) ∧
    (s.lnk.receiver = .hunting → exec .interByteTimeout s = .next s) ∧
    ∀ bs, s.lnk.receiver = .inFrame bs →
      exec .interByteTimeout s = .next (discarded .timeout 0 0 s) ∧
      (∀ b, b.framingError = true → exec (.frameReceived [b]) s = .next (discarded .framing 0 0 s)) ∧
      (∀ b, bs = [] → b.framingError = false → (b.value.toNat < 2 ∨ 250 < b.value.toNat) →
        exec (.frameReceived [b]) s = .next (discarded .length 0 0 s)) ∧
      ∀ len kind tag body b, bs = len :: kind :: tag :: body → b.framingError = false →
        2 ≤ len.toNat → len.toNat ≤ 250 → body.length + 2 = len.toNat →
          let sum := len.toNat + kind.toNat + tag.toNat + (body.map BitVec.toNat).sum + b.value.toNat
          exec (.frameReceived [b]) s = .next
            (if sum % 256 ≠ 0 then discarded .check kind.toNat tag s
             else if kind.toNat = 0 ∨ 128 ≤ kind.toNat then discarded .direction kind.toNat tag s
             else if 4 ≤ s.lnk.queue.length then discarded .overrun kind.toNat tag s
             else s.withLnk { s.lnk with
               receiver := .hunting
               queue := s.lnk.queue ++ [{ kind := kind.toNat, tag := tag, body := body, answered := false }] })

/-- At the end of a frame the transmitter goes on by the arbiter, which sends the oldest waiting reply, else the
oldest notice; a reply's end takes its request out of the queue, and brings what its request asked for: a new rate, or
the warm reset, with the mode it leaves (R149, R154, R158, R160, R165, R166). That FRAME_TRANSMITTED on an idle
transmitter has no effect is the model's (log entry 7), and so is that a LINK_CONFIG is judged to ask for the rate
already set by the rate at its reply's end (log entry 39), that the stable levels stand as before from a warm reset to
its first sample (log entry 3), and that the start sequence 0 is the number of the next run (log entry 44). -/
def Obligations.FrameEndsAdvanceTheTransmitter : Prop :=
  (∀ l : Lnk,
    (l.tx ≠ none → arbitrate l = l) ∧
    (l.tx = none →
      (∀ r rs, l.replies = r :: rs → arbitrate l = { l with tx := some (.reply r), replies := rs }) ∧
      (∀ n ns, l.replies = [] → l.outbox = n :: ns → arbitrate l = { l with tx := some (.notice n), outbox := ns }) ∧
      (l.replies = [] → l.outbox = [] → arbitrate l = l))) ∧
  ∀ s : State, s.resetLine = false →
    (s.lnk.tx = none → exec .frameTransmitted s = .next s) ∧
    (∀ n, s.lnk.tx = some (.notice n) →
      exec .frameTransmitted s = .next (s.withLnk (arbitrate { s.lnk with tx := none }))) ∧
    ∀ r, s.lnk.tx = some (.reply r) →
      (atEndOf r.result = .nothing → exec .frameTransmitted s =
        .next (s.withLnk (arbitrate { s.lnk with tx := none, queue := s.lnk.queue.drop 1 }))) ∧
      (∀ n k, atEndOf r.result = .setRate n k → (n ≠ s.lnk.n ∨ k ≠ s.lnk.k) → exec .frameTransmitted s =
        .next (s.withLnk (arbitrate { s.lnk with
          tx := none, queue := s.lnk.queue.drop 1, n := n, k := k, receiver := .hunting }))) ∧
      (atEndOf r.result = .setRate s.lnk.n s.lnk.k → exec .frameTransmitted s =
        .next (s.withLnk (arbitrate { s.lnk with tx := none, queue := s.lnk.queue.drop 1 }))) ∧
      (atEndOf r.result = .warmReset → ∃ t, exec .frameTransmitted s = .next t ∧
        WarmReset .restartRequest s t)

/-! ### The outbox (R161 to R163) -/

/-- A notice of a disabled class is not generated; one of an enabled class, SAFETY always, enters an outbox with room as
the newest, with the lost count. A full outbox loses one notice to each new one, and the loss is counted: by a SAFETY
notice, which enters with the count, or by the lost count itself; no count is lost below the saturation at 255. -/
def Obligations.NoticesEnterTheOutboxOrAreLost : Prop :=
  (∀ (n : Notice) (s : State),
    (classOf n ≠ .safety → s.lnk.mask.getLsbD (classBit (classOf n)) = false → generate n s = s) ∧
    ((classOf n = .safety ∨ s.lnk.mask.getLsbD (classBit (classOf n)) = true) → s.lnk.outbox.length < 32 →
      generate n s = s.withLnk (arbitrate { s.lnk with
        outbox := s.lnk.outbox ++
          [{ day := s.clock.day, service := s.clock.service, lost := s.lnk.lost, notice := n }]
        lost := 0 })) ∧
    (s.lnk.outbox.length ≤ 32 → (generate n s).lnk.outbox.length ≤ 32)) ∧
  ∀ (n : Notice) (s : State) (oldest : NoticeEntry) (rest : List NoticeEntry),
    s.lnk.tx ≠ none → s.lnk.outbox = oldest :: rest → rest.length = 31 →
    (classOf n = .safety → generate n s = s.withLnk { s.lnk with
      outbox := rest ++ [{ day := s.clock.day, service := s.clock.service
                           lost := min 255 (s.lnk.lost + (1 + oldest.lost)), notice := n }]
      lost := 0 }) ∧
    (classOf n ≠ .safety → s.lnk.mask.getLsbD (classBit (classOf n)) = true →
      generate n s = s.withLnk { s.lnk with lost := min 255 (s.lnk.lost + 1) }) ∧
    ((classOf n = .safety ∨ s.lnk.mask.getLsbD (classBit (classOf n)) = true) →
      s.lnk.lost + 1 + oldest.lost ≤ 255 →
        (generate n s).lnk.lost + ((generate n s).lnk.outbox.map NoticeEntry.lost).sum =
          s.lnk.lost + (s.lnk.outbox.map NoticeEntry.lost).sum + 1)

/-! ### The link's own requests (R158, R164 to R166) -/

/-- IDENTIFY, STATUS_READ, RESTART and LINK_CONFIG change nothing but by what the end of their reply brings; a
kind the part does not know is refused; NOTICE_MASK replaces the mask at once, SAFETY staying enabled, and touches
nothing else of the part. The layout of the STATUS_READ reply is the model's where chapter 11 gives none (log entry
16). -/
def Obligations.TheLinksOwnRequestsAreAnswered : Prop :=
  (∀ tag s s0,
    (Handed (.identify tag (.fields ())) s s0 → OnlyAnswers (.identify tag (.fields ())) s s0
      (accepted [0x5A, 0x01, 0xA0, 0x03, 0x02, 0x00, 0x00, 0x10, 0x00, 0x06, 0x08, 0x00, 0x00, 0x40, 0x00, 0x40,
        0x00, 0x28, 0x00, 0x10, 0x00, 0x0C, 0x00, 0x08, 0x00, 0x20, 0x00, 0x08, 0x00, 0x20])) ∧
    (Handed (.statusRead tag (.fields ())) s s0 →
      OnlyAnswers (.statusRead tag (.fields ())) s s0 (accepted (statusBody s0))) ∧
    (Handed (.restart tag (.fields ())) s s0 →
      OnlyAnswers (.restart tag (.fields ())) s s0 (.accepted false [] .warmReset)) ∧
    (∀ n k, Handed (.linkConfig tag (.fields { n := n, k := k })) s s0 →
      OnlyAnswers (.linkConfig tag (.fields { n := n, k := k })) s s0
        (if 7 < n ∨ 14 < k then refused .outOfRange else .accepted false [] (.setRate n k))) ∧
    ∀ kind, Handed (.unknownKind tag kind) s s0 →
      OnlyAnswers (.unknownKind tag kind) s s0 (refused .unknownKind)) ∧
  ∀ tag m s s0, Handed (.noticeMask tag (.fields m)) s s0 →
    ∃ mask : BitVec 11, mask.getLsbD 0 = true ∧ (∀ i, 1 ≤ i → i < 11 → mask.getLsbD i = m.getLsbD i) ∧
      exec (.noticeMask tag (.fields m)) s =
        .next (answer (accepted (u16 mask.toNat)) (s0.withLnk { s0.lnk with mask := mask }))

/-! ### Reads (R12, R19, R20, R60, R90, R109, R143, R169) -/

/-- Every read reports the part as it stands and changes nothing; what it cannot name is refused. The bytes of its reply
where chapter 11 gives no layout or code are the model's (log entry 16). -/
def Obligations.ReadsReportAndChangeNothing : Prop :=
  ∀ tag s s0,
    (Handed (.clockRead tag (.fields ())) s s0 →
      OnlyAnswers (.clockRead tag (.fields ())) s s0 (accepted (clockBody s0.clock))) ∧
    (∀ id, Handed (.callRead tag (.fields id)) s s0 → OnlyAnswers (.callRead tag (.fields id)) s s0
      (match s0.ttu.calls.find? (fun c => c.id == id) with
       | none => refused .notFound
       | some c => accepted (callBody (s0.ttu.calls.findIdx (fun c => c.id == id)) c))) ∧
    (∀ start, Handed (.callList tag (.fields start)) s s0 → OnlyAnswers (.callList tag (.fields start)) s s0
      (if 511 < start then refused .outOfRange
       else accepted (u16 s0.ttu.calls.length ++
         ((s0.ttu.calls.drop start).take 12).flatMap callSummary))) ∧
    (∀ n, Handed (.inputRead tag (.fields n)) s s0 → OnlyAnswers (.inputRead tag (.fields n)) s s0
      (match n with
       | none => accepted (s0.fiu.inputs.flatMap inputSummary)
       | some n => if 31 < n then refused .outOfRange else accepted (inputRecord s0 (s0.input n)))) ∧
    (∀ start, Handed (.storeRead tag (.fields { selector := 1, value := start })) s s0 →
      OnlyAnswers (.storeRead tag (.fields { selector := 1, value := start })) s s0
        (if 63 < start then refused .outOfRange
         else accepted (u8 s0.asc.slots.length ++
           ((s0.asc.slots.drop start).take 12).flatMap (slotSummary s0)))) ∧
    (∀ a, Handed (.storeRead tag (.fields { selector := 2, value := a })) s s0 →
      OnlyAnswers (.storeRead tag (.fields { selector := 2, value := a })) s s0
        (match s0.asc.slots.find? (fun x => x.id == a) with
         | none => refused .notFound
         | some x => accepted (slotRecord s0 x))) ∧
    (∀ z, Handed (.zoneRead tag (.fields z)) s s0 → OnlyAnswers (.zoneRead tag (.fields z)) s s0
      (match z with
       | none => accepted ((List.range 40).flatMap (zoneSummary s0) ++ u16 s0.zrt.groups.toNat)
       | some z => if 39 < z then refused .outOfRange else accepted (zoneRecord s0 z))) ∧
    ∀ q, Handed (.channelRead tag (.fields q)) s s0 → OnlyAnswers (.channelRead tag (.fields q)) s s0
      (match q.channel with
       | none => accepted (u8 s0.ple.gap ++ s0.ple.channels.flatMap channelSummary)
       | some c =>
         if 7 < c ∨ q.sectionCode = 0 ∨ 3 < q.sectionCode then refused .outOfRange
         else match s0.channel c with
           | none => accepted (headSection c none)
           | some r =>
             if q.sectionCode = 1 then accepted (headSection c (some r))
             else if q.sectionCode = 2 then accepted (phraseSection r) else accepted (zoneSection r q.start))

/-! ### Resets (R1, R13, R72, R91, R110, R124, R125, R153, R154, R166) -/

/-- What the manual says the part holds after cold reset, block by block. POWER_ON sets every block to these values,
whatever came before, and sends RESTARTED first; the lines keep the levels last stated on them (log entry 1). That the
start sequence 0 is the number of the first run is the model's (log entry 44). -/
def Obligations.ColdResetHoldsTheColdValues : Prop :=
  (let s := State.reset
  (s.clock.service = 0 ∧ s.clock.held = true ∧ s.clock.unset = true ∧ s.clock.prescaler = 0 ∧
    s.clock.day = 0 ∧ s.clock.runTime = 0 ∧ s.clock.offset = 10800 ∧ s.clock.nightStart = none ∧
    s.clock.openTime = none ∧ s.clock.matchWindow = 1200) ∧
  s.ttu = { calls := [], plans := List.replicate 16 { threshold := 180, cues := [] } } ∧
  (s.fiu.inputs.length = 32 ∧ ∀ i ∈ s.fiu.inputs, i.function = .general ∧ i.polarity = .activeLow ∧
    i.sense = .edge ∧ i.debounceMs = 50 ∧ i.notice = false ∧ i.wake = false ∧ i.pending = false ∧
    i.debounce = none) ∧
  (s.asc.directory = [] ∧ s.asc.templates = List.replicate 64 [] ∧ s.asc.slots = [] ∧ s.asc.idCounter = 0 ∧
    s.asc.composer = .idle) ∧
  s.zrt.zones = List.replicate 40
    { enabled := false, address := 0, kind := .other, name := none, base := .opn, covering := none, queue := []
      g0 := -24, gmin := -120, gmax := 0, nref := 60, slope := 0, window := [], lampMode := .off
      lampThreshold := 6, pulseEnd := none } ∧
  (s.zrt.groups = 0 ∧ s.zrt.stampCounter = 0 ∧ s.zrt.sources.length = 8 ∧
    ∀ e ∈ s.zrt.sources, e.state = .free) ∧
  s.ple = { channels := List.replicate 8 none, nextSeq := 0, gap := 3 } ∧
  s.smc = { mode := .night, warmUp := 8, supply := false } ∧
  s.lnk = { n := 4, k := 8, receiver := .hunting, queue := [], replies := [], outbox := [], lost := 0
            mask := BitVec.allOnes 11, tx := none }) ∧
  ∀ s : State, exec .powerOn s = .next { State.reset with
    pending := s.pending
    pins := s.pins
    lnk := { State.reset.lnk with
      tx := some (.notice { day := 0, service := 0, lost := 0, notice := .restarted .powerOn }) } }

/-- RESET_ASSERT breaks off the frame in transmission; while the line is asserted nothing advances and no byte,
request or event has an effect. That the two sampling commands still state their levels on the lines, and that only
POWER_ON, RESET_ASSERT and RESET_RELEASE act, is read from the manual (log entry 20). -/
def Obligations.ResetHoldsThePartStill : Prop :=
  (∀ s : State, exec .resetAssert s = .next { s with resetLine := true, lnk := { s.lnk with tx := none } }) ∧
  ∀ c (s : State), s.resetLine = true →
    c = .powerOn ∨ c = .resetAssert ∨ c = .resetRelease ∨
      (∃ rs, c = .ambientSample rs ∧ exec c s = .next (s.withPins { s.pins with noise := rs })) ∨
      (∃ ls, c = .inputSampling ls ∧ exec c s = .next (s.withPins { s.pins with inputs := ls })) ∨
      exec c s = .next s

/-- RESET_RELEASE is a warm reset: the tables and settings are kept, the store, queues and channels emptied, but for
the re-issued evacuation announcements. The mode and the supply line follow the table of R154 where no source is ACTIVE,
and R154 with R149 where one is. That the stable levels stand as before until the first sample is the model's (log
entry 3), and so are that a release of a line that was never asserted is a warm reset too (log entry 20) and that the
start sequence 0 is the number of the next run (log entry 44). -/
def Obligations.ResetReleaseIsAWarmReset : Prop :=
  ∀ s, ∃ t, exec .resetRelease s = .next t ∧ WarmReset .resetLine s t

/-! ### Station time and run time (R1, R2, R6 to R11) -/

/-- CLOCK_HOLD stops a running clock where it stands; CLOCK_RELEASE is refused while the clock is unset, and lets
a held clock run on from the count it holds; CLOCK_SET is refused on a running clock and above 86,399, else it sets
a held clock, clears the prescaler and ends the unset condition, and the clock stays held. DAY_CONFIG replaces the
day settings together, the match window clamped, or is refused and changes nothing. -/
def Obligations.TheClockAndTheDaySettingsAreSet : Prop :=
  ((∀ tag s s0,
     (Handed (.clockHold tag (.fields ())) s s0 →
       (s0.clock.held = true → OnlyAnswers (.clockHold tag (.fields ())) s s0 (accepted [])) ∧
       (s0.clock.held = false → exec (.clockHold tag (.fields ())) s = .next (answer (accepted [])
         (generate (.clockEvent .held none)
           (s0.withClock { s0.clock with held := true }))))) ∧
     (Handed (.clockRelease tag (.fields ())) s s0 →
       (s0.clock.unset = true → OnlyAnswers (.clockRelease tag (.fields ())) s s0 (refused .clockNotSet)) ∧
       (s0.clock.unset = false → s0.clock.held = false →
         OnlyAnswers (.clockRelease tag (.fields ())) s s0 (accepted [])) ∧
       (s0.clock.unset = false → s0.clock.held = true →
         exec (.clockRelease tag (.fields ())) s = .next (answer (accepted [])
           (generate (.clockEvent .released none) (s0.withClock { s0.clock with held := false })))))) ∧
   ∀ tag v s s0, Handed (.clockSet tag (.fields v)) s s0 →
     (s0.clock.held = false → OnlyAnswers (.clockSet tag (.fields v)) s s0 (refused .clockNotHeld)) ∧
     (s0.clock.held = true → 86399 < v → OnlyAnswers (.clockSet tag (.fields v)) s s0 (refused .outOfRange)) ∧
     (s0.clock.held = true → v ≤ 86399 → exec (.clockSet tag (.fields v)) s = .next (answer (accepted [])
       (generate (.clockEvent .set (some s0.clock.service)) (s0.withClock { s0.clock with
         service := v, prescaler := 0, unset := false }))))) ∧
  ∀ tag r s s0, Handed (.dayConfig tag (.fields r)) s s0 →
    (86399 < r.offset ∨ (∃ t, r.nightStart = some t ∧ 86399 < t) ∨ (∃ t, r.openTime = some t ∧ 86399 < t) ∨
        (r.nightStart ≠ none ∧ r.nightStart = r.openTime) →
      OnlyAnswers (.dayConfig tag (.fields r)) s s0 (refused .outOfRange)) ∧
    (r.offset ≤ 86399 → (∀ t, r.nightStart = some t → t ≤ 86399) → (∀ t, r.openTime = some t → t ≤ 86399) →
        (r.nightStart ≠ none → r.nightStart ≠ r.openTime) →
      exec (.dayConfig tag (.fields r)) s = .next (answer
        (.accepted (decide (r.matchWindow < 60 ∨ 3600 < r.matchWindow)) [] .nothing)
        (s0.withClock { s0.clock with
          offset := r.offset, nightStart := r.nightStart, openTime := r.openTime
          matchWindow := max 60 (min 3600 r.matchWindow) })))

/-- A tenth advances run time always, and the prescaler while the clock runs; with nothing due before it, it changes
nothing else but the count towards the next ambient sample (log entry 5). The tenth that would bring a running prescaler
to 10 is a second of station time: it advances the service time by one or rolls the day over, in whatever order the
blocks take it (R3; the operand is log entry 10), and SECOND_OF_STATION_TIME is that tenth (log entry 9); at any other
tenth that command has no effect (log entry 7). After the rollover second the table holds the NEXT calls there were, in
their order, as CURRENT calls, and no others. -/
def Obligations.TenthsAndSecondsAdvanceTime : Prop :=
  ∀ s : State, s.resetLine = false →
    (¬ SecondNext s →
      (∃ t, exec .tenthOfRunTime s = .next t ∧ t.clock = ticked s.clock) ∧
      (NothingDue s →
        exec .tenthOfRunTime s = .next ((s.withClock (ticked s.clock)).withZrt (sampleTicked s.zrt))) ∧
      ∀ order, exec (.secondOfStationTime order) s = .next s) ∧
    (SecondNext s →
      exec .tenthOfRunTime s = exec (.secondOfStationTime { early := [], blocks := .ttuZrtSmc }) s ∧
      (∀ order, ∃ t, exec (.secondOfStationTime order) s = .next t ∧ t.clock = seconded s.clock ∧
        (NothingDue s → order.early = [] →
          CallsAndPlays ((s.withClock t.clock).withZrt (sampleTicked s.zrt)) t) ∧
        (s.clock.service = 86399 →
          (∀ c ∈ t.ttu.calls, c.day = .current ∧ ∃ old ∈ s.ttu.calls, old.id = c.id ∧ old.day = .next ∧
            old.zone = c.zone ∧ old.sa = c.sa ∧ old.sd = c.sd) ∧
          (TableOk s.ttu.calls → t.ttu.calls.map schedule =
            (s.ttu.calls.filter (fun c => decide (c.day = .next))).map schedule))) ∧
      (NothingDue s → ∀ blocks,
        let rollover := decide (86399 ≤ s.clock.service)
        let c := seconded s.clock
        let u := (s.withClock c).withZrt (sampleTicked s.zrt)
        exec (.secondOfStationTime { early := [], blocks := blocks }) s = .next
          (deliver blocks (secondTtu rollover) (secondZrt rollover s.asc.created)
            (secondSmc (decide (c.nightStart = some c.service)) (decide (c.openTime = some c.service)))
            (if rollover then generate (.clockEvent .rollover none) u else u))))

/-- TTU's part of a second: the cues in order, then the unconfirmed completions (R24, R44 to R51). Each UNFIRED cue of a
live CURRENT call whose trigger has come is FIRED, or MISSED past its late limit; every other mark stays. A MISSED cue
is reported; a cue that fires is reported with the announcement it created, which is that of R49, or as suppressed by
night; a cue fired by an event fires alike. Then every PLANNED CURRENT call past its confirmation time is COMPLETE,
unconfirmed. -/
def Obligations.ASecondFiresCuesAndCompletesCalls : Prop :=
  (∀ s : State, secondTtu false s = settle (completions (evaluateCues s))) ∧
  (∀ s : State, TableOk s.ttu.calls → let t := evaluateCues s
    CallsAndPlays s t ∧
    t.ttu.calls.map (fun c => { c with marks := [] }) = s.ttu.calls.map (fun c => { c with marks := [] }) ∧
    ∀ c ∈ s.ttu.calls, c.marks.length = 6 → ∀ x ∈ t.ttu.calls, x.id = c.id → ∀ i < 6,
      markOf x i = judged s c i) ∧
  (∀ (s : State) id i c q a, s.call? id = some c → (s.plan c.plan).cues[i]? = some q → cueBase c q = some a →
    c.day = .current → (c.state = .planned ∨ c.state = .atPlatform) → markOf c i = .unfired →
    let t : Int := (a : Int) + q.offset
    let now : Int := s.clock.service
    let m := s.smc.mode
    (now < t → evaluateCue id i s = s) ∧
    (t ≤ now → (q.late : Int) < now - t →
      evaluateCue id i s = generate (.cueMissed id i t s.clock.service) (setMark id i .missed s)) ∧
    (t ≤ now → now - t ≤ q.late → Fired s c i q t (evaluateCue id i s) ∧
      ((m = .night ∨ m = .winding ∨ ∃ h, m = .nightAlert h) →
        evaluateCue id i s = generate (.cueFired id i q.anchor t 0 true 0) (setMark id i .fired s)) ∧
      ((m = .opn ∨ ∃ g e, m = .warming g e) →
        ∃ u announcement zones,
          evaluateCue id i s = generate (.cueFired id i q.anchor t announcement false zones) u ∧
          Plays (setMark id i .fired s) u ∧
          (s.asc.slots.length ≤ 64 → (announcement = 0 ↔ zones = 0))))) ∧
  (∀ (s : State) id i c q (t : Nat), s.call? id = some c → (s.plan c.plan).cues[i]? = some q →
    (c.day = .current → markOf c i = .unfired → Fired s c i q t (fireEventCue id q.anchor t i s)) ∧
    ((c.day = .next ∨ markOf c i ≠ .unfired) → fireEventCue id q.anchor t i s = s) ∧
    ∀ a, a ≠ q.anchor → fireEventCue id a t i s = s) ∧
  ∀ s : State, TableOk s.ttu.calls → let t := completions s
    OnlyCalls s t ∧ t.ttu.calls.map core = s.ttu.calls.map (fun c => core
      (if overdueAt s.clock.service c then { c with state := .complete, unconfirmed := true } else c))

/-- ZRT's and SMC's parts of a second: the sweep drops every placement whose latest start has passed (R103); the
rollover's sweep drops those of the ended day and reduces the latest starts left, of the announcements created before
the second (R104; the count of creations is log entry 22); the night-start and open markers are requests for NIGHT and
for OPEN (R10, R146). -/
def Obligations.ASecondSweepsTheQueuesAndMovesTheMode : Prop :=
  (∀ (s : State) created, ∃ w, secondZrt false created s = settle w ∧ Plays s w ∧
    ∀ z < 40, (w.zone z).queue = (s.zone z).queue.filter (fun p => !startsBefore s s.clock.service p)) ∧
  (∀ (s : State) limit, ∃ w, secondZrt true limit s = settle w ∧ Plays s w ∧
    (∀ z < 40, (w.zone z).queue = (s.zone z).queue.filter (fun p =>
      !((s.slot? p.announcement).any (fun x => decide (x.seq < limit)) && startsBefore s 86400 p))) ∧
    (∀ y ∈ w.asc.slots, ∃ x ∈ s.asc.slots, y =
      { x with latestStart := if x.seq < limit then x.latestStart.map (fun t => t - 86400) else x.latestStart }) ∧
    ∀ x ∈ s.asc.slots, 0 < runCount s x.id → ∃ y ∈ w.asc.slots, y.id = x.id) ∧
  ∀ night opn (s : State), ∃ w, secondSmc night opn s = settle w ∧ Plays s w ∧
    w.smc.mode = modeAfter (if night then 3 else if opn then 1 else 0) s
      (s.clock.runTime + BitVec.ofNat 32 (10 * s.smc.warmUp)) (if quiet w then some s.clock.runTime else none) ∧
    w.smc.supply = if w.smc.mode = s.smc.mode then s.smc.supply else decide (w.smc.mode ≠ .night)

/-! ### What every step keeps -/

/-- The clock stays within its ranges, and an unset clock stays held (R2, R7 to R11). The supply line stays off in
NIGHT and on in every other mode (R144). -/
def Obligations.EveryStepKeepsTheClockAndTheSupply : Prop :=
  (∀ s t, ClockOk s.clock → step s = .next t → ClockOk t.clock) ∧
  ∀ s t, SupplyOk s.smc → step s = .next t → SupplyOk t.smc

/-- Every queued placement and every run stays one of an announcement in the store, each announcement there keeps a
placement or a run (R84), and the modes keep their law: no run in NIGHT and WARMING, none below 6 in NIGHT_ALERT, no
placement below 6 queued in NIGHT and NIGHT_ALERT, the hold running just while the station is quiet, and WINDING only
while a run below 6 plays (R144, R147, R148, R151). -/
def Obligations.EveryStepKeepsTheAnnouncementsAndTheMode : Prop :=
  ∀ s t, CapacityOk s → AnnouncementsOk s → ModeOk s → step s = .next t → AnnouncementsOk t ∧ ModeOk t

/-- The link keeps its limits, the order of its queue, and one reply on its way for each answered request
(R155, R158, R160 to R163). -/
def Obligations.EveryStepKeepsTheLinkSound : Prop :=
  ∀ s t, LinkSound s → step s = .next t → LinkSound t

/-- No table, directory, queue, store or window passes its capacity, every setting stays in its range, every
announcement keeps an id of its own, and every queue stays in order of priority. -/
def Obligations.EveryStepKeepsTheCapacities : Prop :=
  ∀ s t, CapacityOk s → step s = .next t → CapacityOk t

/-- The call table stays in its order, its ids stay distinct, and no platform gets two trains (R14). -/
def Obligations.EveryStepKeepsTheTableInOrder : Prop :=
  ∀ s t, TableOk s.ttu.calls → step s = .next t → TableOk t.ttu.calls

/-- Every zone is covered by the lowest-numbered source that covers it, and by none where none does (R115). -/
def Obligations.EveryStepKeepsTheCoverage : Prop :=
  ∀ s t, CoverageOk s → step s = .next t → CoverageOk t

/-- An ISOLATED zone stays out of EVACUATE, with an empty queue and no attached channel (R107, R115). -/
def Obligations.EveryStepKeepsIsolatedZonesEmpty : Prop :=
  ∀ s t, CoverageOk s → IsolationOk s → step s = .next t → IsolationOk t

/-- The state after reset meets every invariant above. -/
def Obligations.ResetMeetsEveryInvariant : Prop :=
  let s := State.reset
  ClockOk s.clock ∧ LinkSound s ∧ SupplyOk s.smc ∧ CapacityOk s ∧ TableOk s.ttu.calls ∧ CoverageOk s ∧
    IsolationOk s ∧ AnnouncementsOk s ∧ ModeOk s

/-! ### The call table (R14 to R18, R25 to R27, R52, R53) -/

/-- CALL_LOAD stores a call with its values "At load" at its place in the table order, in the place of a PLANNED
call of its id, whose announcements it withdraws (R28), and reports its position; it is refused in the order of R15. -/
def Obligations.ALoadStoresItsCall : Prop :=
  ∀ tag r s s0, Handed (.callLoad tag (.fields r)) s s0 →
    let only := OnlyAnswers (.callLoad tag (.fields r)) s s0
    ((r.kind = 0 ∨ 3 < r.kind ∨ r.dayTag = 0 ∨ 2 < r.dayTag) → only (refused .outOfRange)) ∧
    ∀ k d, callKindCode k = r.kind → dayCode d = r.dayTag →
      (¬ LoadFits k r → only (refused .outOfRange)) ∧
      (LoadFits k r → (s0.zone r.zone).kind ≠ .platform → only (refused .notPlatform)) ∧
      (LoadFits k r → (s0.zone r.zone).kind = .platform →
        (∀ old, s0.call? r.id = some old → old.state ≠ .planned → only (refused .wrongState)) ∧
        (s0.call? r.id = none → 512 ≤ s0.ttu.calls.length → only (refused .tableFull)) ∧
        ((s0.call? r.id = none ∧ s0.ttu.calls.length < 512 ∨
            ∃ old, s0.call? r.id = some old ∧ old.state = .planned) →
          ∃ u before after, exec (.callLoad tag (.fields r)) s =
              .next (answer (accepted (u16 before.length)) u) ∧
            s0.ttu.calls.filter (fun c => c.id != r.id) = before ++ after ∧
            u.ttu.calls.map core = (before ++ newCall k d r :: after).map core ∧
            (∀ b ∈ before, comesBefore (newCall k d r) b = false) ∧
            (∀ a, after.head? = some a → comesBefore (newCall k d r) a = true) ∧
            CallsAndPlays s0 u ∧ (s0.call? r.id = none → OnlyCalls s0 u) ∧
            (s0.call? r.id ≠ none → Withdrawn s0 r.id u)))

/-- CALL_DELAY replaces the delays it gives, clamped, and computes the call's times again; it is refused in the
order of R26. -/
def Obligations.ADelayMovesTheExpectedTimes : Prop :=
  ∀ tag r s s0, Handed (.callDelay tag (.fields r)) s s0 →
    let only := OnlyAnswers (.callDelay tag (.fields r)) s s0
    (r.arrival = none → r.departure = none → only (refused .malformed)) ∧
    ((r.arrival ≠ none ∨ r.departure ≠ none) →
      (s0.call? r.id = none → only (refused .notFound)) ∧
      ∀ c, s0.call? r.id = some c →
        (DelayForeign c r → only (refused .outOfRange)) ∧
        (¬ DelayForeign c r →
          (c.state ≠ .planned → c.state ≠ .atPlatform → only (refused .wrongState)) ∧
          (r.arrival ≠ none → c.aa ≠ none → only (refused .wrongState)) ∧
          ((c.state = .planned ∨ c.state = .atPlatform) → (r.arrival ≠ none → c.aa = none) →
            ∃ u clamped, exec (.callDelay tag (.fields r)) s =
                .next (answer (.accepted clamped [] .nothing) u) ∧
              (clamped = true ↔ DelayClamped r.arrival ∨ DelayClamped r.departure) ∧
              u.ttu.calls.map core = s0.ttu.calls.map
                (fun x => core (if x.id = r.id then computeTimes (delayed r x) else x)) ∧
              OnlyCalls s0 u ∧ (c.day = .next → u.lnk = s0.lnk))))

/-- CALL_PLATFORM withdraws a PLANNED call's announcements (R28), moves it to another platform and fires the
PLATFORM_CHANGE cues of a CURRENT one. -/
def Obligations.APlatformChangeMovesTheCall : Prop :=
  ∀ tag r s s0, Handed (.callPlatform tag (.fields r)) s s0 →
    let only := OnlyAnswers (.callPlatform tag (.fields r)) s s0
    (s0.call? r.id = none → only (refused .notFound)) ∧
    ∀ c, s0.call? r.id = some c →
      (39 < r.zone → only (refused .outOfRange)) ∧
      (r.zone ≤ 39 → c.state ≠ .planned → only (refused .wrongState)) ∧
      (r.zone ≤ 39 → c.state = .planned → (s0.zone r.zone).kind ≠ .platform → only (refused .notPlatform)) ∧
      (r.zone ≤ 39 → c.state = .planned → (s0.zone r.zone).kind = .platform → r.zone = c.zone →
        only (refused .duplicate)) ∧
      (r.zone ≤ 39 → c.state = .planned → (s0.zone r.zone).kind = .platform → r.zone ≠ c.zone →
        ∃ u, exec (.callPlatform tag (.fields r)) s = .next (answer (accepted []) u) ∧ CallsAndPlays s0 u ∧
          u.ttu.calls.map (bare r.id) = s0.ttu.calls.map (fun x => bare r.id
            (if x.id = r.id then { x with previous := some x.zone, changed := true, zone := r.zone } else x)) ∧
          MarksFire s0 c (c.day = .current) .platformChange u ∧ Withdrawn s0 r.id u)

/-- CALL_CANCEL ends a live call and fires the CANCEL cues of a CURRENT one; CALL_DELETE takes a call that is not
at its platform out of the table; each withdraws the call's announcements first. A withdrawal drops every placement of
every announcement of the call and marks every run of one to truncate (R28, R85). -/
def Obligations.CancelledAndDeletedCallsEnd : Prop :=
  (∀ id (s : State), (s.asc.slots.map Slot.id).Nodup → let t := withdrawCall id s
    Plays s t ∧ (∀ x ∈ t.asc.slots, x.call = some id → x.withdrawn = true) ∧
    ∀ x ∈ s.asc.slots, x.call = some id → x.withdrawn = false →
      (∀ z < 40, ∀ p ∈ (t.zone z).queue, p.announcement ≠ x.id) ∧
      ∀ c < 8, ∀ r, t.channel c = some r → r.announcement = x.id → ∀ e ∈ r.zones, e.mark = some .withdrawal) ∧
  (∀ tag id s s0, Handed (.callCancel tag (.fields id)) s s0 →
    let only := OnlyAnswers (.callCancel tag (.fields id)) s s0
    (s0.call? id = none → only (refused .notFound)) ∧
    ∀ c, s0.call? id = some c →
      (c.state ≠ .planned → c.state ≠ .atPlatform → only (refused .wrongState)) ∧
      ((c.state = .planned ∨ c.state = .atPlatform) →
        ∃ u, exec (.callCancel tag (.fields id)) s = .next (answer (accepted []) u) ∧ CallsAndPlays s0 u ∧
          u.ttu.calls.map (bare id) = s0.ttu.calls.map (fun x => bare id
            (if x.id = id then { x with state := .cancelled } else x)) ∧
          MarksFire s0 c (c.day = .current) .cancel u ∧ Withdrawn s0 id u)) ∧
  ∀ tag id s s0, Handed (.callDelete tag (.fields id)) s s0 →
    let only := OnlyAnswers (.callDelete tag (.fields id)) s s0
    (s0.call? id = none → only (refused .notFound)) ∧
    ∀ c, s0.call? id = some c →
      (c.state = .atPlatform → only (refused .wrongState)) ∧
      (c.state ≠ .atPlatform →
        ∃ u, exec (.callDelete tag (.fields id)) s = .next (answer (accepted []) u) ∧ CallsAndPlays s0 u ∧
          u.ttu.calls.map core = (s0.ttu.calls.filter (fun x => x.id != id)).map core ∧ Withdrawn s0 id u)

/-- CALL_REPORT moves its call as a detection would, with the host's time; it is refused in the order of R27. -/
def Obligations.AReportMovesTheCall : Prop :=
  ∀ tag r s s0, Handed (.callReport tag (.fields r)) s s0 →
    let only := OnlyAnswers (.callReport tag (.fields r)) s s0
    (s0.call? r.id = none → only (refused .notFound)) ∧
    ∀ c, s0.call? r.id = some c →
      ((86399 < r.time ∨ r.stage = 0 ∨ 2 < r.stage) → only (refused .outOfRange)) ∧
      (r.time ≤ 86399 → (r.stage = 1 ∨ r.stage = 2) →
        (c.day = .next → only (refused .wrongState)) ∧
        (c.day = .current → r.stage = 1 → c.state ≠ .planned → only (refused .wrongState)) ∧
        (c.day = .current → r.stage = 2 → c.state ≠ .atPlatform → only (refused .wrongState)) ∧
        (c.day = .current → r.stage = 2 → c.state = .atPlatform → ∀ a, c.aa = some a → r.time < a.time →
          only (refused .outOfRange)) ∧
        (c.day = .current → r.stage = 1 → c.state = .planned →
          (∃ o ∈ s0.ttu.calls, o.id ≠ c.id ∧ o.state = .atPlatform ∧ o.zone = c.zone) →
            only (refused .platformOccupied)) ∧
        (c.day = .current → r.stage = 1 → c.state = .planned →
          (∀ o ∈ s0.ttu.calls, o.id ≠ c.id → o.state = .atPlatform → o.zone ≠ c.zone) →
            ∃ u, exec (.callReport tag (.fields r)) s = .next (answer (accepted []) u) ∧ OnlyCalls s0 u ∧
              u.ttu.calls.map core = s0.ttu.calls.map (fun x => core
                (if x.id = r.id then arrivedAt { time := r.time, source := .reported, held := false } x else x))) ∧
        (c.day = .current → r.stage = 2 → c.state = .atPlatform → (∀ a, c.aa = some a → a.time ≤ r.time) →
            ∃ u, exec (.callReport tag (.fields r)) s = .next (answer (accepted []) u) ∧ OnlyCalls s0 u ∧
              u.ttu.calls.map core = s0.ttu.calls.map (fun x => core
                (if x.id = r.id then departedAt { time := r.time, source := .reported, held := false } x else x))))

/-! ### Expected times, conflicts and plans (R33 to R42) -/

/-- EA is AA where it is present, else SA + Da clamped; a DEPARTURE call has none; the lower clamp sets no flag. ED and EC
are by kind, clamped to the extended range, with the ceiling flag; a TURN call departs no earlier than its occupancy
allows. -/
def Obligations.TheExpectedTimesFollowTheirRules : Prop :=
  (∀ c : Call,
    (c.kind = .departure → (computeTimes c).ea = none) ∧
    (c.kind ≠ .departure → ∀ a, c.aa = some a → (computeTimes c).ea = some a.time) ∧
    (c.kind ≠ .departure → c.aa = none → ∀ sa, c.sa = some sa →
      (computeTimes c).ea = some (max 0 (min 100799 ((sa : Int) + c.da))).toNat ∧
      (sa ≤ 86399 → c.da ≤ 14400 → (sa : Int) + c.da ≤ 100799) ∧
      ((sa : Int) + c.da < 0 → (computeTimes c).ea = some 0 ∧
        (computeTimes c).clampArrival = c.clampArrival ∧ (computeTimes c).clampDeparture = c.clampDeparture ∧
        (c.kind = .arrival → c.oa ≤ 100799 → (computeTimes c).ceiling = false)))) ∧
  ∀ (c : Call) (sd ea : Nat),
    let t := computeTimes c
    (c.kind = .departure → c.sd = some sd →
      t.ed = some (max 0 (min 100799 ((sd : Int) + c.dd))).toNat ∧ t.ec = none ∧
      t.ceiling = decide (100799 < (sd : Int) + c.dd)) ∧
    (c.kind = .turn → c.sd = some sd → t.ea = some ea →
      t.ed = some (max 0 (min 100799 (max ((sd : Int) + c.dd) ((ea : Int) + c.oa)))).toNat ∧ t.ec = none ∧
      (∀ d, t.ed = some d → ea + c.oa ≤ d ∨ d = 100799) ∧
      (100799 < max ((sd : Int) + c.dd) ((ea : Int) + c.oa) → t.ceiling = true)) ∧
    (c.kind = .arrival → t.ea = some ea →
      t.ed = none ∧ t.ec = some (min 100799 (ea + c.oa)) ∧ (100799 < ea + c.oa → t.ceiling = true)) ∧
    (∀ x, (t.ed = some x ∨ t.ec = some x) → x ≤ 100799)

/-- A delay is rendered in whole minutes, a half minute rounding up, and from the hour on in hours and minutes (R37).
A time is rendered by its civil minute, a half minute rounding up, wrapping past midnight, with the on-the-hour word;
which times and which delay are spoken follows the anchor and the call's kind (R36, R38). -/
def Obligations.DelaysAndTimesAreSpoken : Prop :=
  (∀ d : Int,
     (d < 30 → sayDelay d = [0, 100]) ∧
     (0 ≤ d → ∀ m, m = (d.toNat + 30) / 60 →
       (m < 60 → sayDelay d = [m, 100]) ∧
       (60 ≤ m → m % 60 = 0 → m < 6000 → sayDelay d = [m / 60, 101]) ∧
       (60 ≤ m → 0 < m % 60 → m < 6000 → sayDelay d = [m / 60, 101, m % 60, 100]) ∧
       (d ≤ 14400 → m ≤ 240) ∧ (d ≤ 100799 → m ≤ 1680 ∧ m / 60 ≤ 28))) ∧
  (∀ t offset m : Nat, m = ((t + offset + 30) / 60) % 1440 →
    sayTime t offset = if m % 60 = 0 then [m / 60, 102] else [m / 60, m % 60]) ∧
  sayTime 100799 10800 = [7, 102] ∧
  ∀ (s : State) (c : Call) (a : Option Anchor), let departs := speaksDepartureOf c a
    scheduledFor c a = (if departs then c.sd else c.sa).getD 0 ∧
    expectedFor c a = (if departs then c.ed else c.ea).getD 0 ∧
    delayFor c a = spokenDelay c a ∧
    (isDelayed s c a = true ↔ ((s.plan c.plan).threshold : Int) ≤ spokenDelay c a)

/-- A recomputation of a platform's conflicts gives each live CURRENT call of it the overlapping call whose window
starts earliest, the smaller id where two start together; a call whose window overlaps none has no partner. -/
def Obligations.ConflictsNameTheEarliestOverlap : Prop :=
  ∀ (z : Nat) (s : State), let t := recomputeConflicts z none s
    OnlyCalls s t ∧ t.ttu.calls.map core = s.ttu.calls.map core ∧
    (∀ c ∈ t.ttu.calls, c.zone ≠ z → c ∈ s.ttu.calls) ∧
    ∀ c ∈ t.ttu.calls, c.zone = z →
      ((c.day = .next ∨ c.state = .complete ∨ c.state = .cancelled ∨ c.state = .lapsed) → c.partner = none) ∧
      (c.day = .current → (c.state = .planned ∨ c.state = .atPlatform) →
        (c.partner = none ↔ ∀ o ∈ t.ttu.calls, ¬ Conflicts c o) ∧
        ∀ p, c.partner = some p → ∃ o ∈ t.ttu.calls, o.id = p ∧ Conflicts c o ∧
          ∀ x ∈ t.ttu.calls, Conflicts c x →
            (occupancy o).1 < (occupancy x).1 ∨ ((occupancy o).1 = (occupancy x).1 ∧ o.id ≤ x.id))

/-- PLAN_SET replaces a plan whole, its values clamped, or is refused and changes nothing. -/
def Obligations.PlanSetReplacesThePlan : Prop :=
  ∀ tag r s s0, Handed (.planSet tag (.fields r)) s s0 →
    ((15 < r.plan ∨ 6 < r.cues.length ∨ ∃ q ∈ r.cues, ¬ CueFits q) →
      OnlyAnswers (.planSet tag (.fields r)) s s0 (refused .outOfRange)) ∧
    (r.plan ≤ 15 → r.cues.length ≤ 6 → (∀ q ∈ r.cues, CueFits q) →
      ∃ cues clamped, exec (.planSet tag (.fields r)) s = .next (answer (.accepted clamped [] .nothing)
          (s0.withTtu { s0.ttu with
            plans := s0.ttu.plans.set r.plan { threshold := max 60 (min 900 r.threshold), cues := cues } })) ∧
        List.Forall₂ CueStored r.cues cues ∧
        (clamped = true ↔ r.threshold < 60 ∨ 900 < r.threshold ∨ ∃ q ∈ r.cues, CueClamps q))

/-! ### Field inputs (R55 to R72) -/

/-- INPUT_CONFIG replaces an input's configuration, keeping its stable level and its debounce, a due one judged
again by the new time (log entry 19); INPUT_CLEAR clears the pending latches it names, unless one of them holds. An
INPUT_EVENT of a configuration carries the capture of the request; where the configuration itself sets the latch, R58
names no capture and that is the model's choice (log entry 40). -/
def Obligations.InputsAreConfiguredAndCleared : Prop :=
  (∀ tag r s s0, Handed (.inputConfig tag (.fields r)) s s0 →
    let only := OnlyAnswers (.inputConfig tag (.fields r)) s s0
    (¬ InputFits r → only (refused .outOfRange)) ∧
    (InputFits r → NamesNoPlatform s0 r.function → only (refused .notPlatform)) ∧
    (InputFits r → ¬ NamesNoPlatform s0 r.function →
      ∃ u clamped new, exec (.inputConfig tag (.fields r)) s = .next (answer (.accepted clamped [] .nothing) u) ∧
        (clamped = true ↔ InputClamps r) ∧ Configured r (s0.input r.input) new ∧
        u.fiu = { s0.fiu with inputs := s0.fiu.inputs.set r.input new } ∧
        ((statusInput (s0.input r.input) = true ∨ statusInput new = false) → u = s0.withFiu u.fiu) ∧
        (r.input < s0.fiu.inputs.length → statusInput (s0.input r.input) = false → statusInput new = true →
          u = generate (.inputEvent r.input new.function new.stable
            { time := s0.clock.service, held := s0.clock.held }) (s0.withFiu u.fiu)))) ∧
  ∀ tag named s s0, Handed (.inputClear tag (.fields named)) s s0 →
    let only := OnlyAnswers (.inputClear tag (.fields named)) s s0
    (named = 0 → only (refused .malformed)) ∧
    (∀ n < 32, HoldsActive s0 named n → (∀ m < n, ¬ HoldsActive s0 named m) →
      only (.refused .inputActive n)) ∧
    (named ≠ 0 → (∀ n < 32, ¬ HoldsActive s0 named n) →
      exec (.inputClear tag (.fields named)) s = .next (answer (accepted []) (s0.withFiu { s0.fiu with
        inputs := s0.fiu.inputs.mapIdx (fun n i => if named.getLsbD n then { i with pending := false } else i) })))

/-- One sample follows the table of R55 at every input; the first after a reset sets the stable levels (R72). A level
that stays away from the stable level expires at the sample that lies the debounce time after the first that found
it, and at none before: with 50 ms at the sixth. -/
def Obligations.SamplesFollowTheDebounceTable : Prop :=
  (∀ levels (s : State), s.resetLine = false → (∀ n d, (s.input n).debounce = some d → d.due = false) →
    ∃ t, exec (.inputSampling levels) s = .next t ∧
      t = (s.withPins { s.pins with inputs := levels }).withFiu t.fiu ∧ t.fiu.firstSample = false ∧
      t.fiu.inputs.length = s.fiu.inputs.length ∧
      ∀ n i, s.fiu.inputs[n]? = some i →
        let raw := levels.getLsbD n
        (s.fiu.firstSample = true → t.fiu.inputs[n]? = some { i with stable := raw, debounce := none }) ∧
        (s.fiu.firstSample = false →
          (raw = i.stable → t.fiu.inputs[n]? = some { i with debounce := none }) ∧
          (raw ≠ i.stable → i.debounce = none → t.fiu.inputs[n]? = some { i with
            debounce := some { candidate := raw, samples := 0, due := decide (i.debounceMs = 0) } }) ∧
          (raw ≠ i.stable → ∀ d, i.debounce = some d → t.fiu.inputs[n]? = some { i with
            debounce := some { candidate := raw, samples := d.samples + 1
                               due := decide (i.debounceMs ≤ 10 * (d.samples + 1)) } }))) ∧
  ∀ (i : Input) (k : Nat), i.debounce = none →
    ((fun x => sampleInput (!i.stable) x)^[k + 1] i) = { i with
      debounce := some { candidate := !i.stable, samples := k, due := decide (i.debounceMs ≤ 10 * k) } }

/-- A debounce expiry that is due is the transition of its input: the stable level, the pending latch by its sense,
an INPUT_EVENT where the status goes from clear to set, a request for OPEN where the transition is active and wake is
enabled (R58, R65, R146), and nothing handed on where its set keeps its activity. One that is not due has no effect (the
model's, log entry 7). That the mode after a wake request is the one it asks for in the mode before the expiry, also
where the set hands on an edge, rests on the model's order: SMC takes the wake request before the set's owner takes the
edge, with no pass between (log entry 37). -/
def Obligations.ADebounceExpiryIsATransition : Prop :=
  ∀ n (s : State), s.resetLine = false →
    ((∀ d, (s.input n).debounce = some d → d.due = false) → exec (.debounceExpiry n) s = .next s) ∧
    ∀ d, (s.input n).debounce = some d → d.due = true →
      ∃ t, exec (.debounceExpiry n) s = .next t ∧
        t.fiu = { s.fiu with inputs := s.fiu.inputs.modify n (fun i =>
          { i with
            stable := d.candidate, debounce := none
            pending := (decide (i.sense = .edge) && i.pending) || activeAt i.polarity d.candidate }) } ∧
        Routes (s.withFiu t.fiu) (t.withTtu s.ttu) ∧ t.ttu.plans = s.ttu.plans ∧
        ((SetActive s (s.input n).function ↔ SetActive t (s.input n).function) →
          t.ttu = s.ttu ∧ Plays (s.withFiu t.fiu) t) ∧
        (statusInput (s.input n) = false → statusInput (t.input n) = true →
          Routes (generate (.inputEvent n (s.input n).function d.candidate
            { time := s.clock.service, held := s.clock.held }) (s.withFiu t.fiu)) (t.withTtu s.ttu)) ∧
        (activeAt (s.input n).polarity d.candidate = true → (s.input n).wake = true →
          t.smc.mode = modeAfter 1 s (s.clock.runTime + BitVec.ofNat 32 (10 * s.smc.warmUp)) none)

/-- The edges of a TRAIN_DETECT set move the nearest PLANNED call to the platform and the call there away; an edge
without such a call changes no call; the active edge of a DISPATCH set fires the cues of a departing call. -/
def Obligations.DetectionEdgesMoveTheCalls : Prop :=
  ∀ n z d (s : State), s.resetLine = false → (s.input n).debounce = some d → d.due = true →
    ∃ t, exec (.debounceExpiry n) s = .next t ∧
      (∀ c, (s.input n).function = .trainDetect z → Rises s t (.trainDetect z) → NoTrainAt s z →
        MatchFor s z c → (∀ o, MatchFor s z o → o ≠ c → Nearer s c o) →
          t.ttu.calls.map core = s.ttu.calls.map (fun x => core (if x.id = c.id then
            arrivedAt { time := s.clock.service, source := .detected, held := s.clock.held } x else x))) ∧
      ((s.input n).function = .trainDetect z → Rises s t (.trainDetect z) →
        (¬ NoTrainAt s z ∨ ∀ c, ¬ MatchFor s z c) → t.ttu = s.ttu) ∧
      (∀ c, (s.input n).function = .trainDetect z → Falls s t (.trainDetect z) → callAtPlatform s z = some c →
          t.ttu.calls.map core = s.ttu.calls.map (fun x => core (if x.id = c.id then
            departedAt { time := s.clock.service, source := .detected, held := s.clock.held } x else x))) ∧
      ((s.input n).function = .trainDetect z → Falls s t (.trainDetect z) → NoTrainAt s z → t.ttu = s.ttu) ∧
      (∀ c, (s.input n).function = .dispatch z → Rises s t (.dispatch z) → callAtPlatform s z = some c →
        s.call? c.id = some c →
          t.ttu.calls.map (bare c.id) = s.ttu.calls.map (bare c.id) ∧
            MarksFire s c (c.kind ≠ .arrival ∧ c.day = .current) .dispatch t) ∧
      ((s.input n).function = .dispatch z → (Falls s t (.dispatch z) ∨ NoTrainAt s z) → t.ttu = s.ttu)

/-- The edges of a PLATFORM_CLOSE set close an OPEN zone, and open a CLOSED one where the set is LEVEL-sensed; a zone
closed so outside EVACUATE keeps no placement below 6, and a run below 6 has it marked to truncate or has let it go. The
active edge of a FIRE_PANEL set makes its source ACTIVE, latched where the set is EDGE-sensed. -/
def Obligations.ClosureAndPanelEdgesReachTheZones : Prop :=
  (∀ (s : State) z, z < s.zrt.zones.length →
    let w := closureActive z s
    ((s.zone z).base ≠ .opn → w = s) ∧
    ((s.zone z).base = .opn → (w.zone z).base = .closed ∧
      ((w.zone z).covering = none → (∀ p ∈ (w.zone z).queue, 6 ≤ p.priority) ∧
        (AttachedOnce s z → ClosedToRuns s w z)))) ∧
  ∀ n d (s : State), s.resetLine = false → (s.input n).debounce = some d → d.due = true →
    ∃ t, exec (.debounceExpiry n) s = .next t ∧
      (∀ z < 40, (s.input n).function = .platformClose z →
        let bases := s.zrt.zones.map Zone.base
        t.zrt.sources.map standing = s.zrt.sources.map standing ∧
        (Rises s t (.platformClose z) → (s.zone z).base = .opn →
          t.zrt.zones.map Zone.base = bases.set z .closed) ∧
        (Falls s t (.platformClose z) → (s.zone z).base = .closed → SetLevel s (.platformClose z) →
          t.zrt.zones.map Zone.base = bases.set z .opn) ∧
        (Rises s t (.platformClose z) → (s.zone z).base ≠ .opn → t.zrt.zones.map Zone.base = bases) ∧
        (Falls s t (.platformClose z) → ((s.zone z).base ≠ .closed ∨ ¬ SetLevel s (.platformClose z)) →
          t.zrt.zones.map Zone.base = bases)) ∧
      ∀ a m p i, (s.input n).function = .firePanel a m p i →
        let key : SourceKey := { kind := .input, target := { address := a, mask := m }, template := p, interval := i }
        t.zrt.zones.map Zone.base = s.zrt.zones.map Zone.base ∧
        (Rises s t (.firePanel a m p i) → NoEntry s (fun e => e.state = .active ∧ e.key = key) →
          ∀ e, ActivationEntry s key e → ∃ latched, (latched = true ↔ ¬ SetLevel s (.firePanel a m p i)) ∧
            t.zrt.sources.map standing = (s.zrt.sources.map standing).set e
              { state := .active, key := key, latched := latched, voice := .none }) ∧
        ((Falls s t (.firePanel a m p i) ∨ ¬ NoEntry s (fun e => e.state = .active ∧ e.key = key) ∨
            NoEntry s (fun e => e.state ≠ .free ∧ e.key = key ∨ e.state ≠ .active)) →
          t.zrt.sources.map standing = s.zrt.sources.map standing)

/-! ### Phrases, announcements and the composer (R74 to R90, R97) -/

/-- PHRASE_SET puts each entry in the directory, or takes it out at duration 0; TEMPLATE_SET replaces a template
whole; each is refused in its order and changes nothing else. -/
def Obligations.PhrasesAndTemplatesAreSet : Prop :=
  (∀ tag ps s s0, Handed (.phraseSet tag (.fields ps)) s s0 →
    let only := OnlyAnswers (.phraseSet tag (.fields ps)) s s0
    ((ps = [] ∨ 16 < ps.length) → only (refused .malformed)) ∧
    (ps ≠ [] → ps.length ≤ 16 →
      ((∃ p ∈ ps, 2047 < p.id) → only (refused .outOfRange)) ∧
      ((∀ p ∈ ps, p.id ≤ 2047) → ¬ (ps.map PhraseReq.id).Nodup → only (refused .duplicate)) ∧
      ((∀ p ∈ ps, p.id ≤ 2047) → (ps.map PhraseReq.id).Nodup →
        ∃ u clamped, exec (.phraseSet tag (.fields ps)) s = .next (answer (.accepted clamped [] .nothing) u) ∧
          (clamped = true ↔ ∃ p ∈ ps, 600 < p.duration) ∧
          u = s0.withAsc { s0.asc with directory := u.asc.directory } ∧
          (∀ p ∈ ps, u.phrase? p.id = if p.duration = 0 then none else
            some { id := p.id, duration := min p.duration 600, location := p.location }) ∧
          ∀ id, (∀ p ∈ ps, p.id ≠ id) → u.phrase? id = s0.phrase? id))) ∧
  ∀ tag r s s0, Handed (.templateSet tag (.fields r)) s s0 →
    let only := OnlyAnswers (.templateSet tag (.fields r)) s s0
    ((63 < r.template ∨ 32 < r.tokens.length ∨ ∃ t ∈ r.tokens, templateToken t = none) →
      only (refused .outOfRange)) ∧
    ∀ ts, r.template ≤ 63 → r.tokens.length ≤ 32 → Pairs (fun t x => templateToken t = some x) r.tokens ts →
      (¬ SegmentsNest ts → only (refused .outOfRange)) ∧
      (SegmentsNest ts → ∃ clamped, exec (.templateSet tag (.fields r)) s =
          .next (answer (.accepted clamped [] .nothing)
            (s0.withAsc { s0.asc with templates := s0.asc.templates.set r.template ts })) ∧
        (clamped = true ↔ NumberClamps r.tokens))

/-- A creation takes a free slot, or that of the victim of R83, whose placements are dropped; without either it fails
STORE_FULL and changes nothing. It takes the next id after the counter that is not in use (R82) and fills the slot; each
zone of the target set, in ascending zone id, refuses it for the first reason of R97, with a notice, or takes a placement
(R97, R98). With none placed it fails NO_TARGET, the slot freed and the id passed over (R81). In a store that keeps the
law of R84. -/
def Obligations.ACreationMakesItsAnnouncement : Prop :=
  (∀ (s : State) p, (s.asc.slots.length < 64 → makeSlot p s = s) ∧
    ∀ pre v post, 64 ≤ s.asc.slots.length → StoreVictimFor s p pre v post →
      let m := makeSlot p s
      Plays s m ∧ m.ple = s.ple ∧ m.asc.slots = s.asc.slots.filter (fun x => x.id != v.id) ∧
        ∀ z < 40, (m.zone z).queue = (s.zone z).queue.filter (fun q => q.announcement != v.id)) ∧
  (∀ (s : State) (x : Slot),
    ((create x s).1 = .storeFull ↔ 64 ≤ s.asc.slots.length ∧
      ∀ y ∈ s.asc.slots, y.priority < x.priority → 0 < runCount s y.id) ∧
    ((create x s).1 = .storeFull → (create x s).2 = s)) ∧
  (∀ (s : State) (x : Slot) k z reason, (s.slot? x.id).bind Slot.latestStart = x.latestStart → ¬ DefersHere s x z →
    RefusedFor s x z reason → (placeIn x (k, s) z).2 = generate (.placementRefused x.id z x.priority reason) s) ∧
  ∀ (s : State) (x : Slot), s.asc.slots.length ≤ 64 → AnnouncementsOk s → (create x s).1 ≠ .storeFull →
    let m := makeSlot x.priority s
    let t := (create x s).2
    Plays s t ∧ t.ple = s.ple ∧
    ∃ a zs refusing, t.asc.idCounter = a ∧ m.slot? a = none ∧
      (∃ i < 255, a = (s.asc.idCounter + i) % 255 + 1 ∧
        ∀ j < i, (m.slot? ((s.asc.idCounter + j) % 255 + 1)).isSome = true) ∧
      PlacedIn m t x a zs ∧
      ZonesOf m x (fun z => ¬ DefersHere m x z ∧ ∃ reason, RefusedFor m x z reason) refusing ∧
      (zs ≠ [] → t.slot? a = some { x with id := a, seq := s.asc.created } ∧
        ∃ full, (create x s).1 = .kept a
          { placed := zs.length, refused := refusing.length, full := full
            held := zs.countP (fun z => (m.zone z).covering.isSome && decide (x.priority < 7)) }) ∧
      (zs = [] → t.asc.slots = m.asc.slots ∧ ∃ n, (create x s).1 = .noTarget n)

/-- ANNOUNCE is refused in the order of R80; else it creates the announcement of its header and tokens, clamped, origin
HOST with its tag, and answers the id and the counts of that creation (what a creation places is
`ACreationMakesItsAnnouncement`); every zone of its target either takes a placement or refuses one; with a free slot and
an OPEN zone with room by day it is accepted. It is refused STORE_FULL just where all 64 slots are in use and every one
of a lower priority is playing (R83), and then it leaves what it found, as `settle` leaves it: nothing changed where
nothing was still to be placed, created or started. -/
def Obligations.AnnounceCreatesItsAnnouncement : Prop :=
  ∀ tag r s s0, Handed (.announce tag (.fields r)) s s0 →
    let only := OnlyAnswers (.announce tag (.fields r)) s s0
    let target := targetSet s0 [headerPair r.header]
    ((r.tokens = [] ∨ 16 < r.tokens.length) → only (refused .malformed)) ∧
    (r.tokens ≠ [] → r.tokens.length ≤ 16 →
      ((¬ HeaderFits r.header ∨ (∃ t ∈ r.tokens, ¬ HostTokenFits t) ∨
          (r.header.call = none ∧ ∃ t ∈ r.tokens, FieldCode t)) → only (refused .outOfRange)) ∧
      (HeaderFits r.header → (∀ t ∈ r.tokens, HostTokenFits t) →
          (r.header.call = none → ∀ t ∈ r.tokens, ¬ FieldCode t) →
        (∀ id, r.header.call = some id → s0.call? id = none → only (refused .notFound)) ∧
        ((∀ id, r.header.call = some id → s0.call? id ≠ none) →
          (∀ p, r.header.chime = some p → s0.phrase? p = none → only (.refused .missingPhrase 0)) ∧
          ((∀ p, r.header.chime = some p → s0.phrase? p ≠ none) →
            (∀ k, MissingAt s0 r.tokens k → (∀ j < k, ¬ MissingAt s0 r.tokens j) →
              only (.refused .missingPhrase (k + 1))) ∧
            ((∀ k, ¬ MissingAt s0 r.tokens k) →
              ∃ res u, exec (.announce tag (.fields r)) s = .next (answer res u) ∧ Plays s0 u ∧
                (∃ ts, Pairs (fun t y => hostToken t = some y) r.tokens ts ∧
                  let x := hostAnnouncement (headerStored r.header) tag ts
                  let k := create x s0
                  u = afterCreation x k ∧ (k.1 = .storeFull → res = refused .storeFull) ∧
                  (∀ n, k.1 = .noTarget n → res = refused .noTarget) ∧
                  ∀ a n, k.1 = .kept a n → ∃ clamped,
                    res = .accepted clamped (u8 a ++ u8 n.placed ++ u8 n.refused ++ u8 n.held) .nothing) ∧
                ((res = refused .storeFull ∧ 64 ≤ s0.asc.slots.length ∧ u = settle s0 ∧
                    (settleRound s0 = none → u = s0)) ∨ res = refused .noTarget ∨
                  ∃ clamped a placed refusals held,
                    res = .accepted clamped (u8 a ++ u8 placed ++ u8 refusals ++ u8 held) .nothing ∧
                    (clamped = true ↔ HeaderClamps r.header ∨ NumberClamps r.tokens) ∧
                    (s0.asc.slots.length ≤ 64 → 1 ≤ a ∧ a ≤ 255) ∧
                    0 < placed ∧ placed + refusals = target.length ∧ held ≤ placed) ∧
                (res = refused .storeFull ↔ 64 ≤ s0.asc.slots.length ∧
                  ∀ x ∈ s0.asc.slots, x.priority < r.header.priority → 0 < runCount s0 x.id) ∧
                (s0.asc.slots.length < 64 → r.header.latestStart = none → inNight s0.smc.mode = false →
                  (∃ z ∈ target, (s0.zone z).base = .opn ∧ (s0.zone z).covering = none ∧
                    (s0.zone z).queue.length < 12) →
                  res ≠ refused .storeFull ∧ res ≠ refused .noTarget))))))

/-- COMPOSE_BEGIN begins in IDLE; in FILLING or CLOSED it begins again only where a restart is asked; in CHECKING
it is refused BUSY. It touches nothing else and sends no notice. -/
def Obligations.ComposeBeginOpensAnEmptyBuffer : Prop :=
  ∀ tag restart s s0, Handed (.composeBegin tag (.fields restart)) s s0 →
    let only := OnlyAnswers (.composeBegin tag (.fields restart)) s s0
    let begins := exec (.composeBegin tag (.fields restart)) s =
      .next (answer (accepted []) (s0.withAsc { s0.asc with composer := .filling [] }))
    (s0.asc.composer = .idle → begins) ∧
    (∀ b, (s0.asc.composer = .filling b ∨ s0.asc.composer = .closed b) →
      (restart = false → only (refused .composerInUse)) ∧ (restart = true → begins)) ∧
    ∀ b h g start, s0.asc.composer = .checking b h g start → only (refused .busy)

/-- COMPOSE_PART appends its tokens and closes on a part of fewer than 16; COMPOSE_END leaves the buffer to a check
with its header and tag; each is refused in its order and touches nothing else. -/
def Obligations.ACompositionIsFilledAndEnded : Prop :=
  (∀ tag raw s s0, Handed (.composePart tag (.fields raw)) s s0 →
    let only := OnlyAnswers (.composePart tag (.fields raw)) s s0
    ((raw = [] ∨ 16 < raw.length) → only (refused .malformed)) ∧
    (raw ≠ [] → raw.length ≤ 16 →
      ((s0.asc.composer = .idle ∨ ∃ b, s0.asc.composer = .closed b) → only (refused .wrongState)) ∧
      (∀ b h g start, s0.asc.composer = .checking b h g start → only (refused .busy)) ∧
      ∀ b, s0.asc.composer = .filling b →
        (((∃ t ∈ raw, ¬ HostTokenFits t) ∨ 64 < b.length + raw.length) → only (refused .outOfRange)) ∧
        ((∀ t ∈ raw, HostTokenFits t) → b.length + raw.length ≤ 64 →
          ∃ ts clamped, Pairs (fun t x => hostToken t = some x) raw ts ∧ (clamped = true ↔ NumberClamps raw) ∧
            exec (.composePart tag (.fields raw)) s =
              .next (answer (.accepted clamped (u8 (b.length + raw.length)) .nothing)
                (s0.withAsc { s0.asc with
                  composer := if raw.length < 16 then .closed (b ++ ts) else .filling (b ++ ts) }))))) ∧
  ∀ tag h s s0, Handed (.composeEnd tag (.fields h)) s s0 →
    let only := OnlyAnswers (.composeEnd tag (.fields h)) s s0
    ((s0.asc.composer = .idle ∨ s0.asc.composer = .filling []) → only (refused .wrongState)) ∧
    (∀ b h' g start, s0.asc.composer = .checking b h' g start → only (refused .busy)) ∧
    ∀ b, ((s0.asc.composer = .filling b ∧ b ≠ []) ∨ s0.asc.composer = .closed b) →
      ((¬ HeaderFits h ∨ (h.call = none ∧ ∃ t ∈ b, isCallField t = true)) → only (refused .outOfRange)) ∧
      (HeaderFits h → (h.call = none → ∀ t ∈ b, isCallField t = false) →
        (∀ id, h.call = some id → s0.call? id = none → only (refused .notFound)) ∧
        ((∀ id, h.call = some id → s0.call? id ≠ none) →
          ∃ clamped, (clamped = true ↔ HeaderClamps h) ∧ exec (.composeEnd tag (.fields h)) s =
            .next (answer (.accepted clamped [] .nothing) (s0.withAsc { s0.asc with
              composer := .checking b (headerStored h) tag s0.clock.runTime }))))

/-- The completion of a check returns the composer to IDLE and reports; a call or a phrase that is gone fails it, the
first phrase in the order of chime and tokens with its position, and creates nothing; else it creates the announcement
of its header and buffer, origin HOST with the tag, and reports the id and counts of that creation, or its failure.
Without a check in progress it has no effect (the model's, log entry 7). WITHDRAW drops every
placement of its announcement, marks its runs, and answers their counts as they were before it (log entry 28). -/
def Obligations.ChecksCompleteAndAnnouncementsAreWithdrawn : Prop :=
  (∀ s : State, s.resetLine = false →
    ((∀ b h g start, s.asc.composer ≠ .checking b h g start) → exec .composeCheckCompletion s = .next s) ∧
    ∀ b h g start, s.asc.composer = .checking b h g start →
      let idle := s.withAsc { s.asc with composer := .idle }
      (∃ t, exec .composeCheckCompletion s = .next t ∧ Plays idle t) ∧
      (∀ id, h.call = some id → s.call? id = none →
        exec .composeCheckCompletion s = .next (generate (.composeDone g (.failed .notFound 0)) idle)) ∧
      ((∀ id, h.call = some id → s.call? id ≠ none) → ∀ p, h.chime = some p → s.phrase? p = none →
        exec .composeCheckCompletion s = .next (generate (.composeDone g (.failed .missingPhrase 0)) idle)) ∧
      ((∀ id, h.call = some id → s.call? id ≠ none) → (∀ p, h.chime = some p → s.phrase? p ≠ none) →
        (∀ k, AbsentAt s b k → (∀ j < k, ¬ AbsentAt s b j) →
          exec .composeCheckCompletion s =
            .next (generate (.composeDone g (.failed .missingPhrase (k + 1))) idle)) ∧
        ((∀ k, ¬ AbsentAt s b k) → ∃ w res, exec .composeCheckCompletion s = .next (generate (.composeDone g res) w) ∧
          Plays idle w ∧
          (let x := hostAnnouncement h g b
           let k := create x s
           let v := afterCreation x k
           w = v.withAsc { v.asc with composer := .idle } ∧ (k.1 = .storeFull → res = .failed .storeFull 0) ∧
             (∀ n, k.1 = .noTarget n → res = .failed .noTarget 0) ∧
             ∀ a n, k.1 = .kept a n → res = .created a n.placed n.refused n.held) ∧
          (res = .failed .storeFull 0 ∨ res = .failed .noTarget 0 ∨
            ∃ a placed refusals held, res = .created a placed refusals held ∧
              (s.asc.slots.length ≤ 64 → 1 ≤ a ∧ a ≤ 255) ∧
              0 < placed ∧ placed + refusals = (targetSet s [h.target]).length ∧ held ≤ placed)))) ∧
  ∀ tag a s s0, Handed (.withdraw tag (.fields a)) s s0 →
    let only := OnlyAnswers (.withdraw tag (.fields a)) s s0
    (s0.slot? a = none → only (refused .notFound)) ∧
    ∀ x, s0.slot? a = some x →
      ((∃ n, x.origin = .evac n) → only (refused .wrongState)) ∧
      ((∀ n, x.origin ≠ .evac n) → s0.zrt.zones.length = 40 → x.withdrawn = false →
        ∃ w, exec (.withdraw tag (.fields a)) s = .next (answer (accepted
            (u8 (s0.zrt.zones.countP (fun z => z.queue.any (fun p => p.announcement == a))) ++
              u8 ((List.range 8).countP (fun c => (s0.channel c).any (fun r => r.announcement == a)))))
            (settle w)) ∧
          Plays s0 w ∧ (∀ z ∈ w.zrt.zones, ∀ p ∈ z.queue, p.announcement ≠ a) ∧
          ∀ c < 8, ∀ r, w.channel c = some r → r.announcement = a → ∀ e ∈ r.zones, e.mark = some .withdrawal) ∧
      ((∀ n, x.origin ≠ .evac n) → x.withdrawn = true →
        exec (.withdraw tag (.fields a)) s = .next (answer (accepted [0, 0]) (settle s0)))

/-! ### Zones, groups and sources (R92 to R124) -/

/-- ZONE_CONFIG replaces a zone's configuration, clamped, keeps its base state and takes its coverage anew; it is
refused in the order of R92. GROUP_SET gives the selected groups their values together (R94); the zones of a group it
invalidates are taken out of EVACUATE, emptied and detached before the reply (R95), a zone that is attached to no two
channels, as `IsolationOk` keeps it, for the last two: a second run could hand its placement back in between. Each
completes in every state, with a reply of acceptance where it is not refused. -/
def Obligations.ZonesAndGroupsAreConfigured : Prop :=
  (∀ tag r s s0, Handed (.zoneConfig tag (.fields r)) s s0 →
    let only := OnlyAnswers (.zoneConfig tag (.fields r)) s s0
    let z := s0.zone r.zone
    let low := max (-120) (min 0 r.gmin)
    let high := max (-120) (min 0 r.gmax)
    let moves := z.address ≠ BitVec.ofNat 12 r.address ∧ z.queue ≠ []
    let leaves := r.enabled = false ∧ z.enabled = true ∧ (z.queue ≠ [] ∨ attachedChannel s0 r.zone ≠ none)
    ((¬ ZoneFits r ∨ high < low) → only (refused .outOfRange)) ∧
    (ZoneFits r → low ≤ high → (moves ∨ leaves) → only (refused .wrongState)) ∧
    (ZoneFits r → low ≤ high → ¬ moves → ¬ leaves → ∀ k m, zoneKindCode k = r.kind → lampCode m = r.lampMode →
      ∃ u clamped, exec (.zoneConfig tag (.fields r)) s = .next (answer (.accepted clamped [] .nothing) u) ∧
        (clamped = true ↔ ZoneClamps r) ∧
        u.zrt.zones.map Zone.base = s0.zrt.zones.map Zone.base ∧
        u.zrt.sources.map standing = s0.zrt.sources.map standing ∧
        Routes (s0.modifyZone r.zone (fun z => { z with
          enabled := r.enabled, address := BitVec.ofNat 12 r.address, kind := k, name := r.name
          g0 := max (-120) (min 0 r.g0), gmin := low, gmax := high, nref := max 30 (min 120 r.nref)
          slope := min r.slope 8, lampMode := m, lampThreshold := max 1 (min 7 r.lampThreshold) })) u)) ∧
  ∀ tag r s s0, Handed (.groupSet tag (.fields r)) s s0 →
    (r.select = 0 → OnlyAnswers (.groupSet tag (.fields r)) s s0 (refused .malformed)) ∧
    (r.select ≠ 0 → ∃ groups w,
      (∀ g < 16, groups.getLsbD g = if r.select.getLsbD g then r.value.getLsbD g else s0.zrt.groups.getLsbD g) ∧
      exec (.groupSet tag (.fields r)) s = .next (answer (accepted (u16 groups.toNat)) (settle w)) ∧
      Routes (s0.withZrt { s0.zrt with groups := groups }) w ∧
      w.zrt.zones.map Zone.base = s0.zrt.zones.map Zone.base ∧
      w.zrt.sources.map standing = s0.zrt.sources.map standing ∧
      ∀ z < 40, let g := (s0.zone z).address.toNat / 256
        s0.zrt.groups.getLsbD g = true → groups.getLsbD g = false →
          (w.zone z).covering = none ∧
            (AttachedOnce s0 z → (w.zone z).queue = [] ∧ ∀ c < 8, attachedTo w z c = false))

/-- ZONE_STATE gives a zone its base state and no other zone another; an ISOLATED zone is emptied and detached, a
CLOSED one outside EVACUATE keeps no placement below 6, and a run below 6 that it plays has it marked to truncate with
cause CLOSE, or in a gap has let it go (R107, R128); OPEN for one that is not OPEN is refused while an input holds the
closure. That OPEN for an OPEN zone is accepted whatever input holds its closure is the model's (log entry 36). -/
def Obligations.ZoneStateSetsTheBaseState : Prop :=
  ∀ tag r s s0, Handed (.zoneState tag (.fields r)) s s0 →
    let only := OnlyAnswers (.zoneState tag (.fields r)) s s0
    ((39 < r.zone ∨ r.state = 0 ∨ 3 < r.state) → only (refused .outOfRange)) ∧
    ∀ b, r.zone ≤ 39 → baseCode b = r.state →
      ((s0.zone r.zone).base = b → only (accepted [])) ∧
      ((s0.zone r.zone).base ≠ b →
        (∀ n, b = .opn → FirstHolding s0 (.platformClose r.zone) n → only (.refused .inputActive n)) ∧
        ((b = .opn → ∀ n < 32, ¬ Holding s0 (.platformClose r.zone) n) →
          ∃ w, exec (.zoneState tag (.fields r)) s = .next (answer (accepted []) (settle w)) ∧
            Routes s0 w ∧ w.zrt.zones.map Zone.base = (s0.zrt.zones.map Zone.base).set r.zone b ∧
            w.zrt.sources.map standing = s0.zrt.sources.map standing ∧
            (∀ z < 40, z ≠ r.zone → (w.zone z).covering = (s0.zone z).covering) ∧
            (b = .isolated → (w.zone r.zone).covering = none ∧ (w.zone r.zone).queue = [] ∧
              (AttachedOnce s0 r.zone → ∀ c < 8, attachedTo w r.zone c = false)) ∧
            (b = .closed → (w.zone r.zone).covering = none →
              (∀ p ∈ (w.zone r.zone).queue, 6 ≤ p.priority) ∧
                (AttachedOnce s0 r.zone → ClosedToRuns s0 w r.zone))))

/-- EVAC_START activates a source of its key, answers the number of one that is ACTIVE, or is refused; its reply
carries the id of the announcement its creation made and the zones that creation refused QUEUE_FULL (R113). EVAC_CLEAR
makes its source INACTIVE; the zones it covered are handed over or released, and the reply counts first the ones, then
the others (R121); it is refused for a source that is not ACTIVE or that a panel holds. That its OUT_OF_RANGE and its
NOT_FOUND carry the detail 0 is the model's (log entry 42), and so are that the ISOLATED zones counted at a start are those
of the target set (log entry 43), and that a start refused TABLE_FULL sends no notice (log entry 45). -/
def Obligations.EvacuationsAreStartedAndCleared : Prop :=
  (∀ tag r s s0, Handed (.evacStart tag (.fields r)) s s0 →
    let only := OnlyAnswers (.evacStart tag (.fields r)) s s0
    let key : SourceKey :=
      { kind := .host, target := { address := BitVec.ofNat 12 r.address, mask := BitVec.ofNat 12 r.mask }
        template := r.template, interval := max 10 (min 600 r.interval) }
    ((4095 < r.address ∨ 4095 < r.mask ∨ 63 < r.template) → only (refused .outOfRange)) ∧
    (r.address ≤ 4095 → r.mask ≤ 4095 → r.template ≤ 63 →
      ∀ clamped, (clamped = true ↔ r.interval < 10 ∨ 600 < r.interval) →
        (∀ n, EntryFor s0 (fun e => e.state = .active ∧ e.key = key) n →
          only (.accepted clamped (u8 n) .nothing)) ∧
        (NoEntry s0 (fun e => e.state = .active ∧ e.key = key) →
          (NoEntry s0 (fun e => e.state ≠ .free ∧ e.key = key ∨ e.state ≠ .active) →
            only (refused .tableFull)) ∧
          (s0.zrt.sources.length = 8 → ∀ n, ActivationEntry s0 key n →
            let w := activateEntry n key false s0
            let v := createEvac n w
            ∃ u, exec (.evacStart tag (.fields r)) s = .next (answer (.accepted clamped
                (u8 n ++ u8 (createdId v.1) ++ u8 (coveredCount u n) ++ u8 (deferredCount u n) ++
                  u8 (isolatedZones u key.target).length ++ u8 (createdFull v.1)) .nothing) u) ∧
              evacProto w n = { id := 0, seq := 0, priority := 7, origin := .evac n
                                content := .template key.template, call := none, chime := none
                                repeats := .continuous, interval := key.interval, latestStart := none
                                target := [key.target], withdrawn := false } ∧
              (v.2.source n).voice = voiceOf v.1 ∧
              (s0.asc.slots.length ≤ 64 → ∀ a k, v.1 = .kept a k → 1 ≤ a ∧ a ≤ 255 ∧ 0 < k.placed ∧
                k.placed + k.refused + deferredCount v.2 n = (targetSet v.2 [key.target]).length ∧
                k.full + (isolatedZones v.2 key.target).length = k.refused) ∧
              Routes s0 u ∧ u.zrt.zones.map Zone.base = s0.zrt.zones.map Zone.base ∧
              u.zrt.sources.map standing = (s0.zrt.sources.map standing).set n
                { state := .active, key := key, latched := false, voice := .none })))) ∧
  ∀ tag n s s0, Handed (.evacClear tag (.fields n)) s s0 →
    let only := OnlyAnswers (.evacClear tag (.fields n)) s s0
    let e := s0.source n
    let f : InputFunction := .firePanel e.key.target.address e.key.target.mask e.key.template e.key.interval
    (7 < n → only (refused .outOfRange)) ∧
    (n ≤ 7 →
      (e.state ≠ .active → only (refused .notFound)) ∧
      (e.state = .active → e.key.kind = .input → ∀ i, FirstHolding s0 f i → only (.refused .inputActive i)) ∧
      (e.state = .active → (e.key.kind = .host ∨ ∀ i < 32, ¬ Holding s0 f i) →
        ∃ u, exec (.evacClear tag (.fields n)) s = .next (answer (accepted
            (u8 ((List.range 40).countP (fun z =>
                decide ((s0.zone z).covering = some n) && (u.zone z).covering.isSome)) ++
              u8 ((List.range 40).countP (fun z =>
                decide ((s0.zone z).covering = some n) && (u.zone z).covering.isNone)))) u) ∧
          Routes s0 u ∧ u.zrt.zones.map Zone.base = s0.zrt.zones.map Zone.base ∧
          u.zrt.sources.map standing = (s0.zrt.sources.map standing).set n
            { state := .inactive, key := e.key, latched := false, voice := .none } ∧
          (∀ z < 40, (u.zone z).covering ≠ some n) ∧
          ∀ z < 40, (s0.zone z).covering ≠ some n → (u.zone z).covering = (s0.zone z).covering))

/-- A zone enters EVACUATE, is handed over and leaves it (R116 to R118), before its new coverage placement is made: the
covering source changes, with its notice; at entry a run below 7 is cut and the placements waiting below 7 are held; at
a hand-over and a leaving the departing source's placement is dropped and its run marked to truncate in the zone; at a
leaving the held placements are released, and a CLOSED zone keeps none below 6. No other zone's coverage changes. -/
def Obligations.ZonesEnterAndLeaveEvacuate : Prop :=
  (∀ (s : State) z n before cause, z < s.zrt.zones.length →
    let t := enterEvacuate z n before cause false s
    Recovers s t z (some n) ∧
    (∀ p ∈ (t.zone z).queue, p.priority < 7 → p.condition ≠ .waiting) ∧
    (AttachedOnce s z → ∀ r, runOf t z = some r → 7 ≤ r.priority) ∧
    ((∀ r, runOf s z = some r → 7 ≤ r.priority) →
      t = (generate (.zoneStateChange z before.base (effective before) (s.zone z).base .evacuate cause)
          (setCovering z (some n) s)).modifyZone z (fun zn => { zn with
            queue := zn.queue.map (fun p =>
              if p.condition = .waiting ∧ p.priority < 7 then { p with condition := .held } else p) }))) ∧
  (∀ (s : State) z a b, z < s.zrt.zones.length →
    let t := handOver z a b false s
    Recovers s t z (some b) ∧
    (AttachedOnce s z → MarkedFor s t z a) ∧
    (attachedChannel s z = none →
      (t.zone z).queue = (s.zone z).queue.filter (fun p => !ofSource s a p.announcement))) ∧
  ∀ (s : State) z a, z < s.zrt.zones.length →
    let t := leaveEvacuate z a s
    Recovers s t z none ∧
    (AttachedOnce s z → MarkedFor s t z a) ∧
    (∀ p ∈ (t.zone z).queue, p.condition ≠ .held ∧ ofSource s a p.announcement = false) ∧
    ((s.zone z).base = .closed → ∀ p ∈ (t.zone z).queue, 6 ≤ p.priority) ∧
    (attachedChannel s z = none → (s.zone z).base ≠ .closed → (t.zone z).queue =
      ((s.zone z).queue.filter (fun p => !ofSource s a p.announcement)).map (fun p =>
        if p.condition = .held then { p with condition := .waiting } else p))

/-! ### Playout and loudness (R125 to R141) -/

/-- PLAYOUT_CONFIG sets the gap, above 9 clamped to 9, in every mode; a gap begun afterwards takes it and a gap in
progress keeps its end; the gap is 3 after cold reset and kept through a warm reset. -/
def Obligations.PlayoutConfigSetsTheGap : Prop :=
  (∀ tag g s s0, Handed (.playoutConfig tag (.fields g)) s s0 →
    exec (.playoutConfig tag (.fields g)) s =
      .next (answer (.accepted (decide (9 < g)) [] .nothing) (s0.withPle { s0.ple with gap := min g 9 }))) ∧
  (∀ tag s s0, Handed (.playoutConfig tag .malformed) s s0 →
    OnlyAnswers (.playoutConfig tag .malformed) s s0 (refused .malformed)) ∧
  (∀ (s : State) r, 0 < s.ple.gap → (enterGap s r).phase = .gap ∧
    (enterGap s r).phaseEnd = s.clock.runTime + BitVec.ofNat 32 s.ple.gap) ∧
  State.reset.ple.gap = 3 ∧ ∀ s, ∃ t, exec .resetRelease s = .next t ∧ t.ple.gap = s.ple.gap

/-- A phrase completion ends the marked zones' parts and goes on into the gap, or ends the run with its last phrase;
the gap's end starts the next phrase. That a completion or a gap's end that is not due has no effect is the model's (log
entry 7). -/
def Obligations.RunsGoOnPhraseByPhrase : Prop :=
  ∀ (s : State), s.resetLine = false →
    (∀ c r, c < 8 → s.channel c = some r →
      let due := reached r.phaseEnd s.clock.runTime = true
      let next : Run := { r with
        position := r.position + 1, phase := .phrase
        phaseEnd := s.clock.runTime + BitVec.ofNat 32 ((r.phrases[r.position + 1]?.map Phrase.duration).getD 0) }
      (¬ (r.phase = .phrase ∧ due) → exec (.phraseCompletion c) s = .next s) ∧
      (¬ (r.phase = .gap ∧ due) → exec (.gapEnd c) s = .next s) ∧
      (r.phase = .gap → due → exec (.gapEnd c) s = .next (s.setChannel c (some next))) ∧
      (r.phase = .phrase → due → r.phrases.length ≤ r.position + 1 →
        ∃ w, exec (.phraseCompletion c) s = .next (settle w) ∧ Plays s w ∧ w.channel c = none ∧
          ∀ d, d ≠ c → w.channel d = s.channel d) ∧
      (r.phase = .phrase → due → r.position + 1 < r.phrases.length → r.zones ≠ [] →
        (∀ a ∈ r.zones, a.mark = none) →
        exec (.phraseCompletion c) s = .next (settle (s.setChannel c (some
          (if s.ple.gap = 0 then next
           else { r with phase := .gap, phaseEnd := s.clock.runTime + BitVec.ofNat 32 s.ple.gap }))))) ∧
      (r.phase = .phrase → due → r.position + 1 < r.phrases.length → (r.zones.map Attached.zone).Nodup →
        ∃ w, exec (.phraseCompletion c) s = .next (settle w) ∧ Plays s w ∧
          (∀ d, d ≠ c → w.channel d = s.channel d) ∧
          ((∀ a ∈ r.zones, a.mark ≠ none) → w.channel c = none) ∧
          ((∃ a ∈ r.zones, a.mark = none) → ∃ r', w.channel c = some r' ∧
            r'.zones = r.zones.filter (fun a => a.mark.isNone) ∧ r'.announcement = r.announcement))) ∧
    ∀ c, s.channel c = none → exec (.phraseCompletion c) s = .next s ∧ exec (.gapEnd c) s = .next s

/-- The end of a zone's part detaches the zone and disposes of the placement it carries (R101, R128 to R131): it is used
up, discarded, dropped for the first reason of R101 with its notice, restored with interrupted count 1, or rests for its
repeat with the next stamp, from the end of its part. One handed back with a WITHDRAWAL mark is dropped, and then the
coverage placement of an announcement that covers the zone again is made (R119). A placement that enters a queue with
room for it stands in it, and the queue keeps its capacity and its order; a full queue loses the victim of R100,
dropped DISPLACED, and nothing of another announcement, and one that is not full loses nothing. That PLACEMENT_DROPPED
carries the condition and the stamp the placement left its queue with is the model's reading (log entry 26). -/
def Obligations.APartsEndDisposesOfItsPlacement : Prop :=
  (∀ (s : State) c z r a o, s.channel c = some r → attachmentIn r z = some a →
    let p := a.placement
    let d := detachZone c z r s
    let ends (discard : Bool) (fate : Fate) (u : State) :=
      endPart c o discard z s = recordLeft c { zone := z, outcome := o, fate := fate } u
    let dropped (reason : DropReason) :=
      generate (.placementDropped p.announcement z p.priority p.condition p.stamp reason) d
    (∀ discard, ∃ r', (endPart c o discard z s).channel c = some r' ∧ r'.announcement = r.announcement ∧
      r'.zones = r.zones.filter (fun e => e.zone != z) ∧ ∃ fate, { zone := z, outcome := o, fate := fate } ∈ r'.left) ∧
    (o = .cut → ends true .discarded d) ∧
    (a.mark = some .withdrawal →
      (coveredWith s z r.announcement = false → ends false .dropped (dropped .withdrawn)) ∧
      (coveredWith s z r.announcement = true → holdsPlacement s z r.announcement = false →
        (∃ x, s.slot? r.announcement = some x ∧ x.withdrawn = false) →
          ends false .dropped (makeCoverage z r.announcement (dropped .withdrawn)))) ∧
    (a.mark ≠ some .withdrawal →
      ((o = .completed ∨ o = .empty) → p.repeats = .count 0 → ends false .usedUp d) ∧
      ((o = .completed ∨ o = .empty) → ∀ left,
        ((p.repeats = .continuous ∧ left = .continuous) ∨ ∃ n, p.repeats = .count (n + 1) ∧ left = .count n) →
          (∀ reason, DroppedFor s z p False reason → ends false .dropped (dropped reason)) ∧
          ((∀ reason, ¬ DroppedFor s z p False reason) → ∀ x, s.slot? p.announcement = some x →
            ends false .resting (enterQueue z
              { p with
                stamp := s.zrt.stampCounter
                condition := .resting (s.clock.runTime + BitVec.ofNat 32 (10 * x.interval))
                repeats := left }
              (d.withZrt { d.zrt with stampCounter := d.zrt.stampCounter + 1 })))) ∧
      ((o = .truncated ∨ o = .cut) →
        (∀ reason, DroppedFor s z p (p.interrupted = 1) reason → ends false .dropped (dropped reason)) ∧
        ((∀ reason, ¬ DroppedFor s z p (p.interrupted = 1) reason) →
          ends false .restored (enterQueue z
            { p with
              condition := if (s.zone z).covering.isSome ∧ p.priority < 7 then .held else .waiting
              interrupted := 1 } d))))) ∧
  (∀ (s : State) z a, z < s.zrt.zones.length → hasRoom s z 7 = true →
    ({ announcement := a, priority := 7, stamp := s.zrt.stampCounter, condition := .waiting
       repeats := .continuous, interrupted := 0 } : Placement) ∈ ((makeCoverage z a s).zone z).queue) ∧
  (∀ (s : State) z a, hasRoom s z 7 = false → makeCoverage z a s = generate (.placementRefused a z 7 .queueFull) s) ∧
  ∀ (s : State) z q, z < s.zrt.zones.length → hasRoom s z q.priority = true → QueueOk (s.zone z).queue →
    let t := enterQueue z q s
    q ∈ (t.zone z).queue ∧ QueueOk (t.zone z).queue ∧ (∀ x ∈ (t.zone z).queue, x = q ∨ x ∈ (s.zone z).queue) ∧
    (InOrder s.zrt.stampCounter (s.zone z).queue → InOrder s.zrt.stampCounter (t.zone z).queue) ∧
    ((s.zone z).queue.length < 12 → ∀ x ∈ (s.zone z).queue, x ∈ (t.zone z).queue) ∧
    ∀ v, 12 ≤ (s.zone z).queue.length → QueueVictimFor s z q.priority v →
      Plays (generate (.placementDropped v.announcement z v.priority v.condition v.stamp .displaced) s) t ∧
      (∀ x ∈ (s.zone z).queue, x.announcement ≠ v.announcement → x ∈ (t.zone z).queue) ∧
      ∀ x ∈ (t.zone z).queue, x = q ∨ x.announcement ≠ v.announcement

/-- The lamp of a zone by the table of R140: a pulse begins as a zone joins a run at or above its threshold, ends with
its 30 tenths or as the zone leaves. That a pulse's end that is not due has no effect is the model's (log entry 7). -/
def Obligations.LampsShowTheirZones : Prop :=
  (∀ (s : State) z, let zn := s.zone z
    (zn.covering.isSome = true → lampOn s z = true) ∧
    (zn.covering = none → zn.lampMode = .off → lampOn s z = false) ∧
    (zn.covering = none → zn.lampMode = .steady →
      (lampOn s z = true ↔ ∃ r, runOf s z = some r ∧ zn.lampThreshold ≤ r.priority)) ∧
    (zn.covering = none → zn.lampMode = .pulsed → (lampOn s z = true ↔ zn.pulseEnd ≠ none))) ∧
  (∀ (s : State) c x zs seized, c < s.ple.channels.length → (resolve s x).phrases ≠ [] →
    ∀ z ∈ zs, z < s.zrt.zones.length → ((startRun c x zs seized s).zone z).pulseEnd =
      if (s.zone z).lampMode = .pulsed ∧ (s.zone z).lampThreshold ≤ x.priority then
        some (s.clock.runTime + BitVec.ofNat 32 30)
      else (s.zone z).pulseEnd) ∧
  (∀ (s : State) c z r a o discard, s.channel c = some r → attachmentIn r z = some a →
    ((endPart c o discard z s).zone z).pulseEnd = none) ∧
  ∀ s : State, s.resetLine = false →
    (∀ z, ((s.zone z).pulseEnd = none ∨ ∃ e, (s.zone z).pulseEnd = some e ∧ reached e s.clock.runTime = false) →
      exec (.lampPulseEnd z) s = .next s) ∧
    ∀ z e, (s.zone z).pulseEnd = some e → reached e s.clock.runTime = true →
      exec (.lampPulseEnd z) s = .next (s.modifyZone z (fun zn => { zn with pulseEnd := none }))

/-- The content of an announcement is resolved at a run start (R76 to R79): tokens outside segments in list order, a
conditional segment by its test, each token by its kind; absent phrases are skipped and counted, more than 96 truncated,
and the chime put before them. A run without a phrase leaves its channel IDLE at its start. -/
def Obligations.ContentIsResolvedAtARunStart : Prop :=
  (∀ (s : State) (c : Option Call) (a : Option Anchor) (ts : List Token), (∀ t ∈ ts, isMarker t = false) →
    expandTokens s c a true ts = ts.flatMap (expandToken s c a) ∧ expandTokens s c a false ts = []) ∧
  (∀ (s : State) (c : Option Call) (a : Option Anchor) (delayed : Bool) (pre seg post : List Token),
    (∀ t ∈ pre, isMarker t = false) → (∀ t ∈ seg, isMarker t = false) →
    let m : Token := if delayed then .ifDelayed else .ifChanged
    let kept := if segmentKept s c a delayed then seg.flatMap (expandToken s c a) else []
    expandTokens s c a true (pre ++ m :: (seg ++ .endIf :: post)) =
        pre.flatMap (expandToken s c a) ++ kept ++ expandTokens s c a true post ∧
      expandTokens s c a true (pre ++ m :: seg) = pre.flatMap (expandToken s c a) ++ kept) ∧
  (∀ (s : State) (c : Option Call) (a : Option Anchor),
    (∀ p, expandToken s c a (.phrase p) = [p]) ∧ (∀ n, expandToken s c a (.number n) = [min n 99]) ∧
    (∀ m, m ≤ 1439 → expandToken s c a (.time m) = [m / 60, if m % 60 = 0 then 102 else m % 60]) ∧
    (∀ t, isCallField t = true → expandToken s none a t = []) ∧
    ∀ x, expandToken s (some x) a .dest = x.dest.toList ∧ expandToken s (some x) a .origin = x.origin.toList ∧
      expandToken s (some x) a .cls = x.cls.toList ∧ expandToken s (some x) a .calling = x.calling ∧
      expandToken s (some x) a .platform = (s.zone x.zone).name.toList ∧
      expandToken s (some x) a .oldPlatform = (x.previous.bind (fun z => (s.zone z).name)).toList ∧
      expandToken s (some x) a .schedTime = sayTime (scheduledFor x a) s.clock.offset ∧
      expandToken s (some x) a .expTime = sayTime (expectedFor x a) s.clock.offset ∧
      expandToken s (some x) a .delay = sayDelay (spokenDelay x a)) ∧
  (∀ (s : State) (x : Slot),
    let anchor := match x.origin with
      | .cue _ _ a => some a
      | _ => none
    let tokens := match x.content with
      | .template n => s.asc.templates.getD n []
      | .tokens ts => ts
    let ids := expandTokens s (x.call.bind s.call?) anchor true tokens
    let found := ids.filterMap s.phrase?
    let chime := x.chime.bind s.phrase?
    let r := resolve s x
    r.phrases = chime.toList ++ found.take 96 ∧ r.phrases.length ≤ 97 ∧ (∀ p ∈ r.phrases, p ∈ s.asc.directory) ∧
      (r.truncated = true ↔ 96 < found.length) ∧
      r.skipped + found.length = ids.length + (if x.chime ≠ none ∧ chime = none then 1 else 0)) ∧
  ∀ (s : State) c x zs seized, c < s.ple.channels.length → (resolve s x).phrases = [] →
    let t := startRun c x zs seized s
    Plays s t ∧ t.channel c = none ∧ t.ple.nextSeq = s.ple.nextSeq + 1 ∧ ∀ d, d ≠ c → t.channel d = s.channel d

/-- A run start takes its placements out of their queues and puts the run on its channel with the next start
sequence, the resolved phrases and each zone's gain, Gmax at 6 and 7. The gain at which a zone joins a run below
priority 6: the ambient level and excess in whole numbers, the slope in quarters, the clamp last; the window is read
and not changed. That a run takes the start sequence as it stands before it counts on is the model's (log entry 44). -/
def Obligations.ARunStartTakesItsPlacements : Prop :=
  (∀ (s : State) c (x : Slot) zs seized, c < s.ple.channels.length → (resolve s x).phrases ≠ [] → zs.Nodup →
     (∀ z ∈ zs, z < s.zrt.zones.length ∧ (placementIn s z x.id).isSome = true) →
     let t := startRun c x zs seized s
     Plays s t ∧ t.asc.slots = s.asc.slots ∧ t.ple.nextSeq = s.ple.nextSeq + 1 ∧
     (∀ d, d ≠ c → t.channel d = s.channel d) ∧
     (∀ z, (t.zone z).queue = if z ∈ zs then (s.zone z).queue.filter (fun p => p.announcement != x.id)
       else (s.zone z).queue) ∧
     ∃ r, t.channel c = some r ∧ r.announcement = x.id ∧ r.priority = x.priority ∧ r.seq = s.ple.nextSeq ∧
       r.start = s.clock.runTime ∧ r.phrases = (resolve s x).phrases ∧ r.position = 0 ∧ r.phase = .phrase ∧
       r.phaseEnd = s.clock.runTime + BitVec.ofNat 32 ((r.phrases.head?.map Phrase.duration).getD 0) ∧
       r.skipped = (resolve s x).skipped ∧ r.truncated = (resolve s x).truncated ∧ r.left = [] ∧
       r.zones.map Attached.zone = zs ∧
       ∀ a ∈ r.zones, a.mark = none ∧ placementIn s a.zone x.id = some a.placement ∧
         (6 ≤ x.priority → a.gain = (s.zone a.zone).gmax) ∧ (x.priority < 6 → a.gain = ambientGain (s.zone a.zone))) ∧
  ∀ (s : State) (prio z : Nat) (p : Placement), prio < 6 →
    let r := s.zone z
    let gain := (attachment s prio z p).gain
    let level := if r.window = [] then r.nref else r.window.sum / r.window.length
    let excess := level - r.nref
    let raised : Int := r.g0 + ((r.slope * excess / 4 : Nat) : Int)
    (r.gmin ≤ r.gmax → gain = max r.gmin (min r.gmax raised)) ∧
    (30 ≤ r.nref → r.nref ≤ 120 → (∀ x ∈ r.window, 30 ≤ x ∧ x ≤ 120) →
      30 ≤ level ∧ level ≤ 120 ∧ excess ≤ 90) ∧
    (r.gmin ≤ r.gmax → (level ≤ r.nref ∨ r.slope = 0 ∨ r.window = []) → gain = max r.gmin (min r.gmax r.g0)) ∧
    ∀ c x zs seized, (startRun c x zs seized s).zrt.zones.map Zone.window = s.zrt.zones.map Zone.window

/-- A zone's head is eligible when it is WAITING, its zone is attached to no channel, and its zone's state and the station
mode admit its priority (R134); it seizes its zone when it is of 6 or 7 and the zone plays a run of strictly lower
priority (R135). The arbiter's candidate is an eligible head of the highest priority, the oldest of those. A round starts it on the
lowest-numbered IDLE channel, in every zone whose eligible head is its announcement (R136); with no channel IDLE, a
candidate of 6 or 7 takes the channel of R137, and one below waits. Zone seizures go first, by zone (R135). A pass that
ends leaves no eligible head while a channel is IDLE, and no head that seizes its zone. -/
def Obligations.TheArbiterStartsTheOldestOfTheHighest : Prop :=
  ∀ s : State,
    (∀ z p, eligibleHead s z = some p ↔ AdmittedHead s z p ∧ ∀ c < 8, attachedTo s z c = false) ∧
    (∀ z, AttachedOnce s z → (seizes s z = true ↔ ∃ p, AdmittedHead s z p ∧ 6 ≤ p.priority ∧
      ∃ c < 8, ∃ r, s.channel c = some r ∧ (attachmentIn r z).isSome = true ∧ r.priority < p.priority)) ∧
    (∀ p, candidate s = some p →
      (∃ z < 40, eligibleHead s z = some p) ∧
      ∀ z < 40, ∀ q, eligibleHead s z = some q →
        q.priority < p.priority ∨ (q.priority = p.priority ∧ ageOf s.zrt.stampCounter q.stamp ≤
          ageOf s.zrt.stampCounter p.stamp)) ∧
    (candidate s = none ↔ ∀ z < 40, eligibleHead s z = none) ∧
    (passRound s = none → (∀ z < 40, ∀ p, eligibleHead s z = some p → (s.slot? p.announcement).isSome = true) →
      (∀ z < 40, seizes s z = false) ∧
        ((∀ z < 40, eligibleHead s z = none) ∨ ∀ c < 8, s.channel c ≠ none)) ∧
    (∀ p x c, candidate s = some p → s.slot? p.announcement = some x → c < 8 → s.channel c = none →
      (∀ d < c, s.channel d ≠ none) →
        let zs := (List.range 40).filter (fun z =>
          (eligibleHead s z).any (fun q => decide (q.announcement = p.announcement)))
        zs ≠ [] ∧ startRound s = some (startRun c x zs none s)) ∧
    (∀ p, candidate s = some p → (∀ c < 8, s.channel c ≠ none) →
      (p.priority < 6 → startRound s = none) ∧
      ((∀ c < 8, ∀ r, s.channel c = some r → p.priority ≤ r.priority) → startRound s = none) ∧
      ∀ v r, 6 ≤ p.priority → VictimFor s p.priority v r →
        startRound s = startCandidate v p (some r.announcement) (endRun v .cut s)) ∧
    ∀ z, z < 40 → seizes s z = true → (∀ y < z, seizes s y = false) →
      passRound s = some (cutZone z .zoneSeizure s)

/-! ### The station modes and the events of run time (R102, R108, R144 to R151) -/

/-- MODE_SET replaces the warm-up setting, clamped, and its mode acts by the table of R145; it replies with the mode
that its pass leaves, and for NONE with whether the alert hold runs (R152; its place last is log entry 16). -/
def Obligations.ModeSetActsOnTheMode : Prop :=
  ∀ tag r s s0, Handed (.modeSet tag (.fields r)) s s0 →
    let setting := max 1 (min 30 r.warmUp)
    (r.mode ≠ 0 → r.mode ≠ 1 → r.mode ≠ 3 →
      OnlyAnswers (.modeSet tag (.fields r)) s s0 (refused .outOfRange)) ∧
    ((r.mode = 0 ∨ r.mode = 1 ∨ r.mode = 3) → ∃ w u, u = settle w ∧
      exec (.modeSet tag (.fields r)) s = .next (answer
        (.accepted (decide (r.warmUp < 1 ∨ 30 < r.warmUp))
          (u8 (modeCode u.smc.mode) ++ optTarget u.smc.mode ++ u8 setting ++
            (if r.mode = 0 then flag (holdRunning u.smc.mode) else [])) .nothing) u) ∧
      Plays (s0.withSmc { s0.smc with warmUp := setting }) w ∧
      w.smc.mode = modeAfter r.mode s0 (s0.clock.runTime + BitVec.ofNat 32 (10 * setting))
        (if quiet w then some s0.clock.runTime else none) ∧
      w.smc.supply = if w.smc.mode = s0.smc.mode then s0.smc.supply else decide (w.smc.mode ≠ .night))

/-- An emergency event begins a warm-up in NIGHT, turns one for NIGHT towards NIGHT_ALERT, stops the alert hold, and
else changes nothing (R149); an ANNOUNCE of priority 6 or 7 accepted in NIGHT and an EVAC_START that activates there
leave the part warming for NIGHT_ALERT. The end of a warm-up enters its target as it then stands; the expiry of the
alert hold enters NIGHT; no placement below 6 is left at an entry to night. That what is not due has no effect is the
model's (log entry 7). -/
def Obligations.EmergenciesWarmUpsAndHoldsSetTheMode : Prop :=
  (∀ s : State, let ends := s.clock.runTime + BitVec.ofNat 32 (10 * s.smc.warmUp)
    (s.smc.mode = .night → emergencyEvent s = generate (.modeChange .night (.warming .nightAlert ends) .emergency)
      (s.withSmc { s.smc with mode := .warming .nightAlert ends, supply := true })) ∧
    (∀ e, s.smc.mode = .warming .night e → emergencyEvent s =
      generate (.modeChange (.warming .night e) (.warming .nightAlert e) .emergency)
        (s.withSmc { s.smc with mode := .warming .nightAlert e, supply := true })) ∧
    ((s.smc.mode = .opn ∨ s.smc.mode = .winding ∨
        ∃ e, s.smc.mode = .warming .opn e ∨ s.smc.mode = .warming .nightAlert e) → emergencyEvent s = s) ∧
    ∀ h, s.smc.mode = .nightAlert h → quiet s = false →
      emergencyEvent s = s.withSmc { s.smc with mode := .nightAlert none }) ∧
  (∀ tag r s s0, Handed (.announce tag (.fields r)) s s0 → s0.smc.mode = .night → 6 ≤ r.header.priority →
    ∃ res u, exec (.announce tag (.fields r)) s = .next (answer res u) ∧
      ((∃ clamped body, res = .accepted clamped body .nothing) →
        u.smc.mode = .warming .nightAlert (s0.clock.runTime + BitVec.ofNat 32 (10 * s0.smc.warmUp)))) ∧
  (∀ tag r s s0, Handed (.evacStart tag (.fields r)) s s0 → s0.smc.mode = .night →
    r.address ≤ 4095 → r.mask ≤ 4095 → r.template ≤ 63 →
    let key := hostKey r
    NoEntry s0 (fun e => e.state = .active ∧ e.key = key) → (∃ n, ActivationEntry s0 key n) →
      ∃ res u, exec (.evacStart tag (.fields r)) s = .next (answer res u) ∧
        u.smc.mode = .warming .nightAlert (s0.clock.runTime + BitVec.ofNat 32 (10 * s0.smc.warmUp))) ∧
  ∀ s : State, s.resetLine = false →
    let noLow (w : State) := ∀ z < 40, ∀ p ∈ (w.zone z).queue, 6 ≤ p.priority
    ((∀ g e, s.smc.mode = .warming g e → reached e s.clock.runTime = false) → exec .warmUpEnd s = .next s) ∧
    (∀ g e, s.smc.mode = .warming g e → reached e s.clock.runTime = true →
      ∃ w, exec .warmUpEnd s = .next (settle w) ∧ Plays s w ∧
        (g = .opn → w.smc.mode = .opn ∧ w.smc.supply = true ∧ w.zrt = s.zrt) ∧
        (g = .night → w.smc.mode = .night ∧ w.smc.supply = false ∧ noLow w) ∧
        (g = .nightAlert → w.smc.supply = true ∧ noLow w ∧
          w.smc.mode = .nightAlert (if quiet w then some s.clock.runTime else none))) ∧
    ((∀ t, s.smc.mode = .nightAlert (some t) → reached (t + 600) s.clock.runTime = false) →
      exec .alertHoldExpiry s = .next s) ∧
    ∀ t, s.smc.mode = .nightAlert (some t) → reached (t + 600) s.clock.runTime = true →
      ∃ w, exec .alertHoldExpiry s = .next (settle w) ∧ Plays s w ∧
        w.smc.mode = .night ∧ w.smc.supply = false ∧ noLow w

/-- REST_END ends every rest that is due, before one pass (log entry 18): the placement is dropped where its latest
start has passed, and else is HELD in EVACUATE below 7 and WAITING otherwise (R102; by the priority of its
announcement's placement in the queue, which is its own where the queue holds one of each). AMBIENT_SAMPLE adds one clamped
sample, the window's newest of eight, in each zone that is enabled, not ISOLATED and not attached, a reading that is not
there counting as 30 (log entry 34). That what is not due has no effect is the model's (log entry 7). -/
def Obligations.RestsEndAndSamplesAreTaken : Prop :=
  (∀ z a (s : State), s.resetLine = false →
    let due (s : State) (p : Placement) := ∃ t, p.condition = .resting t ∧ reached t s.clock.runTime = true
    ((∀ p, placementIn s z a = some p → ¬ due s p) → exec (.restEnd z a) s = .next s) ∧
    ∀ p, placementIn s z a = some p → due s p →
      ∃ w, exec (.restEnd z a) s = .next (settle w) ∧ Plays s w ∧
        ∀ y < 40, (∀ q ∈ (w.zone y).queue, ¬ due s q) ∧
          ∀ q ∈ (s.zone y).queue,
            (due s q → startsBefore s s.clock.service q = true →
              ∀ e ∈ (w.zone y).queue, e.announcement ≠ q.announcement) ∧
            (due s q → startsBefore s s.clock.service q = false →
              ∃ p ∈ (s.zone y).queue, p.announcement = q.announcement ∧ { q with condition :=
                if (s.zone y).covering.isSome ∧ p.priority < 7 then .held else .waiting } ∈ (w.zone y).queue) ∧
            ((∀ e ∈ (s.zone y).queue, e.announcement = q.announcement → ¬ due s e) → q ∈ (w.zone y).queue)) ∧
  ∀ readings (s : State), s.resetLine = false →
    let stated := s.withPins { s.pins with noise := readings }
    (s.zrt.ambientDue = false → exec (.ambientSample readings) s = .next stated) ∧
    (s.zrt.ambientDue = true → s.zrt.zones.length = 40 →
      ∃ zones, exec (.ambientSample readings) s =
          .next (stated.withZrt { s.zrt with zones := zones, ambientDue := false }) ∧
        zones.length = 40 ∧ ∀ z zn, s.zrt.zones[z]? = some zn →
          let joined := zn.window ++ [(max 30 (min 120 (readings.getD z 30))).toNat]
          let takes := zn.enabled = true ∧ zn.base ≠ .isolated ∧ attachedChannel s z = none
          (takes → zones[z]? = some { zn with window := joined.drop (joined.length - 8) }) ∧
          (¬ takes → zones[z]? = some zn))
end

