-- ==== Sys2Proof/Laws/Clamps.lean ====
section
/-! SUPPORT. The clamp as a maximum of a minimum, and when it changes a value. -/

namespace Sys2Proof

theorem clampInt_eq {a b : Int} (h : a ≤ b) (x : Int) : clampInt x a b = max a (min b x) := by
  unfold clampInt; split <;> (try split) <;> omega

theorem clampInt_ne {a b : Int} (h : a ≤ b) (x : Int) : clampInt x a b ≠ x ↔ x < a ∨ b < x := by
  rw [clampInt_eq h]; omega

theorem clampNat_eq {a b : Nat} (h : a ≤ b) (x : Nat) : clampNat x a b = max a (min b x) := by
  unfold clampNat; split <;> (try split) <;> omega

theorem clampNat_ne {a b : Nat} (h : a ≤ b) (x : Nat) : clampNat x a b ≠ x ↔ x < a ∨ b < x := by
  rw [clampNat_eq h]; omega

end Sys2Proof
end

