-- ==== Sys2Proof/Laws/State.lean ====
section
/-! SUPPORT. Each field after each replacement of a block: true by unfolding, so that no later proof unfolds a
record update. -/

namespace Sys2Proof.Machine

variable (s : State)

@[simp] theorem State.withPending_pending (x : List Instr) : (s.withPending x).pending = x := rfl
@[simp] theorem State.withPending_resetLine (x : List Instr) : (s.withPending x).resetLine = s.resetLine := rfl
@[simp] theorem State.withPending_pins (x : List Instr) : (s.withPending x).pins = s.pins := rfl
@[simp] theorem State.withPending_clock (x : List Instr) : (s.withPending x).clock = s.clock := rfl
@[simp] theorem State.withPending_ttu (x : List Instr) : (s.withPending x).ttu = s.ttu := rfl
@[simp] theorem State.withPending_fiu (x : List Instr) : (s.withPending x).fiu = s.fiu := rfl
@[simp] theorem State.withPending_asc (x : List Instr) : (s.withPending x).asc = s.asc := rfl
@[simp] theorem State.withPending_zrt (x : List Instr) : (s.withPending x).zrt = s.zrt := rfl
@[simp] theorem State.withPending_ple (x : List Instr) : (s.withPending x).ple = s.ple := rfl
@[simp] theorem State.withPending_smc (x : List Instr) : (s.withPending x).smc = s.smc := rfl
@[simp] theorem State.withPending_lnk (x : List Instr) : (s.withPending x).lnk = s.lnk := rfl
@[simp] theorem State.withPending_self : s.withPending s.pending = s := rfl
@[simp] theorem State.withPending_withPending (x y : List Instr) : (s.withPending x).withPending y = s.withPending y := rfl

@[simp] theorem State.withResetLine_pending (x : Bool) : (s.withResetLine x).pending = s.pending := rfl
@[simp] theorem State.withResetLine_resetLine (x : Bool) : (s.withResetLine x).resetLine = x := rfl
@[simp] theorem State.withResetLine_pins (x : Bool) : (s.withResetLine x).pins = s.pins := rfl
@[simp] theorem State.withResetLine_clock (x : Bool) : (s.withResetLine x).clock = s.clock := rfl
@[simp] theorem State.withResetLine_ttu (x : Bool) : (s.withResetLine x).ttu = s.ttu := rfl
@[simp] theorem State.withResetLine_fiu (x : Bool) : (s.withResetLine x).fiu = s.fiu := rfl
@[simp] theorem State.withResetLine_asc (x : Bool) : (s.withResetLine x).asc = s.asc := rfl
@[simp] theorem State.withResetLine_zrt (x : Bool) : (s.withResetLine x).zrt = s.zrt := rfl
@[simp] theorem State.withResetLine_ple (x : Bool) : (s.withResetLine x).ple = s.ple := rfl
@[simp] theorem State.withResetLine_smc (x : Bool) : (s.withResetLine x).smc = s.smc := rfl
@[simp] theorem State.withResetLine_lnk (x : Bool) : (s.withResetLine x).lnk = s.lnk := rfl
@[simp] theorem State.withResetLine_self : s.withResetLine s.resetLine = s := rfl
@[simp] theorem State.withResetLine_withResetLine (x y : Bool) : (s.withResetLine x).withResetLine y = s.withResetLine y := rfl

@[simp] theorem State.withPins_pending (x : Pins) : (s.withPins x).pending = s.pending := rfl
@[simp] theorem State.withPins_resetLine (x : Pins) : (s.withPins x).resetLine = s.resetLine := rfl
@[simp] theorem State.withPins_pins (x : Pins) : (s.withPins x).pins = x := rfl
@[simp] theorem State.withPins_clock (x : Pins) : (s.withPins x).clock = s.clock := rfl
@[simp] theorem State.withPins_ttu (x : Pins) : (s.withPins x).ttu = s.ttu := rfl
@[simp] theorem State.withPins_fiu (x : Pins) : (s.withPins x).fiu = s.fiu := rfl
@[simp] theorem State.withPins_asc (x : Pins) : (s.withPins x).asc = s.asc := rfl
@[simp] theorem State.withPins_zrt (x : Pins) : (s.withPins x).zrt = s.zrt := rfl
@[simp] theorem State.withPins_ple (x : Pins) : (s.withPins x).ple = s.ple := rfl
@[simp] theorem State.withPins_smc (x : Pins) : (s.withPins x).smc = s.smc := rfl
@[simp] theorem State.withPins_lnk (x : Pins) : (s.withPins x).lnk = s.lnk := rfl
@[simp] theorem State.withPins_self : s.withPins s.pins = s := rfl
@[simp] theorem State.withPins_withPins (x y : Pins) : (s.withPins x).withPins y = s.withPins y := rfl

@[simp] theorem State.withClock_pending (x : Clock) : (s.withClock x).pending = s.pending := rfl
@[simp] theorem State.withClock_resetLine (x : Clock) : (s.withClock x).resetLine = s.resetLine := rfl
@[simp] theorem State.withClock_pins (x : Clock) : (s.withClock x).pins = s.pins := rfl
@[simp] theorem State.withClock_clock (x : Clock) : (s.withClock x).clock = x := rfl
@[simp] theorem State.withClock_ttu (x : Clock) : (s.withClock x).ttu = s.ttu := rfl
@[simp] theorem State.withClock_fiu (x : Clock) : (s.withClock x).fiu = s.fiu := rfl
@[simp] theorem State.withClock_asc (x : Clock) : (s.withClock x).asc = s.asc := rfl
@[simp] theorem State.withClock_zrt (x : Clock) : (s.withClock x).zrt = s.zrt := rfl
@[simp] theorem State.withClock_ple (x : Clock) : (s.withClock x).ple = s.ple := rfl
@[simp] theorem State.withClock_smc (x : Clock) : (s.withClock x).smc = s.smc := rfl
@[simp] theorem State.withClock_lnk (x : Clock) : (s.withClock x).lnk = s.lnk := rfl
@[simp] theorem State.withClock_self : s.withClock s.clock = s := rfl
@[simp] theorem State.withClock_withClock (x y : Clock) : (s.withClock x).withClock y = s.withClock y := rfl

@[simp] theorem State.withTtu_pending (x : Ttu) : (s.withTtu x).pending = s.pending := rfl
@[simp] theorem State.withTtu_resetLine (x : Ttu) : (s.withTtu x).resetLine = s.resetLine := rfl
@[simp] theorem State.withTtu_pins (x : Ttu) : (s.withTtu x).pins = s.pins := rfl
@[simp] theorem State.withTtu_clock (x : Ttu) : (s.withTtu x).clock = s.clock := rfl
@[simp] theorem State.withTtu_ttu (x : Ttu) : (s.withTtu x).ttu = x := rfl
@[simp] theorem State.withTtu_fiu (x : Ttu) : (s.withTtu x).fiu = s.fiu := rfl
@[simp] theorem State.withTtu_asc (x : Ttu) : (s.withTtu x).asc = s.asc := rfl
@[simp] theorem State.withTtu_zrt (x : Ttu) : (s.withTtu x).zrt = s.zrt := rfl
@[simp] theorem State.withTtu_ple (x : Ttu) : (s.withTtu x).ple = s.ple := rfl
@[simp] theorem State.withTtu_smc (x : Ttu) : (s.withTtu x).smc = s.smc := rfl
@[simp] theorem State.withTtu_lnk (x : Ttu) : (s.withTtu x).lnk = s.lnk := rfl
@[simp] theorem State.withTtu_self : s.withTtu s.ttu = s := rfl
@[simp] theorem State.withTtu_withTtu (x y : Ttu) : (s.withTtu x).withTtu y = s.withTtu y := rfl

@[simp] theorem State.withFiu_pending (x : Fiu) : (s.withFiu x).pending = s.pending := rfl
@[simp] theorem State.withFiu_resetLine (x : Fiu) : (s.withFiu x).resetLine = s.resetLine := rfl
@[simp] theorem State.withFiu_pins (x : Fiu) : (s.withFiu x).pins = s.pins := rfl
@[simp] theorem State.withFiu_clock (x : Fiu) : (s.withFiu x).clock = s.clock := rfl
@[simp] theorem State.withFiu_ttu (x : Fiu) : (s.withFiu x).ttu = s.ttu := rfl
@[simp] theorem State.withFiu_fiu (x : Fiu) : (s.withFiu x).fiu = x := rfl
@[simp] theorem State.withFiu_asc (x : Fiu) : (s.withFiu x).asc = s.asc := rfl
@[simp] theorem State.withFiu_zrt (x : Fiu) : (s.withFiu x).zrt = s.zrt := rfl
@[simp] theorem State.withFiu_ple (x : Fiu) : (s.withFiu x).ple = s.ple := rfl
@[simp] theorem State.withFiu_smc (x : Fiu) : (s.withFiu x).smc = s.smc := rfl
@[simp] theorem State.withFiu_lnk (x : Fiu) : (s.withFiu x).lnk = s.lnk := rfl
@[simp] theorem State.withFiu_self : s.withFiu s.fiu = s := rfl
@[simp] theorem State.withFiu_withFiu (x y : Fiu) : (s.withFiu x).withFiu y = s.withFiu y := rfl

@[simp] theorem State.withAsc_pending (x : Asc) : (s.withAsc x).pending = s.pending := rfl
@[simp] theorem State.withAsc_resetLine (x : Asc) : (s.withAsc x).resetLine = s.resetLine := rfl
@[simp] theorem State.withAsc_pins (x : Asc) : (s.withAsc x).pins = s.pins := rfl
@[simp] theorem State.withAsc_clock (x : Asc) : (s.withAsc x).clock = s.clock := rfl
@[simp] theorem State.withAsc_ttu (x : Asc) : (s.withAsc x).ttu = s.ttu := rfl
@[simp] theorem State.withAsc_fiu (x : Asc) : (s.withAsc x).fiu = s.fiu := rfl
@[simp] theorem State.withAsc_asc (x : Asc) : (s.withAsc x).asc = x := rfl
@[simp] theorem State.withAsc_zrt (x : Asc) : (s.withAsc x).zrt = s.zrt := rfl
@[simp] theorem State.withAsc_ple (x : Asc) : (s.withAsc x).ple = s.ple := rfl
@[simp] theorem State.withAsc_smc (x : Asc) : (s.withAsc x).smc = s.smc := rfl
@[simp] theorem State.withAsc_lnk (x : Asc) : (s.withAsc x).lnk = s.lnk := rfl
@[simp] theorem State.withAsc_self : s.withAsc s.asc = s := rfl
@[simp] theorem State.withAsc_withAsc (x y : Asc) : (s.withAsc x).withAsc y = s.withAsc y := rfl

@[simp] theorem State.withZrt_pending (x : Zrt) : (s.withZrt x).pending = s.pending := rfl
@[simp] theorem State.withZrt_resetLine (x : Zrt) : (s.withZrt x).resetLine = s.resetLine := rfl
@[simp] theorem State.withZrt_pins (x : Zrt) : (s.withZrt x).pins = s.pins := rfl
@[simp] theorem State.withZrt_clock (x : Zrt) : (s.withZrt x).clock = s.clock := rfl
@[simp] theorem State.withZrt_ttu (x : Zrt) : (s.withZrt x).ttu = s.ttu := rfl
@[simp] theorem State.withZrt_fiu (x : Zrt) : (s.withZrt x).fiu = s.fiu := rfl
@[simp] theorem State.withZrt_asc (x : Zrt) : (s.withZrt x).asc = s.asc := rfl
@[simp] theorem State.withZrt_zrt (x : Zrt) : (s.withZrt x).zrt = x := rfl
@[simp] theorem State.withZrt_ple (x : Zrt) : (s.withZrt x).ple = s.ple := rfl
@[simp] theorem State.withZrt_smc (x : Zrt) : (s.withZrt x).smc = s.smc := rfl
@[simp] theorem State.withZrt_lnk (x : Zrt) : (s.withZrt x).lnk = s.lnk := rfl
@[simp] theorem State.withZrt_self : s.withZrt s.zrt = s := rfl
@[simp] theorem State.withZrt_withZrt (x y : Zrt) : (s.withZrt x).withZrt y = s.withZrt y := rfl

@[simp] theorem State.withPle_pending (x : Ple) : (s.withPle x).pending = s.pending := rfl
@[simp] theorem State.withPle_resetLine (x : Ple) : (s.withPle x).resetLine = s.resetLine := rfl
@[simp] theorem State.withPle_pins (x : Ple) : (s.withPle x).pins = s.pins := rfl
@[simp] theorem State.withPle_clock (x : Ple) : (s.withPle x).clock = s.clock := rfl
@[simp] theorem State.withPle_ttu (x : Ple) : (s.withPle x).ttu = s.ttu := rfl
@[simp] theorem State.withPle_fiu (x : Ple) : (s.withPle x).fiu = s.fiu := rfl
@[simp] theorem State.withPle_asc (x : Ple) : (s.withPle x).asc = s.asc := rfl
@[simp] theorem State.withPle_zrt (x : Ple) : (s.withPle x).zrt = s.zrt := rfl
@[simp] theorem State.withPle_ple (x : Ple) : (s.withPle x).ple = x := rfl
@[simp] theorem State.withPle_smc (x : Ple) : (s.withPle x).smc = s.smc := rfl
@[simp] theorem State.withPle_lnk (x : Ple) : (s.withPle x).lnk = s.lnk := rfl
@[simp] theorem State.withPle_self : s.withPle s.ple = s := rfl
@[simp] theorem State.withPle_withPle (x y : Ple) : (s.withPle x).withPle y = s.withPle y := rfl

@[simp] theorem State.withSmc_pending (x : Smc) : (s.withSmc x).pending = s.pending := rfl
@[simp] theorem State.withSmc_resetLine (x : Smc) : (s.withSmc x).resetLine = s.resetLine := rfl
@[simp] theorem State.withSmc_pins (x : Smc) : (s.withSmc x).pins = s.pins := rfl
@[simp] theorem State.withSmc_clock (x : Smc) : (s.withSmc x).clock = s.clock := rfl
@[simp] theorem State.withSmc_ttu (x : Smc) : (s.withSmc x).ttu = s.ttu := rfl
@[simp] theorem State.withSmc_fiu (x : Smc) : (s.withSmc x).fiu = s.fiu := rfl
@[simp] theorem State.withSmc_asc (x : Smc) : (s.withSmc x).asc = s.asc := rfl
@[simp] theorem State.withSmc_zrt (x : Smc) : (s.withSmc x).zrt = s.zrt := rfl
@[simp] theorem State.withSmc_ple (x : Smc) : (s.withSmc x).ple = s.ple := rfl
@[simp] theorem State.withSmc_smc (x : Smc) : (s.withSmc x).smc = x := rfl
@[simp] theorem State.withSmc_lnk (x : Smc) : (s.withSmc x).lnk = s.lnk := rfl
@[simp] theorem State.withSmc_self : s.withSmc s.smc = s := rfl
@[simp] theorem State.withSmc_withSmc (x y : Smc) : (s.withSmc x).withSmc y = s.withSmc y := rfl

@[simp] theorem State.withLnk_pending (x : Lnk) : (s.withLnk x).pending = s.pending := rfl
@[simp] theorem State.withLnk_resetLine (x : Lnk) : (s.withLnk x).resetLine = s.resetLine := rfl
@[simp] theorem State.withLnk_pins (x : Lnk) : (s.withLnk x).pins = s.pins := rfl
@[simp] theorem State.withLnk_clock (x : Lnk) : (s.withLnk x).clock = s.clock := rfl
@[simp] theorem State.withLnk_ttu (x : Lnk) : (s.withLnk x).ttu = s.ttu := rfl
@[simp] theorem State.withLnk_fiu (x : Lnk) : (s.withLnk x).fiu = s.fiu := rfl
@[simp] theorem State.withLnk_asc (x : Lnk) : (s.withLnk x).asc = s.asc := rfl
@[simp] theorem State.withLnk_zrt (x : Lnk) : (s.withLnk x).zrt = s.zrt := rfl
@[simp] theorem State.withLnk_ple (x : Lnk) : (s.withLnk x).ple = s.ple := rfl
@[simp] theorem State.withLnk_smc (x : Lnk) : (s.withLnk x).smc = s.smc := rfl
@[simp] theorem State.withLnk_lnk (x : Lnk) : (s.withLnk x).lnk = x := rfl
@[simp] theorem State.withLnk_self : s.withLnk s.lnk = s := rfl
@[simp] theorem State.withLnk_withLnk (x y : Lnk) : (s.withLnk x).withLnk y = s.withLnk y := rfl

/-! ### A table's record after a change of the table -/

@[simp] theorem State.modifyZone_pending (z : Nat) (f : Zone → Zone) : (s.modifyZone z f).pending = s.pending := rfl
@[simp] theorem State.modifyZone_resetLine (z : Nat) (f : Zone → Zone) : (s.modifyZone z f).resetLine = s.resetLine := rfl
@[simp] theorem State.modifyZone_pins (z : Nat) (f : Zone → Zone) : (s.modifyZone z f).pins = s.pins := rfl
@[simp] theorem State.modifyZone_clock (z : Nat) (f : Zone → Zone) : (s.modifyZone z f).clock = s.clock := rfl
@[simp] theorem State.modifyZone_ttu (z : Nat) (f : Zone → Zone) : (s.modifyZone z f).ttu = s.ttu := rfl
@[simp] theorem State.modifyZone_fiu (z : Nat) (f : Zone → Zone) : (s.modifyZone z f).fiu = s.fiu := rfl
@[simp] theorem State.modifyZone_asc (z : Nat) (f : Zone → Zone) : (s.modifyZone z f).asc = s.asc := rfl
@[simp] theorem State.modifyZone_ple (z : Nat) (f : Zone → Zone) : (s.modifyZone z f).ple = s.ple := rfl
@[simp] theorem State.modifyZone_smc (z : Nat) (f : Zone → Zone) : (s.modifyZone z f).smc = s.smc := rfl
@[simp] theorem State.modifyZone_lnk (z : Nat) (f : Zone → Zone) : (s.modifyZone z f).lnk = s.lnk := rfl

@[simp] theorem State.modifySource_pending (n : Nat) (f : Source → Source) : (s.modifySource n f).pending = s.pending := rfl
@[simp] theorem State.modifySource_resetLine (n : Nat) (f : Source → Source) : (s.modifySource n f).resetLine = s.resetLine := rfl
@[simp] theorem State.modifySource_pins (n : Nat) (f : Source → Source) : (s.modifySource n f).pins = s.pins := rfl
@[simp] theorem State.modifySource_clock (n : Nat) (f : Source → Source) : (s.modifySource n f).clock = s.clock := rfl
@[simp] theorem State.modifySource_ttu (n : Nat) (f : Source → Source) : (s.modifySource n f).ttu = s.ttu := rfl
@[simp] theorem State.modifySource_fiu (n : Nat) (f : Source → Source) : (s.modifySource n f).fiu = s.fiu := rfl
@[simp] theorem State.modifySource_asc (n : Nat) (f : Source → Source) : (s.modifySource n f).asc = s.asc := rfl
@[simp] theorem State.modifySource_ple (n : Nat) (f : Source → Source) : (s.modifySource n f).ple = s.ple := rfl
@[simp] theorem State.modifySource_smc (n : Nat) (f : Source → Source) : (s.modifySource n f).smc = s.smc := rfl
@[simp] theorem State.modifySource_lnk (n : Nat) (f : Source → Source) : (s.modifySource n f).lnk = s.lnk := rfl

@[simp] theorem State.setChannel_pending (c : Nat) (r : Option Run) : (s.setChannel c r).pending = s.pending := rfl
@[simp] theorem State.setChannel_resetLine (c : Nat) (r : Option Run) : (s.setChannel c r).resetLine = s.resetLine := rfl
@[simp] theorem State.setChannel_pins (c : Nat) (r : Option Run) : (s.setChannel c r).pins = s.pins := rfl
@[simp] theorem State.setChannel_clock (c : Nat) (r : Option Run) : (s.setChannel c r).clock = s.clock := rfl
@[simp] theorem State.setChannel_ttu (c : Nat) (r : Option Run) : (s.setChannel c r).ttu = s.ttu := rfl
@[simp] theorem State.setChannel_fiu (c : Nat) (r : Option Run) : (s.setChannel c r).fiu = s.fiu := rfl
@[simp] theorem State.setChannel_asc (c : Nat) (r : Option Run) : (s.setChannel c r).asc = s.asc := rfl
@[simp] theorem State.setChannel_zrt (c : Nat) (r : Option Run) : (s.setChannel c r).zrt = s.zrt := rfl
@[simp] theorem State.setChannel_smc (c : Nat) (r : Option Run) : (s.setChannel c r).smc = s.smc := rfl
@[simp] theorem State.setChannel_lnk (c : Nat) (r : Option Run) : (s.setChannel c r).lnk = s.lnk := rfl

@[simp] theorem State.modifyInput_pending (n : Nat) (f : Input → Input) : (s.modifyInput n f).pending = s.pending := rfl
@[simp] theorem State.modifyInput_resetLine (n : Nat) (f : Input → Input) : (s.modifyInput n f).resetLine = s.resetLine := rfl
@[simp] theorem State.modifyInput_pins (n : Nat) (f : Input → Input) : (s.modifyInput n f).pins = s.pins := rfl
@[simp] theorem State.modifyInput_clock (n : Nat) (f : Input → Input) : (s.modifyInput n f).clock = s.clock := rfl
@[simp] theorem State.modifyInput_ttu (n : Nat) (f : Input → Input) : (s.modifyInput n f).ttu = s.ttu := rfl
@[simp] theorem State.modifyInput_asc (n : Nat) (f : Input → Input) : (s.modifyInput n f).asc = s.asc := rfl
@[simp] theorem State.modifyInput_zrt (n : Nat) (f : Input → Input) : (s.modifyInput n f).zrt = s.zrt := rfl
@[simp] theorem State.modifyInput_ple (n : Nat) (f : Input → Input) : (s.modifyInput n f).ple = s.ple := rfl
@[simp] theorem State.modifyInput_smc (n : Nat) (f : Input → Input) : (s.modifyInput n f).smc = s.smc := rfl
@[simp] theorem State.modifyInput_lnk (n : Nat) (f : Input → Input) : (s.modifyInput n f).lnk = s.lnk := rfl

@[simp] theorem State.modifyCall_pending (i : Nat) (f : Call → Call) : (s.modifyCall i f).pending = s.pending := rfl
@[simp] theorem State.modifyCall_resetLine (i : Nat) (f : Call → Call) : (s.modifyCall i f).resetLine = s.resetLine := rfl
@[simp] theorem State.modifyCall_pins (i : Nat) (f : Call → Call) : (s.modifyCall i f).pins = s.pins := rfl
@[simp] theorem State.modifyCall_clock (i : Nat) (f : Call → Call) : (s.modifyCall i f).clock = s.clock := rfl
@[simp] theorem State.modifyCall_fiu (i : Nat) (f : Call → Call) : (s.modifyCall i f).fiu = s.fiu := rfl
@[simp] theorem State.modifyCall_asc (i : Nat) (f : Call → Call) : (s.modifyCall i f).asc = s.asc := rfl
@[simp] theorem State.modifyCall_zrt (i : Nat) (f : Call → Call) : (s.modifyCall i f).zrt = s.zrt := rfl
@[simp] theorem State.modifyCall_ple (i : Nat) (f : Call → Call) : (s.modifyCall i f).ple = s.ple := rfl
@[simp] theorem State.modifyCall_smc (i : Nat) (f : Call → Call) : (s.modifyCall i f).smc = s.smc := rfl
@[simp] theorem State.modifyCall_lnk (i : Nat) (f : Call → Call) : (s.modifyCall i f).lnk = s.lnk := rfl

@[simp] theorem State.modifySlot_pending (a : Nat) (f : Slot → Slot) : (s.modifySlot a f).pending = s.pending := rfl
@[simp] theorem State.modifySlot_resetLine (a : Nat) (f : Slot → Slot) : (s.modifySlot a f).resetLine = s.resetLine := rfl
@[simp] theorem State.modifySlot_pins (a : Nat) (f : Slot → Slot) : (s.modifySlot a f).pins = s.pins := rfl
@[simp] theorem State.modifySlot_clock (a : Nat) (f : Slot → Slot) : (s.modifySlot a f).clock = s.clock := rfl
@[simp] theorem State.modifySlot_ttu (a : Nat) (f : Slot → Slot) : (s.modifySlot a f).ttu = s.ttu := rfl
@[simp] theorem State.modifySlot_fiu (a : Nat) (f : Slot → Slot) : (s.modifySlot a f).fiu = s.fiu := rfl
@[simp] theorem State.modifySlot_zrt (a : Nat) (f : Slot → Slot) : (s.modifySlot a f).zrt = s.zrt := rfl
@[simp] theorem State.modifySlot_ple (a : Nat) (f : Slot → Slot) : (s.modifySlot a f).ple = s.ple := rfl
@[simp] theorem State.modifySlot_smc (a : Nat) (f : Slot → Slot) : (s.modifySlot a f).smc = s.smc := rfl
@[simp] theorem State.modifySlot_lnk (a : Nat) (f : Slot → Slot) : (s.modifySlot a f).lnk = s.lnk := rfl

/-! ### LNK's generation touches LNK alone -/

@[simp] theorem generate_pending (n : Notice) : (generate n s).pending = s.pending := rfl
@[simp] theorem answer_pending (r : Result) : (answer r s).pending = s.pending := rfl
@[simp] theorem generate_resetLine (n : Notice) : (generate n s).resetLine = s.resetLine := rfl
@[simp] theorem answer_resetLine (r : Result) : (answer r s).resetLine = s.resetLine := rfl
@[simp] theorem generate_pins (n : Notice) : (generate n s).pins = s.pins := rfl
@[simp] theorem answer_pins (r : Result) : (answer r s).pins = s.pins := rfl
@[simp] theorem generate_clock (n : Notice) : (generate n s).clock = s.clock := rfl
@[simp] theorem answer_clock (r : Result) : (answer r s).clock = s.clock := rfl
@[simp] theorem generate_ttu (n : Notice) : (generate n s).ttu = s.ttu := rfl
@[simp] theorem answer_ttu (r : Result) : (answer r s).ttu = s.ttu := rfl
@[simp] theorem generate_fiu (n : Notice) : (generate n s).fiu = s.fiu := rfl
@[simp] theorem answer_fiu (r : Result) : (answer r s).fiu = s.fiu := rfl
@[simp] theorem generate_asc (n : Notice) : (generate n s).asc = s.asc := rfl
@[simp] theorem answer_asc (r : Result) : (answer r s).asc = s.asc := rfl
@[simp] theorem generate_zrt (n : Notice) : (generate n s).zrt = s.zrt := rfl
@[simp] theorem answer_zrt (r : Result) : (answer r s).zrt = s.zrt := rfl
@[simp] theorem generate_ple (n : Notice) : (generate n s).ple = s.ple := rfl
@[simp] theorem answer_ple (r : Result) : (answer r s).ple = s.ple := rfl
@[simp] theorem generate_smc (n : Notice) : (generate n s).smc = s.smc := rfl
@[simp] theorem answer_smc (r : Result) : (answer r s).smc = s.smc := rfl
@[simp] theorem generate_lnk (n : Notice) : (generate n s).lnk = notifyLnk s.lnk s.clock.day s.clock.service n := rfl
@[simp] theorem answer_lnk (r : Result) : (answer r s).lnk = answerLnk s.lnk r := rfl

end Sys2Proof.Machine
end

