-- ==== Sys2Proof/Laws/Settles.lean ====
section
/-! SUPPORT. What each shared operation on announcements can do, said once: it is work on announcements
alone (`Plays`), and it keeps the amplifier supply, the store's capacity, and the order and capacity of
every queue. -/

namespace Sys2Proof.Machine

/-! ### Lists -/

/-- The elements of a modified list are old ones or the change of one. -/
theorem mem_modify {α : Type} {f : α → α} {x : α} :
    ∀ {l : List α} {i : Nat}, x ∈ l.modify i f → x ∈ l ∨ ∃ y ∈ l, x = f y
  | [], _, h => by simp at h
  | a :: l, 0, h => by
    simp only [List.modify_zero_cons, List.mem_cons] at h ⊢
    rcases h with rfl | h
    · exact .inr ⟨a, .inl rfl, rfl⟩
    · exact .inl (.inr h)
  | a :: l, i + 1, h => by
    simp only [List.modify_succ_cons, List.mem_cons] at h ⊢
    rcases h with rfl | h
    · exact .inl (.inl rfl)
    · rcases mem_modify h with h | ⟨y, hy, rfl⟩
      · exact .inl (.inr h)
      · exact .inr ⟨y, .inr hy, rfl⟩

/-- A change that a view does not see leaves the view of the list. -/
theorem map_modify {α β : Type} {f : α → α} {g : α → β} (h : ∀ a, g (f a) = g a) :
    ∀ (l : List α) (i : Nat), (l.modify i f).map g = l.map g
  | [], _ => by simp
  | a :: l, 0 => by simp [h]
  | a :: l, i + 1 => by simp [map_modify h l i]

/-- The outcome of a search for the best is an element searched, or the best so far. -/
theorem mem_of_foldl_best {α : Type} {f : Option α → α → Option α} (hf : ∀ b x, f b x = some x ∨ f b x = b)
    {w : α} : ∀ {l : List α} {b : Option α}, l.foldl f b = some w → w ∈ l ∨ b = some w
  | [], _, h => .inr h
  | x :: l, b, h => by
    rcases mem_of_foldl_best hf (l := l) h with h | h
    · exact .inl (.tail _ h)
    · rcases hf b x with hx | hx <;> rw [hx] at h
      · cases h; exact .inl (.head _)
      · exact .inr h

/-- A search for the best finds one as soon as there is something to search. -/
theorem isSome_foldl_best {α : Type} {f : Option α → α → Option α} (hf : ∀ b x, (f b x).isSome = true) :
    ∀ (l : List α) (b : Option α), (l.foldl f b).isSome = (b.isSome || !l.isEmpty)
  | [], b => by simp
  | x :: l, b => by rw [List.foldl_cons, isSome_foldl_best hf, hf]; simp

/-! ### Queues -/

/-- A queue that has lost placements is still in order and within its capacity. -/
theorem QueueOk.sublist {p q : List Placement} (h : QueueOk q) (hs : p.Sublist q) : QueueOk p :=
  ⟨hs.length_le.trans h.1, h.2.sublist hs⟩

/-- A change of placements that keeps their priorities keeps the order of a queue. -/
theorem QueueOk.map {q : List Placement} (h : QueueOk q) {f : Placement → Placement}
    (hf : ∀ p, (f p).priority = p.priority) : QueueOk (q.map f) :=
  ⟨by simpa using h.1, by simpa [List.pairwise_map, hf] using h.2⟩

/-- The placements of a queue after an insertion. -/
theorem mem_insertPlacement {next : Stamp} {p x : Placement} :
    ∀ {q : List Placement}, x ∈ insertPlacement next p q ↔ x = p ∨ x ∈ q
  | [] => by simp [insertPlacement]
  | a :: q => by
    simp only [insertPlacement]
    split
    · simp
    · simp only [List.mem_cons, mem_insertPlacement (q := q)]
      tauto

/-- An insertion makes a queue one longer. -/
theorem length_insertPlacement {next : Stamp} {p : Placement} :
    ∀ {q : List Placement}, (insertPlacement next p q).length = q.length + 1
  | [] => rfl
  | a :: q => by
    simp only [insertPlacement]
    split
    · rfl
    · simp [length_insertPlacement (q := q)]

/-- An insertion keeps the order by priority (R99). -/
theorem pairwise_insertPlacement {next : Stamp} {p : Placement} :
    ∀ {q : List Placement}, q.Pairwise (fun a b => b.priority ≤ a.priority) →
      (insertPlacement next p q).Pairwise (fun a b => b.priority ≤ a.priority)
  | [], _ => by simp [insertPlacement]
  | a :: q, h => by
    rw [List.pairwise_cons] at h
    simp only [insertPlacement]
    split
    · rename_i hb
      simp only [standsBehind, Bool.or_eq_true, Bool.and_eq_true, decide_eq_true_eq] at hb
      refine List.pairwise_cons.2 ⟨?_, List.pairwise_cons.2 h⟩
      intro b hb'
      rcases List.mem_cons.1 hb' with rfl | hb'
      · omega
      · have := h.1 b hb'; omega
    · rename_i hb
      refine List.pairwise_cons.2 ⟨?_, pairwise_insertPlacement h.2⟩
      intro b hb'
      rcases mem_insertPlacement.1 hb' with rfl | hb'
      · simp only [standsBehind, Bool.or_eq_true, Bool.and_eq_true, decide_eq_true_eq] at hb
        omega
      · exact h.1 b hb'

/-! ### The store -/

/-- A store that has lost slots is still sound. -/
theorem SlotsOk.sublist {p q : List Slot} (h : SlotsOk q) (hs : p.Sublist q) : SlotsOk p :=
  ⟨hs.length_le.trans h.capacity, h.ids.sublist (hs.map _), fun x hx => h.range x (hs.subset hx)⟩

/-- A change of slots that keeps their ids keeps the store sound. -/
theorem SlotsOk.map {q : List Slot} (h : SlotsOk q) {f : Slot → Slot} (hf : ∀ x, (f x).id = x.id) :
    SlotsOk (q.map f) :=
  ⟨by simpa using h.capacity, by simpa [Function.comp_def, hf] using h.ids,
    fun x hx => by
      obtain ⟨y, hy, rfl⟩ := List.mem_map.1 hx
      rw [hf]; exact h.range y hy⟩

/-! ### The relation -/

/-- What the work on announcements keeps beside `Plays`. -/
structure Settles (s t : State) : Prop extends Plays s t where
  supply : SupplyOk s.smc → SupplyOk t.smc
  slots : SlotsOk s.asc.slots → SlotsOk t.asc.slots
  queues : QueuesOk s → QueuesOk t

theorem Notified.trans {k l m : Lnk} (h : Notified k l) (g : Notified l m) : Notified k m := by
  induction g with
  | refl => exact h
  | notify day service n _ ih => exact .notify day service n ih

theorem Plays.rfl (s : State) : Plays s s := by constructor <;> first | rfl | exact ⟨Eq.refl _, Eq.refl _⟩ | exact .refl _

theorem Plays.trans {s t u : State} (h : Plays s t) (g : Plays t u) : Plays s u where
  pending := g.pending.trans h.pending
  resetLine := g.resetLine.trans h.resetLine
  pins := g.pins.trans h.pins
  clock := g.clock.trans h.clock
  ttu := g.ttu.trans h.ttu
  fiu := g.fiu.trans h.fiu
  directory := g.directory.trans h.directory
  templates := g.templates.trans h.templates
  composer := g.composer.trans h.composer
  zones := g.zones.trans h.zones
  groups := g.groups.trans h.groups
  ambient := ⟨g.ambient.1.trans h.ambient.1, g.ambient.2.trans h.ambient.2⟩
  sources := g.sources.trans h.sources
  channels := g.channels.trans h.channels
  gap := g.gap.trans h.gap
  warmUp := g.warmUp.trans h.warmUp
  lnk := h.lnk.trans g.lnk

theorem Settles.rfl (s : State) : Settles s s := { Plays.rfl s with supply := id, slots := id, queues := id }

theorem Settles.trans {s t u : State} (h : Settles s t) (g : Settles t u) : Settles s u where
  toPlays := h.toPlays.trans g.toPlays
  supply := g.supply ∘ h.supply
  slots := g.slots ∘ h.slots
  queues := g.queues ∘ h.queues

/-- A pass over a list settles when each of its steps does. -/
theorem forEach_settles {α : Type} {xs : List α} {f : α → State → State} (h : ∀ x s, Settles s (f x s)) (s : State) :
    Settles s (forEach xs f s) := by
  unfold forEach
  induction xs generalizing s with
  | nil => exact .rfl s
  | cons x xs ih => exact (h x s).trans (ih (f x s))

/-! ### The primitives -/

theorem generate_settles (n : Notice) (s : State) : Settles s (generate n s) :=
  { Plays.rfl s with
    lnk := .notify _ _ _ (.refl _), supply := id, slots := id, queues := id }

theorem modifyZone_settles {f : Zone → Zone} (hf : ∀ z, settings (f z) = settings z)
    (hq : ∀ z, QueueOk z.queue → QueueOk (f z).queue) (z : Nat) (s : State) : Settles s (s.modifyZone z f) :=
  { Plays.rfl s with
    zones := map_modify hf _ _, supply := id, slots := id
    queues := fun h x hx => by
      rcases mem_modify hx with hx | ⟨y, hy, rfl⟩
      · exact h x hx
      · exact hq y (h y hy) }

theorem modifySource_settles {f : Source → Source} (hf : ∀ e, standing (f e) = standing e) (n : Nat) (s : State) :
    Settles s (s.modifySource n f) :=
  { Plays.rfl s with sources := map_modify hf _ _, supply := id, slots := id, queues := id }

theorem setChannel_settles (c : Nat) (r : Option Run) (s : State) : Settles s (s.setChannel c r) :=
  { Plays.rfl s with channels := List.length_set, supply := id, slots := id, queues := id }

/-- A change of the slots that keeps the store sound settles. -/
theorem withSlots_settles {a : Asc} {s : State} (hd : a.directory = s.asc.directory)
    (ht : a.templates = s.asc.templates) (hc : a.composer = s.asc.composer)
    (hs : SlotsOk s.asc.slots → SlotsOk a.slots) : Settles s (s.withAsc a) :=
  { Plays.rfl s with directory := hd, templates := ht, composer := hc, supply := id, slots := hs, queues := id }

theorem withMode_settles {m : Mode} {p : Bool} (hp : SupplyOk s.smc → p = supplyIn m) :
    Settles s (s.withSmc { s.smc with mode := m, supply := p }) :=
  { Plays.rfl s with supply := hp, slots := id, queues := id }

/-! ### The router (Machine/Router.lean) -/

theorem judgeHold_settles (s : State) : Settles s (judgeHold s) := by
  unfold judgeHold
  split
  · rename_i hold hm
    have hs : SupplyOk s.smc → s.smc.supply = true := fun h => by
      unfold SupplyOk at h; rw [h, hm]; exact Eq.refl _
    split
    · split
      · exact .rfl s
      · exact withMode_settles (p := s.smc.supply) hs
    · exact withMode_settles (p := s.smc.supply) hs
  · exact .rfl s

theorem reportVoice_settles (n : Nat) (old : Voice) (full : Nat) (s : State) :
    Settles s (reportVoice n old full s) := by
  unfold reportVoice
  split
  · exact .rfl s
  · exact generate_settles _ s

theorem setVoice_settles (n : Nat) (v : Voice) (s : State) : Settles s (setVoice n v s) :=
  modifySource_settles (f := fun e => { e with voice := v }) (fun _ => Eq.refl _) n s

theorem silence_settles (n : Nat) (s : State) : Settles s (silence n s) :=
  (setVoice_settles n .silent s).trans (reportVoice_settles _ _ _ _)

theorem silenceVoices_settles (a : Nat) (s : State) : Settles s (silenceVoices a s) := by
  refine forEach_settles (fun n s => ?_) s
  split
  · exact silence_settles _ s
  · exact .rfl s

theorem removeSlot_settles (a : Nat) (s : State) : Settles s (removeSlot a s) :=
  withSlots_settles (Eq.refl _) (Eq.refl _) (Eq.refl _) (fun h => h.sublist List.filter_sublist)

theorem freeIfDone_settles (a : Nat) (s : State) : Settles s (freeIfDone a s) := by
  unfold freeIfDone
  split
  · exact (removeSlot_settles a s).trans (silenceVoices_settles a _)
  · exact .rfl s

theorem takePlacement_settles (z a : Nat) (s : State) : Settles s (takePlacement z a s) :=
  modifyZone_settles (f := fun zn => { zn with queue := zn.queue.filter (fun p => p.announcement != a) })
    (fun _ => Eq.refl _) (fun _ h => h.sublist List.filter_sublist) z s

theorem dropPlacement_settles (z : Nat) (reason : DropReason) (p : Placement) (s : State) :
    Settles s (dropPlacement z reason p s) :=
  (((takePlacement_settles z _ s).trans (generate_settles _ _)).trans (freeIfDone_settles _ _)).trans
    (judgeHold_settles _)

theorem dropWhere_settles (z : Nat) (reason : DropReason) (which : Placement → Bool) (s : State) :
    Settles s (dropWhere z reason which s) :=
  forEach_settles (fun p s => dropPlacement_settles z reason p s) s

theorem dropEverywhere_settles (a : Nat) (reason : DropReason) (s : State) : Settles s (dropEverywhere a reason s) :=
  forEach_settles (fun z s => dropWhere_settles z reason _ s) s

theorem makeRoom_settles (z p : Nat) (s : State) : Settles s (makeRoom z p s) := by
  unfold makeRoom
  split
  · exact .rfl s
  · split
    · exact dropPlacement_settles _ _ _ s
    · exact .rfl s

theorem advanceStamp_settles (s : State) : Settles s (advanceStamp s) :=
  { Plays.rfl s with supply := id, slots := id, queues := id }

/-! ### Room in a queue (R99, R100) -/

/-- A zone's record after a change at its own index. -/
theorem zone_modifyZone (z y : Nat) (f : Zone → Zone) (s : State) :
    (s.modifyZone z f).zone y = if y = z ∧ y < s.zrt.zones.length then f (s.zone y) else s.zone y := by
  simp only [State.zone, State.modifyZone, State.withZrt, List.getD_eq_getElem?_getD, List.getElem?_modify]
  by_cases hy : y < s.zrt.zones.length
  · rw [List.getElem?_eq_getElem hy]
    by_cases h : z = y <;> simp [h, hy, eq_comm]
  · rw [List.getElem?_eq_none (by omega)]
    simp [hy]

theorem judgeHold_zrt (s : State) : (judgeHold s).zrt = s.zrt := by
  unfold judgeHold
  split
  · split
    · split <;> rfl
    · rfl
  · rfl

theorem silence_zones (n : Nat) (s : State) : (silence n s).zrt.zones = s.zrt.zones := by
  unfold silence reportVoice
  split <;> rfl

theorem forEach_zones {α : Type} {f : α → State → State} (h : ∀ x s, (f x s).zrt.zones = s.zrt.zones) :
    ∀ (xs : List α) (s : State), (forEach xs f s).zrt.zones = s.zrt.zones
  | [], _ => rfl
  | x :: xs, s => (forEach_zones h xs (f x s)).trans (h x s)

theorem silenceVoices_zones (a : Nat) (s : State) : (silenceVoices a s).zrt.zones = s.zrt.zones := by
  unfold silenceVoices
  refine forEach_zones (fun n s => ?_) _ s
  split
  · exact silence_zones _ s
  · rfl

theorem freeIfDone_zones (a : Nat) (s : State) : (freeIfDone a s).zrt.zones = s.zrt.zones := by
  unfold freeIfDone
  split
  · rw [silenceVoices_zones]; rfl
  · rfl

/-- A drop takes the placement out of its queue and touches no other record (R105). -/
theorem dropPlacement_zones (z : Nat) (reason : DropReason) (p : Placement) (s : State) :
    (dropPlacement z reason p s).zrt.zones = (takePlacement z p.announcement s).zrt.zones := by
  unfold dropPlacement
  rw [judgeHold_zrt, freeIfDone_zones, generate_zrt]

theorem zone_of_zones {s t : State} (h : t.zrt.zones = s.zrt.zones) (z : Nat) : t.zone z = s.zone z := by
  simp only [State.zone, h]

/-- A victim is a placement of the queue, of lower priority than the newcomer (R100). -/
theorem queueVictim_mem {next : Stamp} {p : Nat} {q : List Placement} {v : Placement}
    (h : queueVictim next p q = some v) : v ∈ q ∧ v.priority < p := by
  rcases mem_of_foldl_best (fun b x => by cases b <;> simp only <;> (try split) <;> simp) h with h | h
  · rw [List.mem_filter] at h
    exact ⟨h.1, by simpa using h.2⟩
  · cases h

/-- Whether a queue has a victim does not depend on the order stamp counter (R100). -/
theorem queueVictim_isSome (next next' : Stamp) (p : Nat) (q : List Placement) :
    (queueVictim next p q).isSome = (queueVictim next' p q).isSome := by
  have hf : ∀ (n : Stamp) (b : Option Placement) (x : Placement), (match b with
      | none => some x
      | some b => if betterVictim n x b then some x else some b).isSome = true := fun n b x => by
    cases b <;> simp only <;> (try split) <;> rfl
  exact (isSome_foldl_best (hf next) _ none).trans (isSome_foldl_best (hf next') _ none).symm

/-- Room found is room made: the queue is short enough for the newcomer (R100). -/
theorem makeRoom_length {s : State} {z p : Nat} (hr : hasRoom s z p = true) (hq : QueueOk (s.zone z).queue) :
    ((makeRoom z p s).zone z).queue.length < Config.maxPlacements := by
  unfold makeRoom
  split
  · assumption
  · rename_i hfull
    simp only [hasRoom, Bool.or_eq_true, decide_eq_true_eq, hfull, false_or] at hr
    obtain ⟨v, hv⟩ := Option.isSome_iff_exists.1 hr
    rw [hv]
    simp only
    rw [zone_of_zones (dropPlacement_zones z .displaced v s), takePlacement, zone_modifyZone]
    have hmem := (queueVictim_mem hv).1
    have hlt : z < s.zrt.zones.length := by
      by_contra hz
      simp [State.zone, List.getD_eq_getElem?_getD, List.getElem?_eq_none (Nat.le_of_not_lt hz), coldZone] at hmem
    rw [if_pos ⟨rfl, hlt⟩]
    refine lt_of_lt_of_le ?_ hq.1
    exact List.length_filter_lt_length_iff_exists.2 ⟨v, hmem, by simp⟩

theorem QueuesOk.zone {s : State} (h : QueuesOk s) (z : Nat) : QueueOk (s.zone z).queue := by
  simp only [State.zone, List.getD_eq_getElem?_getD]
  by_cases hz : z < s.zrt.zones.length
  · rw [List.getElem?_eq_getElem hz]
    exact h _ (List.getElem_mem hz)
  · rw [List.getElem?_eq_none (by omega)]
    exact ⟨by decide, by simp [coldZone]⟩

/-- A placement enters a queue that has room for it (R99, R100). -/
theorem enterQueue_settles {z : Nat} {p : Placement} {s : State} (hr : hasRoom s z p.priority = true) :
    Settles s (enterQueue z p s) := by
  unfold enterQueue
  refine Settles.trans ?_ (judgeHold_settles _)
  have hm := makeRoom_settles z p.priority s
  refine { hm with
    zones := by
      rw [← hm.zones]
      refine map_modify (fun _ => ?_) _ z
      rfl
    supply := hm.supply
    slots := hm.slots
    queues := fun h x hx => ?_ }
  have hlen := makeRoom_length hr (h.zone z)
  have hok := hm.queues h
  obtain ⟨i, hi, rfl⟩ := List.getElem_of_mem hx
  simp only [State.modifyZone, State.withZrt, List.length_modify] at hi
  by_cases hz : z = i
  · subst hz
    have hzone : (makeRoom z p.priority s).zone z = (makeRoom z p.priority s).zrt.zones[z] := by
      simp [State.zone, List.getD_eq_getElem?_getD, List.getElem?_eq_getElem hi]
    have hz' := hok.zone z
    rw [hzone] at hz' hlen
    simp only [State.modifyZone, State.withZrt, List.getElem_modify_eq]
    exact ⟨by rw [length_insertPlacement]; exact hlen, pairwise_insertPlacement hz'.2⟩
  · simp only [State.modifyZone, State.withZrt, List.getElem_modify, if_neg hz]
    exact hok _ (List.getElem_mem _)

theorem enterNew_settles {z : Nat} {p : Placement} {s : State} (hr : hasRoom s z p.priority = true) :
    Settles s (enterNew z p s) := by
  refine (advanceStamp_settles s).trans (enterQueue_settles ?_)
  simp only [hasRoom] at hr ⊢
  rw [queueVictim_isSome _ s.zrt.stampCounter]
  exact hr

/-- A placement returned from a run is dropped, or enters a queue that has room for it (R101). -/
theorem returnReason_hasRoom {s : State} {z : Nat} {p : Placement} {r m : Bool} (h : returnReason s z p r m = none) :
    hasRoom s z p.priority = true := by
  unfold returnReason at h
  repeat (split at h; · cases h)
  simp_all

theorem takeRestored_settles (z : Nat) (p : Placement) (marked : Bool) (s : State) :
    Settles s (takeRestored z p marked s).2 := by
  unfold takeRestored
  split
  · exact generate_settles _ s
  · rename_i h
    exact enterQueue_settles (p := { p with condition := restoredCondition s z p, interrupted := 1 })
      (returnReason_hasRoom (p := p) h)

theorem takeRepeat_settles (z : Nat) (p : Placement) (left : Repeats) (notBefore : RunTime) (marked : Bool)
    (s : State) : Settles s (takeRepeat z p left notBefore marked s).2 := by
  unfold takeRepeat
  split
  · exact generate_settles _ s
  · rename_i h
    exact enterNew_settles (p := { p with condition := .resting notBefore, repeats := left })
      (returnReason_hasRoom (p := p) h)

/-! ### The station mode (Machine/Modes.lean) -/

theorem setMode_settles (m : Mode) (cause : ModeCause) (s : State) : Settles s (setMode m cause s) :=
  (withMode_settles (fun _ => rfl)).trans (generate_settles _ _)

theorem dropForNight_settles (s : State) : Settles s (dropForNight s) :=
  forEach_settles (fun z s => dropWhere_settles z .night _ s) s

theorem enterNight_settles (cause : ModeCause) (s : State) : Settles s (enterNight cause s) :=
  (dropForNight_settles s).trans (setMode_settles _ _ _)

theorem enterNightAlert_settles (cause : ModeCause) (s : State) : Settles s (enterNightAlert cause s) :=
  ((dropForNight_settles s).trans (setMode_settles _ _ _)).trans (judgeHold_settles _)

theorem windingTest_settles (s : State) : Settles s (windingTest s) := by
  unfold windingTest
  split
  · split
    · exact enterNight_settles _ s
    · exact enterNightAlert_settles _ s
  · exact .rfl s

theorem requestOpen_settles (cause : ModeCause) (s : State) : Settles s (requestOpen cause s) := by
  unfold requestOpen
  split
  · exact .rfl s
  · exact setMode_settles _ _ s
  · exact setMode_settles _ _ s
  · split
    · exact .rfl s
    · exact setMode_settles _ _ s
  · exact setMode_settles _ _ s

theorem requestNight_settles (cause : ModeCause) (s : State) : Settles s (requestNight cause s) := by
  unfold requestNight
  split
  · exact (setMode_settles _ _ s).trans (windingTest_settles _)
  · exact .rfl s
  · exact .rfl s
  · split
    · exact .rfl s
    · exact setMode_settles _ _ s
  · exact .rfl s

theorem wakeRequest_settles (input : Nat) (s : State) : Settles s (wakeRequest input s) := requestOpen_settles _ s

theorem emergencyEvent_settles (s : State) : Settles s (emergencyEvent s) := by
  unfold emergencyEvent
  split
  · exact .rfl s
  · exact .rfl s
  · exact setMode_settles _ _ s
  · exact setMode_settles _ _ s
  · exact .rfl s
  · exact judgeHold_settles s

theorem runEndReported_settles (s : State) : Settles s (runEndReported s) :=
  (judgeHold_settles s).trans (windingTest_settles _)

/-! ### A run in progress (Machine/Playout.lean) -/

theorem disposePlacement_settles (z : Nat) (a : Attached) (o : RunOutcome) (discard : Bool) (s : State) :
    Settles s (disposePlacement z a o discard s).2 := by
  unfold disposePlacement
  simp only
  split
  · exact takeRestored_settles _ _ _ s
  · split
    · exact .rfl s
    · exact takeRestored_settles _ _ _ s
  · split
    · exact takeRepeat_settles _ _ _ _ _ s
    · split
      · exact .rfl s
      · exact takeRepeat_settles _ _ _ _ _ s

theorem detachZone_settles (c z : Nat) (r : Run) (s : State) : Settles s (detachZone c z r s) :=
  (setChannel_settles c _ s).trans
    (modifyZone_settles (f := fun zn => { zn with pulseEnd := none }) (fun _ => rfl) (fun _ h => h) z _)

theorem recordLeft_settles (c : Nat) (e : Left) (s : State) : Settles s (recordLeft c e s) := by
  unfold recordLeft
  split
  · exact setChannel_settles _ _ s
  · exact .rfl s

theorem makeCoverage_settles (z a : Nat) (s : State) : Settles s (makeCoverage z a s) := by
  unfold makeCoverage
  split
  · rename_i hr
    exact (enterNew_settles (p := coveragePlacement a) hr).trans (emergencyEvent_settles _)
  · exact generate_settles _ s

theorem resumeCoverage_settles (z announcement : Nat) (a : Attached) (discard : Bool) (s : State) :
    Settles s (resumeCoverage z announcement a discard s) := by
  unfold resumeCoverage
  split
  · exact makeCoverage_settles _ _ s
  · exact .rfl s

theorem endPart_settles (c : Nat) (o : RunOutcome) (discard : Bool) (z : Nat) (s : State) :
    Settles s (endPart c o discard z s) := by
  unfold endPart
  split
  · exact .rfl s
  · split
    · exact .rfl s
    · exact (((detachZone_settles _ _ _ s).trans (disposePlacement_settles _ _ _ _ _)).trans
        (resumeCoverage_settles _ _ _ _ _)).trans (recordLeft_settles _ _ _)

theorem channelIdle_settles (c : Nat) (o : RunOutcome) (s : State) : Settles s (channelIdle c o s) := by
  unfold channelIdle
  split
  · exact .rfl s
  · exact (((setChannel_settles c none s).trans (freeIfDone_settles _ _)).trans
      (runEndReported_settles _)).trans (generate_settles _ _)

theorem idleIfEmpty_settles (c : Nat) (o : RunOutcome) (s : State) : Settles s (idleIfEmpty c o s) := by
  unfold idleIfEmpty
  split
  · split
    · exact channelIdle_settles _ _ s
    · exact .rfl s
  · exact .rfl s

theorem endRun_settles (c : Nat) (o : RunOutcome) (s : State) : Settles s (endRun c o s) :=
  (forEach_settles (fun z s => endPart_settles c o false z s) s).trans (channelIdle_settles _ _ _)

theorem markIn_settles (c : Nat) (cause : TruncateCause) (z : Nat) (s : State) : Settles s (markIn c cause z s) := by
  unfold markIn
  split
  · exact .rfl s
  · split
    · exact .rfl s
    · simp only
      split
      · exact setChannel_settles _ _ s
      · exact ((setChannel_settles _ _ s).trans (endPart_settles _ _ _ _ _)).trans (idleIfEmpty_settles _ _ _)

theorem markZone_settles (z : Nat) (cause : TruncateCause) (s : State) : Settles s (markZone z cause s) := by
  unfold markZone
  split
  · exact markIn_settles _ _ _ s
  · exact .rfl s

theorem markRuns_settles (a : Nat) (s : State) : Settles s (markRuns a s) :=
  forEach_settles (fun c s => forEach_settles (fun z s => markIn_settles c .withdrawal z s) s) s

theorem cutZone_settles (z : Nat) (cause : CutCause) (s : State) : Settles s (cutZone z cause s) := by
  unfold cutZone
  split
  · exact (endPart_settles _ _ _ _ s).trans (idleIfEmpty_settles _ _ _)
  · exact .rfl s

theorem seizeChannel_settles (c : Nat) (s : State) : Settles s (seizeChannel c s) := endRun_settles c .cut s

/-! ### Creation and withdrawal (Machine/Store.lean) -/

/-- A slot is available only if one is free or a victim can be displaced (R83). -/
theorem storeVictim_mem {s : State} {p : Nat} {v : Slot} (h : storeVictim s p = some v) :
    v ∈ s.asc.slots ∧ v.priority < p ∧ runCount s v.id = 0 := by
  rcases mem_of_foldl_best (fun b x => by cases b <;> simp only <;> (try split) <;> simp) h with h | h
  · rw [List.mem_filter] at h
    exact ⟨h.1, by simpa using h.2⟩
  · cases h

/-- Drops only take slots away (R84). -/
theorem judgeHold_asc (s : State) : (judgeHold s).asc = s.asc := by
  unfold judgeHold
  split
  · split
    · split <;> rfl
    · rfl
  · rfl

theorem silence_asc (n : Nat) (s : State) : (silence n s).asc = s.asc := by
  unfold silence reportVoice
  split <;> rfl

theorem forEach_asc {α : Type} {f : α → State → State} (h : ∀ x s, (f x s).asc = s.asc) :
    ∀ (xs : List α) (s : State), (forEach xs f s).asc = s.asc
  | [], _ => rfl
  | x :: xs, s => (forEach_asc h xs (f x s)).trans (h x s)

theorem forEach_slots {α : Type} {f : α → State → State} (h : ∀ x s, (f x s).asc.slots.Sublist s.asc.slots) :
    ∀ (xs : List α) (s : State), (forEach xs f s).asc.slots.Sublist s.asc.slots
  | [], _ => .refl _
  | x :: xs, s => (forEach_slots h xs (f x s)).trans (h x s)

theorem silenceVoices_asc (a : Nat) (s : State) : (silenceVoices a s).asc = s.asc := by
  unfold silenceVoices
  refine forEach_asc (fun n s => ?_) _ s
  split
  · exact silence_asc _ s
  · rfl

theorem freeIfDone_slots (a : Nat) (s : State) : (freeIfDone a s).asc.slots.Sublist s.asc.slots := by
  unfold freeIfDone
  split
  · rw [silenceVoices_asc]
    exact List.filter_sublist
  · exact .refl _

theorem dropPlacement_slots (z : Nat) (reason : DropReason) (p : Placement) (s : State) :
    (dropPlacement z reason p s).asc.slots.Sublist s.asc.slots := by
  unfold dropPlacement
  rw [judgeHold_asc]
  refine (freeIfDone_slots _ _).trans ?_
  rw [generate_asc]
  exact .refl _

theorem dropWhere_slots (z : Nat) (reason : DropReason) (which : Placement → Bool) (s : State) :
    (dropWhere z reason which s).asc.slots.Sublist s.asc.slots :=
  forEach_slots (fun p s => dropPlacement_slots z reason p s) _ s

theorem dropEverywhere_slots (a : Nat) (reason : DropReason) (s : State) :
    (dropEverywhere a reason s).asc.slots.Sublist s.asc.slots := by
  unfold dropEverywhere
  generalize allZones = zs
  exact forEach_slots (fun z s => dropWhere_slots z reason _ s) zs s

theorem makeSlot_settles (p : Nat) (s : State) : Settles s (makeSlot p s) := by
  unfold makeSlot
  split
  · exact .rfl s
  · split
    · exact (dropEverywhere_settles _ _ s).trans (removeSlot_settles _ _)
    · exact .rfl s

/-- A slot available is a slot made: the store has room for one more (R83). -/
theorem makeSlot_length {p : Nat} {s : State} (ha : slotAvailable s p = true)
    (hs : s.asc.slots.length ≤ Config.maxSlots) : (makeSlot p s).asc.slots.length < Config.maxSlots := by
  unfold makeSlot
  split
  · assumption
  · rename_i hfull
    simp only [slotAvailable, Bool.or_eq_true, decide_eq_true_eq, hfull, false_or] at ha
    obtain ⟨v, hv⟩ := Option.isSome_iff_exists.1 ha
    rw [hv]
    simp only [removeSlot, State.withAsc]
    refine lt_of_le_of_lt ((dropEverywhere_slots v.id .displaced s).filter _).length_le (lt_of_lt_of_le ?_ hs)
    exact List.length_filter_lt_length_iff_exists.2 ⟨v, (storeVictim_mem hv).1, by simp⟩

/-- A store that is not full leaves an id, 1 to 255, that no slot holds (R82). -/
theorem nextId_spec {s : State} (hs : s.asc.slots.length < 255) :
    (s.slot? (nextId s)).isNone = true ∧ 1 ≤ nextId s ∧ nextId s ≤ 255 := by
  set ids := (List.range 255).map (fun i => (s.asc.idCounter + i) % 255 + 1) with hids
  have hsome : (ids.find? (fun i => (s.slot? i).isNone)).isSome = true := by
    by_contra hnone
    rw [Bool.not_eq_true, Option.isSome_eq_false_iff, Option.isNone_iff_eq_none, List.find?_eq_none] at hnone
    have hnd : ids.Nodup := by
      rw [hids, List.nodup_map_iff_inj_on List.nodup_range]
      intro a ha b hb hab
      rw [List.mem_range] at ha hb
      omega
    have hsub : ids ⊆ s.asc.slots.map Slot.id := by
      intro i hi
      have := hnone i hi
      simp only [State.slot?, Option.isNone_iff_eq_none, List.find?_eq_none, not_forall, not_not] at this
      obtain ⟨x, hx, h⟩ := this
      exact List.mem_map.2 ⟨x, hx, by simpa using h⟩
    have := (List.subperm_of_subset hnd hsub).length_le
    simp [hids] at this
    omega
  obtain ⟨i, hi⟩ := Option.isSome_iff_exists.1 hsome
  have hn : nextId s = i := by
    unfold nextId
    rw [← hids, hi]; rfl
  rw [hn]
  refine ⟨List.find?_some (p := fun i => (s.slot? i).isNone) hi, ?_⟩
  obtain ⟨k, -, rfl⟩ := List.mem_map.1 (List.mem_of_find?_eq_some hi)
  omega

/-- A zone that is not refused has room (R97). -/
theorem refuseReason_hasRoom {s : State} {x : Slot} {z : Nat} (h : refuseReason s x z = none) :
    hasRoom s z x.priority = true := by
  unfold refuseReason at h
  simp only at h
  repeat (split at h; · cases h)
  simp_all

theorem placeIn_settles (x : Slot) (c : Counts) (s : State) (z : Nat) : Settles s (placeIn x (c, s) z).2 := by
  unfold placeIn
  simp only
  split
  · exact .rfl s
  · split
    · exact generate_settles _ s
    · rename_i h
      exact enterNew_settles (p := newPlacement s x z) (refuseReason_hasRoom h)

theorem placeAll_settles (x : Slot) (s : State) : Settles s (placeAll x s).2 := by
  unfold placeAll
  have key : ∀ (zs : List Nat) (c : Counts) (u : State), Settles u (zs.foldl (placeIn x) (c, u)).2 := by
    intro zs
    induction zs with
    | nil => intro c u; exact .rfl u
    | cons z zs ih =>
      intro c u
      exact (placeIn_settles x c u z).trans (ih _ _)
  exact key _ _ s

/-- A creation that finds a slot settles (R81). -/
theorem create_settles (proto : Slot) (s : State) : Settles s (create proto s).2 := by
  unfold create
  split
  · rename_i ha
    have hrec : Settles s (recordSlot proto (nextId (makeSlot proto.priority s)) (makeSlot proto.priority s)) :=
      { makeSlot_settles proto.priority s with
        slots := fun hs => by
          have hlt := makeSlot_length ha hs.capacity
          have hok := (makeSlot_settles proto.priority s).slots hs
          obtain ⟨hnew, hlo, hhi⟩ := nextId_spec (s := makeSlot proto.priority s) (hlt.trans (by decide))
          simp only [recordSlot, State.withAsc]
          refine ⟨by simp only [List.length_append, List.length_singleton]; omega, ?_, ?_⟩
          · rw [List.map_append, List.nodup_append]
            refine ⟨hok.ids, by simp, ?_⟩
            intro a ha' b hb hab
            simp only [List.map_cons, List.map_nil, List.mem_singleton] at hb
            obtain ⟨x, hx, rfl⟩ := List.mem_map.1 ha'
            simp only [State.slot?, Option.isNone_iff_eq_none, List.find?_eq_none] at hnew
            exact hnew x hx (by simp [hab, hb])
          · intro x hx
            rcases List.mem_append.1 hx with hx | hx
            · exact hok.range x hx
            · rw [List.mem_singleton] at hx
              subst hx
              exact ⟨hlo, hhi⟩ }
    simp only
    split
    · exact hrec.trans (placeAll_settles _ _)
    · exact (hrec.trans (placeAll_settles _ _)).trans (removeSlot_settles _ _)
  · exact .rfl s

theorem reportEmergency_settles (p : Nat) (r : Created) (s : State) : Settles s (reportEmergency p r s) := by
  unfold reportEmergency
  split
  · split
    · exact emergencyEvent_settles s
    · exact .rfl s
  · exact .rfl s

theorem modifySlot_settles {f : Slot → Slot} (hf : ∀ x, (f x).id = x.id) (a : Nat) (s : State) :
    Settles s (s.modifySlot a f) :=
  withSlots_settles rfl rfl rfl (fun h => h.map (fun x => by split <;> simp [hf]))

theorem withdrawAnnouncement_settles (a : Nat) (s : State) : Settles s (withdrawAnnouncement a s) := by
  unfold withdrawAnnouncement
  split
  · exact .rfl s
  · split
    · exact .rfl s
    · exact ((modifySlot_settles (f := fun x => { x with withdrawn := true }) (fun _ => Eq.refl _) a s).trans
        (dropEverywhere_settles _ _ _)).trans (markRuns_settles _ _)

theorem withdrawCall_settles (id : Nat) (s : State) : Settles s (withdrawCall id s) :=
  forEach_settles (fun a s => withdrawAnnouncement_settles a s) s

/-! ### The pass (Machine/Arbiter.lean) -/

theorem occupyChannel_settles (c : Nat) (r : Run) (s : State) : Settles s (occupyChannel c r s) :=
  { Plays.rfl s with channels := List.length_set, supply := id, slots := id, queues := id }

theorem beginPulse_settles (prio z : Nat) (ends : RunTime) (s : State) :
    Settles s (s.modifyZone z (beginPulse prio ends)) := by
  refine modifyZone_settles (fun zn => ?_) (fun zn h => ?_) z s
  · unfold beginPulse; split <;> rfl
  · unfold beginPulse; split <;> exact h

theorem startRun_settles (c : Nat) (x : Slot) (zs : List Nat) (seized : Option Nat) (s : State) :
    Settles s (startRun c x zs seized s) := by
  unfold startRun
  have h : Settles s (generate (startNotice c (newRun s x (resolve s x) (attachments s x.priority x.id zs)) seized)
      (judgeHold (occupyChannel c (newRun s x (resolve s x) (attachments s x.priority x.id zs))
        (forEach zs (fun z => takePlacement z x.id) s)))) :=
    (((forEach_settles (fun z s => takePlacement_settles z x.id s) s).trans
      (occupyChannel_settles _ _ _)).trans (judgeHold_settles _)).trans (generate_settles _ _)
  simp only
  split
  · exact h.trans (endRun_settles _ _ _)
  · exact h.trans (forEach_settles (fun z s => beginPulse_settles _ z _ s) _)

theorem startCandidate_settles {c : Nat} {p : Placement} {seized : Option Nat} {s t : State}
    (h : startCandidate c p seized s = some t) : Settles s t := by
  unfold startCandidate at h
  split at h
  · cases h; exact startRun_settles _ _ _ _ s
  · cases h

theorem startRound_settles {s t : State} (h : startRound s = some t) : Settles s t := by
  unfold startRound at h
  split at h
  · cases h
  · split at h
    · exact startCandidate_settles h
    · split at h
      · split at h
        · exact (seizeChannel_settles _ s).trans (startCandidate_settles h)
        · cases h
      · cases h

theorem passRound_settles {s t : State} (h : passRound s = some t) : Settles s t := by
  unfold passRound at h
  rcases Option.or_eq_some_iff.1 h with h | ⟨-, h⟩
  · simp only [seizureRound, Option.map_eq_some_iff] at h
    obtain ⟨z, -, rfl⟩ := h
    exact cutZone_settles z _ s
  · exact startRound_settles h

theorem passFor_settles : ∀ (n : Nat) (s : State), Settles s (passFor n s)
  | 0, s => .rfl s
  | n + 1, s => by
    unfold passFor
    split
    · rename_i t h
      exact (passRound_settles h).trans (passFor_settles n t)
    · exact .rfl s

/-- The arbiter's pass is work on announcements alone (R133). -/
theorem arbiterPass_settles (s : State) : Settles s (arbiterPass s) := passFor_settles Config.settleFuel s

/-! ### Voices and coverage placements (Machine/Evacuation.lean) -/

theorem createEvac_settles (n : Nat) (s : State) : Settles s (createEvac n s).2 :=
  (create_settles _ s).trans (setVoice_settles _ _ _)

theorem voiceAttempt_settles (n : Nat) (s : State) : Settles s (voiceAttempt n s) :=
  (((createEvac_settles n s).trans (arbiterPass_settles _)).trans (reportVoice_settles _ _ _ _)).trans
    (reportEmergency_settles _ _ _)

theorem placeCoverage_settles (n z : Nat) (s : State) : Settles s (placeCoverage n z s) := by
  unfold placeCoverage
  split
  · split
    · exact .rfl s
    · exact makeCoverage_settles _ _ s
  · exact voiceAttempt_settles _ s

theorem cutForEvacuation_settles (z : Nat) (s : State) : Settles s (cutForEvacuation z s) := by
  unfold cutForEvacuation
  split
  · split
    · exact cutZone_settles _ _ s
    · exact .rfl s
  · exact .rfl s

theorem withdrawShare_settles (n z : Nat) (s : State) : Settles s (withdrawShare n z s) := by
  unfold withdrawShare
  simp only
  split
  · split
    · exact (dropWhere_settles _ _ _ s).trans (markZone_settles _ _ _)
    · exact dropWhere_settles _ _ _ s
  · exact dropWhere_settles _ _ _ s

/-! ### What follows an event (Machine/Settle.lean) -/

theorem settleRound_settles {s t : State} (h : settleRound s = some t) : Settles s t := by
  unfold settleRound at h
  rcases Option.or_eq_some_iff.1 h with h | ⟨-, h⟩
  · simp only [coverageRound, Option.bind_eq_some_iff, Option.map_eq_some_iff] at h
    obtain ⟨z, -, n, -, rfl⟩ := h
    exact placeCoverage_settles n z s
  · rcases Option.or_eq_some_iff.1 h with h | ⟨-, h⟩
    · simp only [voiceRound, Option.map_eq_some_iff] at h
      obtain ⟨n, -, rfl⟩ := h
      exact voiceAttempt_settles n s
    · exact passRound_settles h

theorem settleFor_settles : ∀ (n : Nat) (s : State), Settles s (settleFor n s)
  | 0, s => .rfl s
  | n + 1, s => by
    unfold settleFor
    split
    · rename_i t h
      exact (settleRound_settles h).trans (settleFor_settles n t)
    · exact .rfl s

/-- What follows an event is work on announcements alone (R119, R120, R133). -/
theorem settle_settles (s : State) : Settles s (settle s) := settleFor_settles _ s

theorem createWhole_settles (proto : Slot) (s : State) : Settles s (createWhole proto s).2 :=
  ((create_settles _ s).trans (reportEmergency_settles _ _ _)).trans (settle_settles _)

end Sys2Proof.Machine
end

