-- ==== Sys2Proof/Laws/Coverage.lean ====
section
/-! SUPPORT. What each shared operation on base states, coverage and sources can do, said once (`Routes`):
the changes of coverage, activation and clearing, the changes of base state, the inputs' edges on zones. -/

namespace Sys2Proof.Machine

theorem configuration_settings (z : Zone) : configuration (settings z) = configuration z := rfl

/-- Work on announcements alone is work on zones too. -/
theorem Plays.routes {s t : State} (h : Plays s t) : Routes s t where
  pending := h.pending
  resetLine := h.resetLine
  pins := h.pins
  clock := h.clock
  ttu := h.ttu
  fiu := h.fiu
  directory := h.directory
  templates := h.templates
  composer := h.composer
  zones := by
    have := congrArg (List.map configuration) h.zones
    simpa [Function.comp_def, configuration_settings] using this
  groups := h.groups
  ambient := h.ambient
  sources := by simpa using congrArg List.length h.sources
  channels := h.channels
  gap := h.gap
  warmUp := h.warmUp
  lnk := h.lnk

theorem Routes.trans {s t u : State} (h : Routes s t) (g : Routes t u) : Routes s u where
  pending := g.pending.trans h.pending
  resetLine := g.resetLine.trans h.resetLine
  pins := g.pins.trans h.pins
  clock := g.clock.trans h.clock
  ttu := g.ttu.trans h.ttu
  fiu := g.fiu.trans h.fiu
  directory := g.directory.trans h.directory
  templates := g.templates.trans h.templates
  composer := g.composer.trans h.composer
  zones := g.zones.trans h.zones
  groups := g.groups.trans h.groups
  ambient := ⟨g.ambient.1.trans h.ambient.1, g.ambient.2.trans h.ambient.2⟩
  sources := g.sources.trans h.sources
  channels := g.channels.trans h.channels
  gap := g.gap.trans h.gap
  warmUp := g.warmUp.trans h.warmUp
  lnk := h.lnk.trans g.lnk

/-- What work on zones keeps beside `Routes`. -/
structure Reroutes (s t : State) : Prop extends Routes s t where
  supply : SupplyOk s.smc → SupplyOk t.smc
  slots : SlotsOk s.asc.slots → SlotsOk t.asc.slots
  queues : QueuesOk s → QueuesOk t

theorem Settles.reroutes {s t : State} (h : Settles s t) : Reroutes s t :=
  { h.toPlays.routes with supply := h.supply, slots := h.slots, queues := h.queues }

theorem Reroutes.rfl (s : State) : Reroutes s s := (Settles.rfl s).reroutes

theorem Reroutes.trans {s t u : State} (h : Reroutes s t) (g : Reroutes t u) : Reroutes s u where
  toRoutes := h.toRoutes.trans g.toRoutes
  supply := g.supply ∘ h.supply
  slots := g.slots ∘ h.slots
  queues := g.queues ∘ h.queues

/-- A pass over a list reroutes when each of its steps does. -/
theorem forEach_reroutes {α : Type} {xs : List α} {f : α → State → State} (h : ∀ x s, Reroutes s (f x s))
    (s : State) : Reroutes s (forEach xs f s) := by
  unfold forEach
  induction xs generalizing s with
  | nil => exact .rfl s
  | cons x xs ih => exact (h x s).trans (ih (f x s))

/-- A change of a zone's record that keeps its configuration and its queue's order. -/
theorem modifyZone_reroutes {f : Zone → Zone} (hf : ∀ z, configuration (f z) = configuration z)
    (hq : ∀ z, QueueOk z.queue → QueueOk (f z).queue) (z : Nat) (s : State) : Reroutes s (s.modifyZone z f) :=
  { Reroutes.rfl s with
    zones := map_modify hf _ _
    queues := fun h x hx => by
      rcases mem_modify hx with hx | ⟨y, hy, rfl⟩
      · exact h x hx
      · exact hq y (h y hy) }

theorem modifySource_reroutes (n : Nat) (f : Source → Source) (s : State) : Reroutes s (s.modifySource n f) :=
  { Reroutes.rfl s with sources := by simp [State.modifySource, State.withZrt] }

/-! ### Coverage -/

theorem setCovering_reroutes (z : Nat) (n : Option Nat) (s : State) : Reroutes s (setCovering z n s) :=
  modifyZone_reroutes (f := fun zn => { zn with covering := n }) (fun _ => rfl) (fun _ h => h) z s

theorem mapQueue_settles {g : Placement → Placement} (hg : ∀ p, (g p).priority = p.priority) (z : Nat) (s : State) :
    Settles s (s.modifyZone z (fun zn => { zn with queue := zn.queue.map g })) :=
  modifyZone_settles (f := fun zn => { zn with queue := zn.queue.map g }) (fun _ => rfl) (fun _ h => h.map hg) z s

theorem holdPlacement_priority (p : Placement) : (holdPlacement p).priority = p.priority := by
  unfold holdPlacement; split <;> rfl

theorem releasePlacement_priority (p : Placement) : (releasePlacement p).priority = p.priority := by
  unfold releasePlacement; split <;> rfl

theorem enterEvacuate_reroutes (z n : Nat) (before : Zone) (cause : ZoneCause) (place : Bool) (s : State) :
    Reroutes s (enterEvacuate z n before cause place s) := by
  unfold enterEvacuate
  simp only
  have h := ((((setCovering_reroutes z (some n) s).trans
    (generate_settles (zoneChange (setCovering z (some n) s) z before cause) _).reroutes).trans
    (cutForEvacuation_settles z _).reroutes).trans (mapQueue_settles holdPlacement_priority z _).reroutes)
  split
  · exact h.trans (placeCoverage_settles n z _).reroutes
  · exact h

theorem handOver_reroutes (z a b : Nat) (place : Bool) (s : State) : Reroutes s (handOver z a b place s) := by
  unfold handOver
  simp only
  have h := ((setCovering_reroutes z (some b) s).trans
    (generate_settles (zoneChange (setCovering z (some b) s) z (s.zone z) .evacuation) _).reroutes).trans
    (withdrawShare_settles a z _).reroutes
  split
  · exact h.trans (placeCoverage_settles b z _).reroutes
  · exact h

theorem leaveEvacuate_reroutes (z a : Nat) (s : State) : Reroutes s (leaveEvacuate z a s) := by
  unfold leaveEvacuate
  simp only
  have h := (((setCovering_reroutes z none s).trans
    (generate_settles (zoneChange (setCovering z none s) z (s.zone z) .evacuation) _).reroutes).trans
    (withdrawShare_settles a z _).reroutes).trans (mapQueue_settles releasePlacement_priority z _).reroutes
  split
  · exact h.trans (dropWhere_settles z .closed _ _).reroutes
  · exact h

theorem recomputeZone_reroutes (place : Bool) (z : Nat) (s : State) : Reroutes s (recomputeZone place z s) := by
  unfold recomputeZone
  split
  · exact .rfl s
  · exact enterEvacuate_reroutes _ _ _ _ _ s
  · split
    · exact .rfl s
    · exact handOver_reroutes _ _ _ _ s
  · exact leaveEvacuate_reroutes _ _ s

/-! ### Activation and clearing -/

theorem activateEntry_reroutes (n : Nat) (key : SourceKey) (latched : Bool) (s : State) :
    Reroutes s (activateEntry n key latched s) :=
  (modifySource_reroutes n _ s).trans (forEach_reroutes (fun z s => recomputeZone_reroutes false z s) _)

theorem activate_reroutes (n : Nat) (key : SourceKey) (latched : Bool) (s : State) :
    Reroutes s (activate n key latched s).2 :=
  (((((activateEntry_reroutes n key latched s).trans (createEvac_settles n _).reroutes).trans
    (settle_settles _).reroutes).trans (generate_settles _ _).reroutes).trans
    (emergencyEvent_settles _).reroutes).trans (settle_settles _).reroutes

theorem withdrawVoice_settles (v : Voice) (s : State) : Settles s (withdrawVoice v s) := by
  unfold withdrawVoice
  split
  · exact withdrawAnnouncement_settles _ s
  · exact .rfl s

theorem clearSource_reroutes (n : Nat) (s : State) : Reroutes s (clearSource n s) :=
  ((((((modifySource_reroutes n releasedEntry s).trans (withdrawVoice_settles _ _).reroutes).trans
    (forEach_reroutes (fun z s => recomputeZone_reroutes true z s) _)).trans
    (judgeHold_settles _).reroutes).trans (generate_settles _ _).reroutes)).trans (settle_settles _).reroutes

theorem panelActive_reroutes (key : SourceKey) (sense : Sense) (s : State) : Reroutes s (panelActive key sense s) := by
  unfold panelActive
  split
  · exact .rfl s
  · split
    · exact (generate_settles _ s).reroutes
    · exact activate_reroutes _ _ _ s

/-! ### Base states -/

theorem writeBase_reroutes (z : Nat) (b : Base) (s : State) : Reroutes s (writeBase z b s) :=
  modifyZone_reroutes (f := fun zn => { zn with base := b }) (fun _ => rfl) (fun _ h => h) z s

theorem closeZone_settles (z : Nat) (s : State) : Settles s (closeZone z s) := by
  unfold closeZone
  simp only
  split
  · split
    · exact (dropWhere_settles _ _ _ s).trans (markZone_settles _ _ _)
    · exact dropWhere_settles _ _ _ s
  · exact dropWhere_settles _ _ _ s

theorem isolateZone_settles (z : Nat) (s : State) : Settles s (isolateZone z s) :=
  (dropWhere_settles _ _ _ s).trans (cutZone_settles _ _ _)

theorem baseEffects_settles (z : Nat) (b : Base) (s : State) : Settles s (baseEffects z b s) := by
  unfold baseEffects
  split
  · exact .rfl s
  · exact closeZone_settles z s
  · exact isolateZone_settles z s

theorem changeBase_reroutes (z : Nat) (b : Base) (cause : ZoneCause) (s : State) :
    Reroutes s (changeBase z b cause s) := by
  unfold changeBase
  simp only
  split
  · exact (((writeBase_reroutes z _ s).trans (setCovering_reroutes z none _)).trans
      (baseEffects_settles z _ _).reroutes).trans (generate_settles _ _).reroutes
  · split
    · exact (writeBase_reroutes z _ s).trans (generate_settles _ _).reroutes
    · split
      · exact (writeBase_reroutes z _ s).trans (enterEvacuate_reroutes _ _ _ _ _ _)
      · exact ((writeBase_reroutes z _ s).trans (baseEffects_settles z _ _).reroutes).trans
          (generate_settles _ _).reroutes

theorem closureActive_reroutes (z : Nat) (s : State) : Reroutes s (closureActive z s) := by
  unfold closureActive
  split
  · exact changeBase_reroutes _ _ _ s
  · exact .rfl s

theorem closureInactive_reroutes (z : Nat) (sense : Sense) (s : State) : Reroutes s (closureInactive z sense s) := by
  unfold closureInactive
  split
  · exact changeBase_reroutes _ _ _ s
  · exact .rfl s

theorem invalidateZone_reroutes (z : Nat) (s : State) : Reroutes s (invalidateZone z s) := by
  unfold invalidateZone
  simp only
  have h := (dropWhere_settles z .groupInvalid (fun _ => true) s).trans (cutZone_settles z .groupInvalid _)
  split
  · exact (h.reroutes.trans (setCovering_reroutes z none _)).trans (generate_settles _ _).reroutes
  · exact h.reroutes

end Sys2Proof.Machine
end

