-- ==== Sys2Proof/Laws/Timetable.lean ====
section
/-! SUPPORT. What each shared operation of TTU can do, said once: put the old call table back, and what is
left is work on announcements alone (`Retimes`); the plans stay, and the table does not grow. -/

namespace Sys2Proof.Machine

/-- `t` is `s` after work on the call table and on announcements. -/
structure Retimes (s t : State) : Prop where
  rest : Settles s (t.withTtu s.ttu)
  plans : t.ttu.plans = s.ttu.plans
  calls : t.ttu.calls.length ≤ s.ttu.calls.length

/-- Work on announcements does not look at the call table. -/
theorem Settles.withTtu {s t : State} (h : Settles s t) (x : Ttu) : Settles (s.withTtu x) (t.withTtu x) :=
  { h with ttu := Eq.refl _ }

theorem Settles.retimes {s t : State} (h : Settles s t) : Retimes s t where
  rest := by rw [← h.ttu]; exact h
  plans := by rw [h.ttu]
  calls := by rw [h.ttu]

theorem Retimes.rfl (s : State) : Retimes s s := (Settles.rfl s).retimes

theorem Retimes.trans {s t u : State} (h : Retimes s t) (g : Retimes t u) : Retimes s u where
  rest := h.rest.trans (g.rest.withTtu s.ttu)
  plans := g.plans.trans h.plans
  calls := g.calls.trans h.calls

/-- A pass over a list retimes when each of its steps does. -/
theorem forEach_retimes {α : Type} {xs : List α} {f : α → State → State} (h : ∀ x s, Retimes s (f x s)) (s : State) :
    Retimes s (forEach xs f s) := by
  unfold forEach
  induction xs generalizing s with
  | nil => exact .rfl s
  | cons x xs ih => exact (h x s).trans (ih (f x s))

/-- A change of the calls that does not lengthen the table retimes. -/
theorem withCalls_retimes {cs : List Call} {s : State} (h : cs.length ≤ s.ttu.calls.length) :
    Retimes s (s.withTtu { s.ttu with calls := cs }) :=
  { rest := Settles.rfl s, plans := rfl, calls := h }

theorem modifyCall_retimes (id : Nat) (f : Call → Call) (s : State) : Retimes s (s.modifyCall id f) :=
  withCalls_retimes (by simp)

theorem generate_retimes (n : Notice) (s : State) : Retimes s (generate n s) := (generate_settles n s).retimes

theorem recomputeConflicts_retimes (z : Nat) (leaver : Option Nat) (s : State) :
    Retimes s (recomputeConflicts z leaver s) := by
  unfold recomputeConflicts
  exact (withCalls_retimes (by simp)).trans (forEach_retimes (fun n s => generate_retimes n s) _)

theorem arrive_retimes (c : Call) (t : Capture) (source : TimeSource) (cause : CallCause) (s : State) :
    Retimes s (arrive c t source cause s) :=
  (((modifyCall_retimes c.id (fun c =>
    { c with state := .atPlatform, aa := some { time := t.time, source := source, held := t.held } }) s).trans
    (modifyCall_retimes _ computeTimes _)).trans (recomputeConflicts_retimes _ _ _)).trans (generate_retimes _ _)

theorem depart_retimes (c : Call) (t : Capture) (source : TimeSource) (cause : CallCause) (s : State) :
    Retimes s (depart c t source cause s) :=
  ((modifyCall_retimes c.id (fun c =>
    { c with state := .complete, ad := some { time := t.time, source := source, held := t.held } }) s).trans
    (generate_retimes _ _)).trans (recomputeConflicts_retimes _ _ _)

theorem completions_retimes (s : State) : Retimes s (completions s) := by
  unfold completions
  refine forEach_retimes (fun c s => ?_) s
  exact ((modifyCall_retimes c.id (fun c => { c with state := .complete, unconfirmed := true }) s).trans
    (generate_retimes _ _)).trans (recomputeConflicts_retimes _ _ _)

theorem setMark_retimes (id i : Nat) (m : Mark) (s : State) : Retimes s (setMark id i m s) := modifyCall_retimes _ _ s

theorem reportDropped_retimes (id i : Nat) (r : Created) (s : State) : Retimes s (reportDropped id i r s) := by
  unfold reportDropped
  split
  · exact .rfl s
  · exact generate_retimes _ s
  · exact generate_retimes _ s

theorem fireCue_retimes (c : Call) (i : Nat) (q : Cue) (t : Int) (s : State) : Retimes s (fireCue c i q t s) := by
  unfold fireCue
  simp only
  split
  · exact (setMark_retimes _ _ _ s).trans (generate_retimes _ _)
  · exact (((setMark_retimes _ _ _ s).trans (createWhole_settles _ _).retimes).trans
      (reportDropped_retimes _ _ _ _)).trans (generate_retimes _ _)

theorem evaluateCue_retimes (id i : Nat) (s : State) : Retimes s (evaluateCue id i s) := by
  unfold evaluateCue
  split
  · exact .rfl s
  · split
    · exact .rfl s
    · split
      · split
        · exact .rfl s
        · simp only
          split
          · exact .rfl s
          · split
            · exact fireCue_retimes _ _ _ _ s
            · exact (setMark_retimes _ _ _ s).trans (generate_retimes _ _)
      · exact .rfl s

theorem evaluateCues_retimes (s : State) : Retimes s (evaluateCues s) :=
  forEach_retimes (fun id s => forEach_retimes (fun i s => evaluateCue_retimes id i s) s) s

theorem fireEventCue_retimes (id : Nat) (a : Anchor) (t i : Nat) (s : State) :
    Retimes s (fireEventCue id a t i s) := by
  unfold fireEventCue
  split
  · exact .rfl s
  · split
    · exact .rfl s
    · split
      · exact fireCue_retimes _ _ _ _ s
      · exact .rfl s

theorem fireEventCues_retimes (id : Nat) (a : Anchor) (t : Nat) (s : State) : Retimes s (fireEventCues id a t s) :=
  forEach_retimes (fun i s => fireEventCue_retimes id a t i s) s

theorem trainActive_retimes (z : Nat) (t : Capture) (input : Nat) (s : State) :
    Retimes s (trainActive z t input s) := by
  unfold trainActive
  split
  · exact generate_retimes _ s
  · split
    · exact arrive_retimes _ _ _ _ s
    · exact generate_retimes _ s

theorem trainInactive_retimes (z : Nat) (t : Capture) (input : Nat) (s : State) :
    Retimes s (trainInactive z t input s) := by
  unfold trainInactive
  split
  · exact depart_retimes _ _ _ _ s
  · exact generate_retimes _ s

theorem dispatchActive_retimes (z : Nat) (t : Capture) (input : Nat) (s : State) :
    Retimes s (dispatchActive z t input s) := by
  unfold dispatchActive
  split
  · exact generate_retimes _ s
  · split
    · exact fireEventCues_retimes _ _ _ s
    · exact generate_retimes _ s

/-! ### The requests on calls -/

theorem withdrawCall_retimes (id : Nat) (s : State) : Retimes s (withdrawCall id s) := (withdrawCall_settles id s).retimes

theorem removeCall_retimes (id : Nat) (s : State) : Retimes s (removeCall id s) :=
  withCalls_retimes (List.length_filter_le _ _)

theorem recomputeIfCurrent_retimes (c : Call) (s : State) : Retimes s (recomputeIfCurrent c s) := by
  unfold recomputeIfCurrent
  split
  · exact recomputeConflicts_retimes _ _ s
  · exact .rfl s

theorem length_insertCall (c : Call) : ∀ cs : List Call, (insertCall c cs).length = cs.length + 1
  | [] => rfl
  | x :: xs => by
    unfold insertCall
    split
    · rfl
    · simp [length_insertCall c xs]

/-- The removal of a call that the table holds makes room for one (R17). -/
theorem removeCall_length {s : State} {id : Nat} {c : Call} (h : s.call? id = some c) :
    (removeCall id s).ttu.calls.length < s.ttu.calls.length :=
  List.length_filter_lt_length_iff_exists.2 ⟨c, List.mem_of_find?_eq_some h, by
    have := List.find?_some h
    simpa using this⟩

theorem replaceCall_retimes {s : State} {id : Nat} {old c : Call} (h : s.call? id = some old) :
    Retimes s (replaceCall old c s) := by
  have hid : old.id = id := by simpa using List.find?_some h
  have h1 : Retimes s (enterCall c (removeCall old.id (withdrawCall old.id s))) := by
    have hw := withdrawCall_settles old.id s
    have hc : (withdrawCall old.id s).call? old.id = some old := by
      rw [hid] at hw ⊢
      simpa [State.call?, hw.ttu] using h
    refine (withdrawCall_retimes old.id s).trans ⟨Settles.rfl _, rfl, ?_⟩
    have := removeCall_length hc
    simp only [enterCall, State.withTtu, length_insertCall]
    omega
  unfold replaceCall
  simp only
  split
  · exact (h1.trans (recomputeConflicts_retimes _ _ _)).trans (settle_settles _).retimes
  · exact ((h1.trans (recomputeConflicts_retimes _ _ _)).trans (recomputeConflicts_retimes _ _ _)).trans
      (settle_settles _).retimes

theorem deleteFound_retimes (c : Call) (s : State) : Retimes s (deleteFound c s) := by
  unfold deleteFound
  simp only
  split
  · exact (((withdrawCall_retimes c.id s).trans (recomputeConflicts_retimes _ _ _)).trans
      (removeCall_retimes _ _)).trans (settle_settles _).retimes
  · exact ((withdrawCall_retimes c.id s).trans (removeCall_retimes _ _)).trans (settle_settles _).retimes

theorem delayFound_retimes (c : Call) (r : CallDelayReq) (s : State) : Retimes s (delayFound c r s) :=
  (modifyCall_retimes _ _ s).trans (recomputeIfCurrent_retimes _ _)

theorem changePlatform_retimes (c : Call) (z : Nat) (s : State) : Retimes s (changePlatform c z s) := by
  unfold changePlatform
  simp only
  have h := (withdrawCall_retimes c.id s).trans (modifyCall_retimes c.id (movedTo z) _)
  split
  · exact (((h.trans (recomputeConflicts_retimes _ _ _)).trans (recomputeConflicts_retimes _ _ _)).trans
      (fireEventCues_retimes _ _ _ _)).trans (settle_settles _).retimes
  · exact h.trans (settle_settles _).retimes

theorem cancelFound_retimes (c : Call) (s : State) : Retimes s (cancelFound c s) := by
  unfold cancelFound
  simp only
  have h := (((withdrawCall_retimes c.id s).trans
    (modifyCall_retimes c.id (fun c => { c with state := .cancelled }) _)).trans
    (generate_retimes (.callState c.id c.state .cancelled .cancelled none) _)).trans
    (recomputeConflicts_retimes c.zone none _)
  split
  · exact (h.trans (fireEventCues_retimes _ _ _ _)).trans (settle_settles _).retimes
  · exact h.trans (settle_settles _).retimes

/-! ### The rollover -/

theorem lapse_retimes (c : Call) (s : State) : Retimes s (lapse c s) := by
  unfold lapse
  exact (((modifyCall_retimes c.id (fun c => { c with state := .lapsed }) s).trans
    (withdrawCall_retimes c.id _)).trans (generate_retimes _ _)).trans (recomputeConflicts_retimes _ _ _)

theorem lapseAll_retimes (s : State) : Retimes s (lapseAll s) := by
  unfold lapseAll
  exact forEach_retimes lapse_retimes s

theorem purgeAll_retimes (s : State) : Retimes s (purgeAll s) := by
  unfold purgeAll
  exact forEach_retimes (fun id s => (withdrawCall_retimes id s).trans (removeCall_retimes id _)) s

theorem promoteAll_retimes (s : State) : Retimes s (promoteAll s) := withCalls_retimes (by simp)

theorem rolloverTable_retimes (s : State) : Retimes s (rolloverTable s) := by
  unfold rolloverTable
  generalize allZones = zs
  exact (((lapseAll_retimes s).trans (purgeAll_retimes _)).trans (promoteAll_retimes _)).trans
    (forEach_retimes (fun z s => recomputeConflicts_retimes z none s) _)

theorem secondTtu_retimes (rollover : Bool) (s : State) : Retimes s (secondTtu rollover s) := by
  unfold secondTtu
  refine (Retimes.trans ?_ (evaluateCues_retimes _)).trans (completions_retimes _) |>.trans (settle_settles _).retimes
  split
  · exact rolloverTable_retimes s
  · exact .rfl s

end Sys2Proof.Machine
end

