-- ==== Sys2Proof/Tests/Slice0.lean ====
section
/-! SUPPORT. Tests: well-formedness refusing an ill-formed term for each check, commands on small states
against the manual's own numbers, and for every statement with hypotheses states and operands that meet them. -/

open Sys2Proof Sys2Proof.Machine Sys2Proof.Claims

namespace Sys2Proof.Tests

/-! ### Small states -/

/-- The state a command leaves. -/
def after (s : State) (c : Instr) : State :=
  match exec c s with
  | .next t => t
  | _ => s

/-- A command is handed, in a state of which `P` is found to hold. -/
theorem given {c : Instr} {s : State} {P : State → Prop} [DecidablePred P]
    (h : (takeRequest c s).any (fun s0 => decide (P s0)) = true) : ∃ s0, Handed c s s0 ∧ P s0 := by
  cases e : takeRequest c s with
  | none => simp [e] at h
  | some s0 => exact ⟨s0, e, by simpa [e] using h⟩

/-- The part after cold reset. -/
abbrev cold : State := State.reset

/-- Zones 0 and 1, platforms at 0x100 and 0x101. -/
def platform (a : Address) : Zone := { coldZone with enabled := true, address := a, kind := .platform }

/-- By day: the clock runs at 50,000, group 1 is valid, two platforms and two phrases are set, mode OPEN. -/
def day : State :=
  { cold with
    clock := { coldClock with held := false, unset := false, service := 50000 }
    zrt := { coldZrt with groups := 2, zones := (coldZrt.zones.set 0 (platform 0x100)).set 1 (platform 0x101) }
    asc := { coldAsc with directory := [{ id := 1, duration := 10, location := 0 }, { id := 2, duration := 20, location := 0 }] }
    smc := { coldSmc with mode := .opn, supply := true } }

/-- `day` with zone 0 changed. -/
def dayZone (f : Zone → Zone) : State := day.modifyZone 0 f

/-- `day` with calls in its table. -/
def dayCalls (cs : List Call) : State := day.withTtu { coldTtu with calls := cs }

/-- A load of an ARRIVAL call at platform 0. -/
def load : CallLoadReq :=
  { id := 71, dayTag := 1, kind := 1, zone := 0, sa := 50000, sd := 0, oa := 60, dest := none, origin := none
    cls := none, plan := 15, calling := [] }

/-- The call it loads. -/
def call : Call := newCall .arrival .current load

/-- A TURN call at platform 0, timed as the worked turnaround of chapter 03. -/
def turn : Call :=
  newCall .turn .current { load with id := 7101, kind := 3, sa := 57600, sd := 58500, oa := 720 }

/-- A header for platforms 0 and 1. -/
def header : HeaderReq :=
  { priority := 3, address := 0x100, mask := 1, chime := none, repeats := 0, interval := 10, latestStart := none
    call := none }

/-- A PHRASE token. -/
def phrase (p : Nat) : RawToken := { code := 1, param := p }

/-- An announcement of phrase 1. -/
def announcement : AnnounceReq := { header := header, tokens := [phrase 1] }

/-- A slot of announcement 9. -/
def slot : Slot :=
  { id := 9, seq := 0, priority := 3, origin := .host 7, content := .tokens [.phrase 1], call := none, chime := none
    repeats := .count 0, interval := 10, latestStart := none, target := [{ address := 0x100, mask := 1 }]
    withdrawn := false }

/-- A placement of announcement 9. -/
def placement : Placement :=
  { announcement := 9, priority := 3, stamp := 0, condition := .waiting, repeats := .count 0, interrupted := 0 }

/-- A run of announcement 9 in zone 0, at the first of two phrases, its phrase ending now. -/
def run : Run :=
  { announcement := 9, priority := 3, seq := 0, start := 0
    phrases := [{ id := 1, duration := 10, location := 0 }, { id := 2, duration := 20, location := 0 }], position := 0
    phase := .phrase, phaseEnd := 0, skipped := 0, truncated := false
    zones := [{ zone := 0, gain := 0, mark := none, placement := placement }], left := [] }

/-- `day` with the slot and a run on channel 0. -/
def playing (r : Run) : State := (day.withAsc { day.asc with slots := [slot] }).setChannel 0 (some r)

/-- `day` with the slot and a placement of it in zone 0. -/
def queued (p : Placement) : State :=
  (day.withAsc { day.asc with slots := [slot] }).modifyZone 0 (fun z => { z with queue := [p] })

/-- `day` in mode `m`. -/
def inMode (m : Mode) : State := day.withSmc { day.smc with mode := m, supply := supplyIn m }

/-- `day` with its composer replaced. -/
def composing (c : Composer) : State := day.withAsc { day.asc with composer := c }

/-- An input of function `f`, ACTIVE_HIGH and LEVEL-sensed, at a level; its debounce to the other one is due. -/
def turning (f : InputFunction) (level : Bool) : Input :=
  { coldInput with
    polarity := .activeHigh, sense := .level, function := f, stable := level
    debounce := some { candidate := !level, samples := 5, due := true } }

/-- `s` with input 0 replaced. -/
def withInput (i : Input) (s : State) : State := s.withFiu { s.fiu with inputs := s.fiu.inputs.set 0 i, firstSample := false }

/-- A key of a HOST source for platforms 0 and 1. -/
def key : SourceKey := { kind := .host, target := { address := 0x100, mask := 1 }, template := 0, interval := 10 }

/-- An ACTIVE source of the key. -/
def active (k : SourceKey) : Source := { state := .active, key := k, latched := false, voice := .silent }

/-- `day` with its sources replaced from number 0 on. -/
def sourced (es : List Source) : State :=
  day.withZrt { day.zrt with sources := es ++ List.replicate (8 - es.length) coldSource }

/-- Source 0 covers platform 0. -/
def covered : State := (sourced [active key]).modifyZone 0 (fun z => { z with covering := some 0 })

/-- `covered` in mode `m`. -/
def coveredIn (m : Mode) : State := covered.withSmc { day.smc with mode := m, supply := supplyIn m }

/-- A request of a kind without a body, not yet answered. -/
def asked (kind : Nat) : Request := { kind := kind, tag := 7, body := [], answered := false }

/-- The entry of a notice that carries `lost`. -/
def entry (lost : Nat) : NoticeEntry := { day := 0, service := 0, lost := lost, notice := .clockEvent .held none }

/-- `cold` with a reply in transmission and a full outbox. -/
def flooded : State :=
  cold.withLnk { coldLnk with
    tx := some (.notice (entry 0)), outbox := entry 250 :: List.replicate 31 (entry 0), lost := 4 }

/-- A received byte without a framing error. -/
def good (b : Byte) : RxByte := { value := b, framingError := false }

/-! ### Well-formedness: each check refuses an ill-formed term -/

theorem test_wf_unknownKind : wellFormed (.unknownKind 7 0) = false ∧ wellFormed (.unknownKind 7 0x80) = false ∧
    wellFormed (.unknownKind 7 0x01) = false := by decide
theorem test_wf_linkConfig : wellFormed (.linkConfig 7 (.fields { n := 256, k := 0 })) = false ∧
    wellFormed (.linkConfig 7 (.fields { n := 0, k := 256 })) = false := by decide
theorem test_wf_clockSet : wellFormed (.clockSet 7 (.fields 4294967296)) = false := by decide
theorem test_wf_dayConfig :
    wellFormed (.dayConfig 7 (.fields { offset := 0, nightStart := some 0xFFFFFFFF, openTime := none, matchWindow := 60 })) = false ∧
    wellFormed (.dayConfig 7 (.fields { offset := 0, nightStart := none, openTime := none, matchWindow := 65536 })) = false := by
  decide
theorem test_wf_callLoad : wellFormed (.callLoad 7 (.fields { load with zone := 256 })) = false ∧
    wellFormed (.callLoad 7 (.fields { load with dest := some 0xFFFF })) = false ∧
    wellFormed (.callLoad 7 (.fields { load with calling := List.replicate 113 0 })) = false ∧
    wellFormed (.callLoad 7 (.fields { load with calling := [65536] })) = false := by decide
theorem test_wf_calls : wellFormed (.callDelete 7 (.fields 65536)) = false ∧
    wellFormed (.callDelay 7 (.fields { id := 1, arrival := some 2147483648, departure := none })) = false ∧
    wellFormed (.callPlatform 7 (.fields { id := 1, zone := 256 })) = false ∧
    wellFormed (.callCancel 7 (.fields 65536)) = false ∧
    wellFormed (.callReport 7 (.fields { id := 1, stage := 256, time := 0 })) = false ∧
    wellFormed (.callRead 7 (.fields 65536)) = false ∧ wellFormed (.callList 7 (.fields 65536)) = false := by decide
/-- A cue within its ranges. -/
def cue : RawCue :=
  { anchor := 5, offset := 9000, template := 63, priority := 7, targetKind := 1, address := 0, mask := 0, repeats := 0
    interval := 10, expiry := 30, late := 600 }
theorem test_wf_planSet : wellFormed (.planSet 7 (.fields { plan := 256, threshold := 60, cues := [] })) = false ∧
    wellFormed (.planSet 7 (.fields { plan := 0, threshold := 60, cues := List.replicate 15 cue })) = false ∧
    wellFormed (.planSet 7 (.fields { plan := 0, threshold := 60, cues := [{ cue with offset := 32768 }] })) = false ∧
    wellFormed (.planSet 7 (.fields { plan := 0, threshold := 60, cues := [{ cue with address := 4096 }] })) = false := by
  decide
/-- An INPUT_CONFIG within its ranges. -/
def inputConfig : InputConfigReq :=
  { input := 31, polarity := 1, sense := 2, debounce := 55, function := .general, notice := true, wake := false }
theorem test_wf_inputs : wellFormed (.inputConfig 7 (.fields { inputConfig with debounce := 65536 })) = false ∧
    wellFormed (.inputConfig 7 (.fields { inputConfig with function := .trainDetect 256 })) = false ∧
    wellFormed (.inputConfig 7 (.fields { inputConfig with function := .unknown 5 })) = false ∧
    wellFormed (.inputRead 7 (.fields (some 255))) = false := by decide
theorem test_wf_phrases : wellFormed (.phraseSet 7 (.fields [{ id := 1, duration := 65536, location := 0 }])) = false ∧
    wellFormed (.phraseSet 7 (.fields (List.replicate 31 { id := 1, duration := 1, location := 0 }))) = false ∧
    wellFormed (.templateSet 7 (.fields { template := 0, tokens := List.replicate 83 (phrase 1) })) = false ∧
    wellFormed (.templateSet 7 (.fields { template := 0, tokens := [phrase 65536] })) = false := by decide
theorem test_wf_announce :
    wellFormed (.announce 7 (.fields { announcement with header := { header with latestStart := some 0x7FFFFFFF } })) = false ∧
    wellFormed (.announce 7 (.fields { announcement with header := { header with call := some 0 } })) = false ∧
    wellFormed (.announce 7 (.fields { announcement with header := { header with chime := some 0xFFFF } })) = false ∧
    wellFormed (.announce 7 (.fields { announcement with tokens := List.replicate 78 (phrase 1) })) = false := by decide
theorem test_wf_store : wellFormed (.composePart 7 (.fields (List.replicate 83 (phrase 1)))) = false ∧
    wellFormed (.composeEnd 7 (.fields { header with priority := 256 })) = false ∧
    wellFormed (.withdraw 7 (.fields 256)) = false ∧
    wellFormed (.storeRead 7 (.fields { selector := 256, value := 0 })) = false := by decide
/-- A ZONE_CONFIG within its ranges. -/
def zoneConfig : ZoneConfigReq :=
  { zone := 39, enabled := true, address := 0x100, kind := 1, name := none, g0 := -24, gmin := -120, gmax := 0, nref := 60
    slope := 8, lampMode := 1, lampThreshold := 7 }
theorem test_wf_zones : wellFormed (.zoneConfig 7 (.fields { zoneConfig with g0 := 128 })) = false ∧
    wellFormed (.zoneConfig 7 (.fields { zoneConfig with gmin := -129 })) = false ∧
    wellFormed (.zoneState 7 (.fields { zone := 0, state := 256 })) = false ∧
    wellFormed (.zoneRead 7 (.fields (some 255))) = false ∧
    wellFormed (.evacStart 7 (.fields { address := 65536, mask := 0, template := 0, interval := 10 })) = false ∧
    wellFormed (.evacClear 7 (.fields 256)) = false := by decide
theorem test_wf_playout : wellFormed (.playoutConfig 7 (.fields 256)) = false ∧
    wellFormed (.channelRead 7 (.fields { channel := some 0, sectionCode := 1, start := 1 })) = false ∧
    wellFormed (.modeSet 7 (.fields { mode := 1, warmUp := 256 })) = false := by decide
theorem test_wf_events : wellFormed (.debounceExpiry 32) = false ∧ wellFormed (.restEnd 40 1) = false ∧
    wellFormed (.restEnd 0 0) = false ∧ wellFormed (.ambientSample []) = false ∧
    wellFormed (.phraseCompletion 8) = false ∧ wellFormed (.gapEnd 8) = false ∧ wellFormed (.lampPulseEnd 40) = false := by
  decide
/-- An event of run time that comes with a second names what the part has. -/
theorem test_wf_timed :
    let second (e : TimedEvent) : Bool := wellFormed (.secondOfStationTime { early := [e], blocks := .ttuZrtSmc })
    second (.phraseEnd 8) = false ∧ second (.gapEnd 8) = false ∧ second (.restEnd 40 1) = false ∧
    second (.restEnd 0 256) = false ∧ second (.pulseEnd 40) = false ∧ second (.sample []) = false ∧
    second (.phraseEnd 7) = true ∧ second .warmUpEnd = true := by decide

/-! ### The link -/

/-- 10, "Frames": LEN 2, KIND 0x01 and TAG 0x17 have CHECK 230. -/
theorem test_identify_frame :
    frameBytes 0x01 0x17 [] = [0xA5, 2, 1, 0x17, 230] ∧ requestOf (.identify 0x17 (.fields ())) =
      some { kind := 1, tag := 0x17, body := [], answered := false } := by decide
theorem test_frame_received :
    (after cold (.frameReceived ([0xA5, 2, 1, 0x17, 230].map good))).lnk.queue = [{ asked 1 with tag := 0x17 }] := by decide
theorem test_frame_bad_check :
    ((after cold (.frameReceived ([0xA5, 2, 1, 0x17, 231].map good))).lnk.tx =
      some (.notice { day := 0, service := 0, lost := 0, notice := .linkFault .check 1 0x17 })) := by decide
theorem test_timeout :
    (after (cold.withLnk { coldLnk with receiver := .inFrame [2] }) .interByteTimeout).lnk.receiver = .hunting := by decide
/-- 10, R165: kind 0x7E is unknown, refusal code 2. -/
theorem test_unknownKind : (after cold (.unknownKind 7 0x7E)).lnk.tx.map txBytes =
    some (frameBytes 0xFE 7 [2, 0]) := by decide
/-- 10, R164: family 0x5A, part 416, revision 3. -/
theorem test_identify : (after cold (.identify 7 (.fields ()))).lnk.tx.map (fun f => (txBytes f).take 10) =
    some [0xA5, 34, 0x81, 7, 0, 0, 0x5A, 0x01, 0xA0, 3] := by decide
theorem test_statusRead : (after day (.statusRead 7 (.fields ()))).lnk.tx.map (fun f => (txBytes f).take 8) =
    some [0xA5, 33, 0x82, 7, 0, 0, 1, 0] := by decide
theorem test_restart :
    (after (after cold (.restart 7 (.fields ()))) .frameTransmitted).lnk.tx = some (.notice
      { day := 0, service := 0, lost := 0, notice := .restarted .restartRequest }) := by decide
theorem test_linkConfig :
    (after (after cold (.linkConfig 7 (.fields { n := 0, k := 0 }))) .frameTransmitted).lnk.n = 0 := by decide
/-- 10, "The line": n 0 and k 0 give 921,600 bit/s. -/
theorem test_lineRate : lineRate 0 0 = 921600 := by decide
theorem test_noticeMask : (after cold (.noticeMask 7 (.fields 0))).lnk.mask = 1 := by decide
theorem test_powerOn : (after day .powerOn).smc.mode = .night ∧ (after day .powerOn).lnk.tx.isSome = true := by decide
theorem test_resetAssert : (after flooded .resetAssert).lnk.tx = none := by decide
theorem test_resetRelease : (after (queued placement) .resetRelease).asc.slots = [] ∧
    (after (queued placement) .resetRelease).smc.mode = .opn := by decide

/-! ### The clock -/

theorem test_clockHold : (after day (.clockHold 7 (.fields ()))).clock.held = true := by decide
theorem test_clockSet : (after cold (.clockSet 7 (.fields 86399))).clock.service = 86399 ∧
    (after cold (.clockSet 7 (.fields 86400))).clock.unset = true := by decide
theorem test_clockRelease : (after cold (.clockRelease 7 (.fields ()))).clock.held = true ∧
    (after (cold.withClock { coldClock with unset := false }) (.clockRelease 7 (.fields ()))).clock.held = false := by decide
theorem test_clockRead : (after day (.clockRead 7 (.fields ()))).lnk.tx.map (fun f => ((txBytes f).drop 6).take 4) =
    some [0, 0, 0xC3, 0x50] := by decide
theorem test_dayConfig : (after cold (.dayConfig 7 (.fields
    { offset := 0, nightStart := some 1, openTime := none, matchWindow := 59 }))).clock.matchWindow = 60 := by decide
/-- 01, R9: the second after 86,399 is 0 of the next day. -/
theorem test_second :
    let t := after (day.withClock { day.clock with service := 86399, prescaler := 9 }) (.secondOfStationTime { early := [], blocks := .zrtSmcTtu })
    t.clock.service = 0 ∧ t.clock.day = 1 := by decide +kernel
theorem test_tenth : (after day .tenthOfRunTime).clock.prescaler = 1 ∧ (after cold .tenthOfRunTime).clock.prescaler = 0 := by
  decide +kernel
/-- 01, R2: the tenth that would make the prescaler 10 makes it 0 and the second of station time follows at it. -/
theorem test_tenthSecond :
    let t := after (day.withClock { day.clock with prescaler := 9 }) .tenthOfRunTime
    t.clock.prescaler = 0 ∧ t.clock.service = 50001 ∧ t.clock.runTime = 1 := by decide +kernel

/-! ### The call table -/

theorem test_callLoad : (after day (.callLoad 7 (.fields load))).ttu.calls = [call] := by decide
theorem test_callDelete : (after (dayCalls [call]) (.callDelete 7 (.fields 71))).ttu.calls = [] := by decide
/-- 03, the worked turnaround: +540 makes EA 58,140 and ED 58,860. -/
theorem test_callDelay :
    (after (dayCalls [turn]) (.callDelay 7 (.fields { id := 7101, arrival := some 540, departure := none }))).ttu.calls.map
      (fun c => (c.ea, c.ed)) = [(some 58140, some 58860)] := by decide
theorem test_callPlatform :
    (after (dayCalls [call]) (.callPlatform 7 (.fields { id := 71, zone := 1 }))).ttu.calls.map
      (fun c => (c.zone, c.previous, c.changed)) = [(1, some 0, true)] := by decide
theorem test_callCancel : (after (dayCalls [call]) (.callCancel 7 (.fields 71))).ttu.calls.map Call.state = [.cancelled] := by
  decide
/-- 03, the worked turnaround: AA 58,230 makes Da 630 and ED 58,950. -/
theorem test_callReport :
    (after (dayCalls [turn]) (.callReport 7 (.fields { id := 7101, stage := 1, time := 58230 }))).ttu.calls.map
      (fun c => (c.state, c.da, c.ed)) = [(.atPlatform, 630, some 58950)] := by decide
theorem test_callRead : (after (dayCalls [call]) (.callRead 7 (.fields 71))).lnk.tx.map (fun f => ((txBytes f).drop 6).take 5) =
    some [0, 0, 0, 71, 1] := by decide
theorem test_callList : (after (dayCalls [call]) (.callList 7 (.fields 0))).lnk.tx.map (fun f => ((txBytes f).drop 6).take 4) =
    some [0, 1, 0, 71] := by decide
theorem test_planSet :
    (after day (.planSet 7 (.fields { plan := 15, threshold := 0, cues := [cue] }))).ttu.plans[15]?.map
      (fun p => (p.threshold, p.cues.map (fun q => (q.offset, q.priority)))) = some (60, [(0, 5)]) := by decide
/-- 03, R37: 89 s is one minute, 90 s two, 5,430 s "1, hours, 31, minutes". -/
theorem test_sayDelay : sayDelay 89 = [1, 100] ∧ sayDelay 90 = [2, 100] ∧ sayDelay 5430 = [1, 101, 31, 100] := by decide
/-- 03, R38: offset 10,800 and t 100,799 give "7, on-the-hour". -/
theorem test_sayTime : sayTime 100799 10800 = [7, 102] := by decide

/-! ### The inputs -/

theorem test_inputConfig :
    (after day (.inputConfig 7 (.fields inputConfig))).fiu.inputs[31]?.map (fun i => (i.debounceMs, i.pending)) = some (60, true) := by
  decide
theorem test_inputRead : (after day (.inputRead 7 (.fields (some 0)))).lnk.tx.map (fun f => ((txBytes f).drop 6).take 5) =
    some [2, 1, 0, 50, 1] := by decide
theorem test_inputClear :
    (after (withInput { coldInput with pending := true } day) (.inputClear 7 (.fields 1))).fiu.inputs[0]?.map Input.pending = some false := by
  decide
theorem test_inputSampling : (after day (.inputSampling 0)).fiu.inputs[0]?.map Input.stable = some false ∧
    (after (withInput coldInput day) (.inputSampling 0)).fiu.inputs[0]?.map (fun i => i.debounce.isSome) = some true := by decide +kernel
theorem test_debounceExpiry :
    (after (withInput (turning (.trainDetect 0) false) (dayCalls [call])) (.debounceExpiry 0)).ttu.calls.map Call.state =
      [.atPlatform] := by decide

/-! ### The store -/

theorem test_phraseSet :
    (after day (.phraseSet 7 (.fields [{ id := 1, duration := 0, location := 0 }, { id := 3, duration := 601, location := 0 }]))).asc.directory.map
      (fun p => (p.id, p.duration)) = [(2, 20), (3, 600)] := by decide
theorem test_templateSet :
    (after day (.templateSet 7 (.fields { template := 63, tokens := [{ code := 0x02, param := 100 }] }))).asc.templates[63]? =
      some [.number 99] := by decide
theorem test_announce : (runs (after day (.announce 7 (.fields announcement)))).map (fun r => r.zones.map Attached.zone) = [[0, 1]] := by
  decide
theorem test_composeBegin : (after day (.composeBegin 7 (.fields false))).asc.composer = .filling [] := by decide
theorem test_composePart :
    (after (composing (.filling [])) (.composePart 7 (.fields [phrase 1]))).asc.composer = .closed [.phrase 1] := by decide
theorem test_composeEnd :
    (after (composing (.closed [.phrase 1])) (.composeEnd 7 (.fields header))).asc.composer =
      .checking [.phrase 1] (storeHeader header) 7 0 := by decide
theorem test_composeCheckCompletion :
    (runs (after (composing (.checking [.phrase 1] (storeHeader header) 7 0)) .composeCheckCompletion)).length = 1 := by decide
theorem test_withdraw : (after (queued placement) (.withdraw 7 (.fields 9))).asc.slots = [] := by decide +kernel
theorem test_storeRead :
    (after (queued placement) (.storeRead 7 (.fields { selector := 2, value := 9 }))).lnk.tx.map (fun f => ((txBytes f).drop 6).take 2) =
      some [9, 3] := by decide

/-! ### The zones and the sources -/

theorem test_zoneConfig : (after day (.zoneConfig 7 (.fields zoneConfig))).zrt.zones[39]?.map Zone.address = some 0x100 := by decide
theorem test_groupSet :
    (after (queued placement) (.groupSet 7 (.fields { select := 2, value := 0 }))).zrt.zones[0]?.map Zone.queue = some [] := by decide
theorem test_zoneState :
    (after (queued placement) (.zoneState 7 (.fields { zone := 0, state := 3 }))).zrt.zones[0]?.map (fun z => (z.base, z.queue)) =
      some (.isolated, []) := by decide
theorem test_zoneRead : (after day (.zoneRead 7 (.fields (some 0)))).lnk.tx.map (fun f => ((txBytes f).drop 6).take 4) =
    some [1, 1, 0, 1] := by decide
theorem test_evacStart :
    let t := after day (.evacStart 7 (.fields { address := 0x100, mask := 1, template := 0, interval := 10 }))
    (t.zone 0).covering = some 0 ∧ (t.zone 1).covering = some 0 := by decide
theorem test_evacClear : ((after covered (.evacClear 7 (.fields 0))).zone 0).covering = none := by decide
/-- 06, "Address decoding": 0x104 / 0x003 reaches 0x104 to 0x107. -/
theorem test_matches : matchesPair 0x107 { address := 0x104, mask := 3 } = true ∧
    matchesPair 0x108 { address := 0x104, mask := 3 } = false := by decide

/-! ### Playout, modes and the events of run time -/

theorem test_playoutConfig : (after day (.playoutConfig 7 (.fields 10))).ple.gap = 9 := by decide
theorem test_channelRead :
    (after (playing run) (.channelRead 7 (.fields { channel := some 0, sectionCode := 1, start := 0 }))).lnk.tx.map
      (fun f => ((txBytes f).drop 6).take 4) = some [0, 2, 9, 3] := by decide
/-- 11, R169: the HEAD of an IDLE channel is as long as that of a channel in PLAYING. -/
theorem test_headLength : (headSection 0 none).length = 24 ∧ (headSection 0 (some run)).length = 24 := by decide
/-- 06, R97 with 07, R120: the run start of a creation comes before the report of the voice that made it. -/
theorem test_voiceOrder :
    let s := covered.withAsc { covered.asc with templates := [[.phrase 1]] }
    let t := after s (.zoneState 7 (.fields { zone := 39, state := 2 }))
    (t.source 0).voice = .voiced 1 ∧ t.lnk.outbox.map (fun e => noticeType e.notice) = [0x50, 0x60] := by decide +kernel
theorem test_phraseCompletion :
    ((after (playing run) (.phraseCompletion 0)).channel 0).map (fun r => (r.phase, r.phaseEnd)) = some (.gap, 3) := by decide
theorem test_gapEnd :
    ((after (playing { run with phase := .gap }) (.gapEnd 0)).channel 0).map (fun r => (r.position, r.phaseEnd)) = some (1, 20) := by
  decide
theorem test_lampPulseEnd :
    ((after (dayZone (fun z => { z with pulseEnd := some 0 })) (.lampPulseEnd 0)).zone 0).pulseEnd = none := by decide
theorem test_restEnd :
    (runs (after (queued { placement with condition := .resting 0 }) (.restEnd 0 9))).length = 1 := by decide +kernel
theorem test_ambientSample :
    ((after (day.withZrt { day.zrt with ambientDue := true }) (.ambientSample (List.replicate 40 121))).zone 0).window = [120] := by
  decide +kernel
/-- 08, "Worked case: three concourses joining one run". -/
theorem test_gains :
    let z := { coldZone with g0 := -24, gmin := -120, gmax := -4, nref := 60, slope := 6, window := [70, 72, 71, 69, 75, 74, 73, 72] }
    joinGain z 4 = -6 ∧ joinGain { z with slope := 8 } 4 = -4 ∧ joinGain { z with window := [58, 61, 63, 59, 60] } 4 = -24 ∧
      joinGain z 6 = -4 := by decide
/-- 09, R152: NONE answers mode, target, setting and the alert hold. -/
theorem test_modeSetNone :
    (after (inMode (.nightAlert (some 0))) (.modeSet 7 (.fields { mode := 0, warmUp := 1 }))).lnk.tx.map (fun f => ((txBytes f).drop 6).take 5) =
      some [5, 0, 0, 1, 1] := by decide
theorem test_modeSet : (after cold (.modeSet 7 (.fields { mode := 1, warmUp := 1 }))).smc = { mode := .warming .opn 10, warmUp := 1, supply := true } := by
  decide
theorem test_warmUpEnd : (after (inMode (.warming .opn 0)) .warmUpEnd).smc.mode = .opn := by decide
theorem test_alertHoldExpiry :
    (after ((inMode (.nightAlert (some 0))).withClock { day.clock with runTime := 600 }) .alertHoldExpiry).smc.mode = .night := by decide +kernel

/-! ### Witnesses: for each statement with hypotheses, states and operands that meet them -/

/-- A command answers the state it leaves. -/
abbrev Leaves (s : State) (c : Instr) : Prop := exec c s = .next (after s c)

/-- `s` in reset. -/
abbrev inReset (s : State) : State := s.withResetLine true

theorem witness_StepRunsTheFrontCommand :
    (cold.withPending [.tenthOfRunTime, .powerOn]).pending = .tenthOfRunTime :: [.powerOn] ∧ cold.pending = [] := by decide

theorem witness_RequestsAreHandedAndAnsweredInOrder :
    requestOf (.identify 7 (.fields ())) = some (asked 1) ∧ takeRequest (.identify 7 (.fields ())) (inReset cold) = none ∧
    (∃ s0, Handed (.identify 7 (.fields ())) cold s0 ∧ s0.lnk.queue = [asked 1]) ∧
    (∃ s0, Handed (.identify 7 (.fields ())) (cold.withLnk { coldLnk with queue := [asked 1] }) s0 ∧
      s0.lnk.queue = [asked 1]) := by
  and_intros <;> first | exact given (by decide) | decide

theorem witness_EveryHandedRequestIsAnswered :
    (∃ s0, Handed (.clockRelease 7 (.fields ())) cold s0 ∧ s0.clock.unset = true) ∧ malformed (.clockSet 7 .malformed) = true ∧
    ∃ s0, Handed (.clockSet 7 .malformed) cold s0 ∧ s0.clock = cold.clock :=
  ⟨given (by decide), by decide, given (by decide)⟩

theorem witness_RequestsAreAnsweredInOrder :
    let l : Lnk := { coldLnk with queue := [{ asked 2 with answered := true }] ++ asked 1 :: [asked 3] }
    (∀ q ∈ [{ asked 2 with answered := true }], q.answered = true) ∧ (asked 1).answered = false ∧
      (cold.withLnk l).lnk.tx = none ∧ (cold.withLnk l).lnk.replies = [] ∧
      ((cold.withLnk { l with tx := some (.notice (entry 0)) }).lnk.tx ≠ none) := by decide

theorem witness_RequestBodiesReadBack :
    wellFormed (.clockSet 7 (.fields 4294967295)) = true ∧ (requestOf (.clockSet 7 (.fields 4294967295))).isSome = true ∧
    wellFormed (.zoneConfig 7 (.fields { zoneConfig with gmin := -128 })) = true ∧
    wellFormed (.unknownKind 7 0x7F) = true := by decide

theorem witness_ReceivedFramesHandTheirRequests :
    wellFormed (.announce 7 (.fields announcement)) = true ∧ (requestOf (.announce 7 (.fields announcement))).isSome = true ∧
    cold.resetLine = false ∧ cold.lnk.receiver = .hunting ∧ cold.lnk.queue.length < 4 ∧
    (∀ q ∈ cold.lnk.queue, q.answered = true) := by decide

theorem witness_FaultyFramesAreDiscarded :
    cold.resetLine = false ∧ cold.lnk.receiver = .hunting ∧ (good 0xA4).value ≠ 0xA5 ∧
    ({ value := 0xA5, framingError := true } : RxByte).framingError = true ∧
    (cold.withLnk { coldLnk with receiver := .inFrame [] }).lnk.receiver = .inFrame [] ∧
    (good 1).value.toNat < 2 ∧ 250 < (good 251).value.toNat ∧
    (cold.withLnk { coldLnk with receiver := .inFrame [2, 1, 7] }).lnk.receiver = .inFrame (2 :: 1 :: 7 :: []) ∧
    ([] : List Byte).length + 2 = (2 : Byte).toNat ∧ (2 + 1 + 7 + 246) % 256 = 0 ∧ (2 + 1 + 7 + 245) % 256 ≠ 0 ∧
    (2 + 0x80 + 7 + 119) % 256 = 0 := by decide
theorem witness_FaultyFrames_overrun :
    (after (cold.withLnk { coldLnk with queue := List.replicate 4 (asked 1) })
      (.frameReceived ([0xA5, 2, 1, 7, 246].map good))).lnk.tx =
      some (.notice { day := 0, service := 0, lost := 0, notice := .linkFault .overrun 1 7 }) := by decide

/-- A reply in transmission. -/
def sending (a : AtEnd) : State :=
  cold.withLnk { coldLnk with
    queue := [{ asked 4 with answered := true }], tx := some (.reply { kind := 4, tag := 7, result := .accepted false [] a }) }
theorem witness_FrameEndsAdvanceTheTransmitter :
    cold.resetLine = false ∧ cold.lnk.tx = none ∧ flooded.lnk.tx = some (.notice (entry 0)) ∧
    (sending .nothing).lnk.tx = some (.reply { kind := 4, tag := 7, result := .accepted false [] .nothing }) ∧
    (0 ≠ (sending (.setRate 0 8)).lnk.n ∨ 8 ≠ (sending (.setRate 0 8)).lnk.k) ∧
    atEndOf (.accepted false [] (.setRate 4 8)) = .setRate cold.lnk.n cold.lnk.k ∧
    atEndOf (.accepted false [] .warmReset) = .warmReset ∧
    (let s := (coveredIn .night).withLnk (sending .warmReset).lnk
     (s.source 0).state = .active ∧ (after s .frameTransmitted).smc.mode = .warming .nightAlert 80) := by decide +kernel

theorem witness_NoticesEnterTheOutboxOrAreLost :
    classOf (.clockEvent .held none) ≠ .safety ∧
    (cold.withLnk { coldLnk with mask := 1 }).lnk.mask.getLsbD (classBit (classOf (.clockEvent .held none))) = false ∧
    classOf (.restarted .powerOn) = .safety ∧ cold.lnk.outbox.length < 32 ∧
    cold.lnk.mask.getLsbD (classBit (classOf (.clockEvent .held none))) = true := by decide

theorem witness_NoticesEnterTheOutboxOrAreLost_full :
    flooded.lnk.tx ≠ none ∧ flooded.lnk.outbox = entry 250 :: List.replicate 31 (entry 0) ∧
    (List.replicate 31 (entry 0)).length = 31 ∧ flooded.lnk.lost + 1 + (entry 250).lost = 255 ∧
    flooded.lnk.mask.getLsbD (classBit .clock) = true := by decide

theorem witness_TheLinksOwnRequestsAreAnswered :
    (∃ s0, Handed (.identify 7 (.fields ())) cold s0 ∧ s0.resetLine = false) ∧
    (∃ s0, Handed (.statusRead 7 (.fields ())) cold s0 ∧ s0.resetLine = false) ∧
    (∃ s0, Handed (.restart 7 (.fields ())) cold s0 ∧ s0.resetLine = false) ∧
    (∃ s0, Handed (.linkConfig 7 (.fields { n := 7, k := 14 })) cold s0 ∧ ¬ (7 < 7 ∨ 14 < 14)) ∧
    (∃ s0, Handed (.linkConfig 7 (.fields { n := 8, k := 14 })) cold s0 ∧ 7 < 8) ∧
    (∃ s0, Handed (.linkConfig 7 (.fields { n := 7, k := 15 })) cold s0 ∧ 14 < 15) ∧
    (∃ s0, Handed (.unknownKind 7 0x7F) cold s0 ∧ s0.resetLine = false) ∧
    (∃ s0, Handed (.noticeMask 7 (.fields 0xFFFE)) cold s0 ∧ s0.resetLine = false) := by
  and_intros <;> exact given (by decide)

theorem witness_ReadsReportAndChangeNothing :
    (∃ s0, Handed (.clockRead 7 (.fields ())) cold s0 ∧ s0.resetLine = false) ∧
    (∃ s0, Handed (.callRead 7 (.fields 71)) (dayCalls [call]) s0 ∧ s0.ttu.calls = [call]) ∧
    (∃ s0, Handed (.callRead 7 (.fields 72)) (dayCalls [call]) s0 ∧ s0.call? 72 = none) ∧
    (∃ s0, Handed (.callList 7 (.fields 511)) cold s0 ∧ ¬ 511 < 511) ∧
    (∃ s0, Handed (.callList 7 (.fields 512)) cold s0 ∧ 511 < 512) ∧
    (∃ s0, Handed (.inputRead 7 (.fields none)) cold s0 ∧ s0.resetLine = false) ∧
    (∃ s0, Handed (.inputRead 7 (.fields (some 31))) cold s0 ∧ ¬ 31 < 31) ∧
    (∃ s0, Handed (.inputRead 7 (.fields (some 32))) cold s0 ∧ 31 < 32) ∧
    (∃ s0, Handed (.storeRead 7 (.fields { selector := 1, value := 63 })) cold s0 ∧ ¬ 63 < 63) ∧
    (∃ s0, Handed (.storeRead 7 (.fields { selector := 1, value := 64 })) cold s0 ∧ 63 < 64) ∧
    (∃ s0, Handed (.storeRead 7 (.fields { selector := 2, value := 9 })) (queued placement) s0 ∧ s0.asc.slots = [slot]) ∧
    (∃ s0, Handed (.zoneRead 7 (.fields none)) cold s0 ∧ s0.resetLine = false) ∧
    (∃ s0, Handed (.zoneRead 7 (.fields (some 39))) cold s0 ∧ ¬ 39 < 39) ∧
    (∃ s0, Handed (.zoneRead 7 (.fields (some 40))) cold s0 ∧ 39 < 40) ∧
    (∃ s0, Handed (.channelRead 7 (.fields { channel := none, sectionCode := 1, start := 0 })) cold s0 ∧ s0.resetLine = false) ∧
    (∃ s0, Handed (.channelRead 7 (.fields { channel := some 0, sectionCode := 3, start := 1 })) (playing run) s0 ∧
      s0.channel 0 = some run) ∧
    (∃ s0, Handed (.channelRead 7 (.fields { channel := some 8, sectionCode := 1, start := 0 })) cold s0 ∧ 7 < 8) := by
  and_intros <;> exact given (by decide)

theorem witness_ResetHoldsThePartStill : (inReset cold).resetLine = true := by decide

/-- 09, R154: with no ACTIVE source the table alone, with one NIGHT goes on to a warm-up and NIGHT_ALERT holds. -/
theorem witness_ResetReleaseIsAWarmReset :
    (∀ e ∈ (inMode .winding).zrt.sources, e.state ≠ .active) ∧ (∀ e ∈ (inMode (.nightAlert none)).zrt.sources, e.state ≠ .active) ∧
    ((coveredIn .winding).source 0).state = .active ∧ ((coveredIn (.nightAlert (some 5))).source 0).state = .active ∧
    (after (inMode .winding) .resetRelease).smc.mode = .night ∧
    (after (coveredIn .winding) .resetRelease).smc.mode = .warming .nightAlert 80 ∧
    (after (coveredIn (.nightAlert (some 5))) .resetRelease).smc.mode = .nightAlert none := by
  decide +kernel

theorem witness_TheClockIsSet :
    let ready := cold.withClock { coldClock with unset := false }
    (∃ s0, Handed (.clockHold 7 (.fields ())) cold s0 ∧ s0.clock.held = true) ∧
    (∃ s0, Handed (.clockHold 7 (.fields ())) day s0 ∧ s0.clock.held = false) ∧
    (∃ s0, Handed (.clockRelease 7 (.fields ())) cold s0 ∧ s0.clock.unset = true) ∧
    (∃ s0, Handed (.clockRelease 7 (.fields ())) day s0 ∧ s0.clock.unset = false ∧ s0.clock.held = false) ∧
    (∃ s0, Handed (.clockRelease 7 (.fields ())) ready s0 ∧ s0.clock.unset = false ∧ s0.clock.held = true) ∧
    (∃ s0, Handed (.clockSet 7 (.fields 0)) day s0 ∧ s0.clock.held = false) ∧
    (∃ s0, Handed (.clockSet 7 (.fields 86400)) cold s0 ∧ s0.clock.held = true ∧ 86399 < 86400) ∧
    (∃ s0, Handed (.clockSet 7 (.fields 86399)) cold s0 ∧ s0.clock.held = true ∧ 86399 ≤ 86399) := by
  and_intros <;> exact given (by decide)

/-- Day settings at the edges of their ranges. -/
def settingsReq (offset : Nat) (night opn : Option Nat) (w : Nat) : DayConfigReq :=
  { offset := offset, nightStart := night, openTime := opn, matchWindow := w }
theorem witness_TheDaySettingsAreSet :
    (∃ s0, Handed (.dayConfig 7 (.fields (settingsReq 86400 none none 60))) cold s0 ∧ 86399 < 86400) ∧
    (∃ s0, Handed (.dayConfig 7 (.fields (settingsReq 0 (some 86400) none 60))) cold s0 ∧ 86399 < 86400) ∧
    (∃ s0, Handed (.dayConfig 7 (.fields (settingsReq 0 none (some 86400) 60))) cold s0 ∧ 86399 < 86400) ∧
    (∃ s0, Handed (.dayConfig 7 (.fields (settingsReq 0 (some 5) (some 5) 60))) cold s0 ∧ (some 5 : Option Nat) ≠ none) ∧
    (∃ s0, Handed (.dayConfig 7 (.fields (settingsReq 86399 (some 86399) (some 86398) 3601))) cold s0 ∧
      (some 86399 : Option Nat) ≠ some 86398) := by
  and_intros <;> exact given (by decide)

/-- `s` with its prescaler full at the service time. -/
def due (service : Nat) (s : State) : State := s.withClock { day.clock with service := service, prescaler := 9 }
theorem nothingDue (c : Clock) : NothingDue (cold.withClock c) := by
  have zone (z : Nat) : (cold.withClock c).zone z = coldZone := by
    simp [State.zone, State.withClock, State.reset, coldZrt, List.getElem?_replicate]; split <;> rfl
  refine ⟨?_, ?_, ?_, ?_, ?_, ?_, rfl, ?_⟩
  · intro b h g start e; cases e
  · intro c r e; simp [State.channel, State.withClock, State.reset, coldPle, List.getElem?_replicate] at e; split at e <;> simp at e
  · intro z hz p hp; rw [List.eq_of_mem_replicate hz] at hp; cases hp
  · intro z t e; rw [zone] at e; cases e
  · intro g e h; cases h
  · intro t e; cases e
  · intro n d e; simp [State.input, State.withClock, State.reset, coldFiu, List.getElem?_replicate] at e; split at e <;> simp [coldInput] at e
/-- Call 71 of today and call 72 of tomorrow. -/
def twoDays : State := dayCalls [call, { call with id := 72, day := .next }]
theorem witness_TenthsAndSecondsAdvanceTime :
    cold.resetLine = false ∧ ¬ SecondNext cold ∧ NothingDue cold ∧ (due 86399 cold).resetLine = false ∧
    SecondNext (due 86399 cold) ∧ NothingDue (due 86399 cold) ∧ (due 86399 twoDays).clock.service = 86399 ∧
    SecondNext (due 86399 twoDays) ∧ TableOk (due 86399 twoDays).ttu.calls ∧
    (twoDays.ttu.calls.filter (fun c => decide (c.day = .next))).map schedule ≠ [] ∧
    (seconded (due 86398 cold).clock).service = 86399 ∧ (seconded (due 86399 cold).clock).day = 1 := by
  refine ⟨rfl, by unfold SecondNext; decide, nothingDue coldClock, rfl, by unfold SecondNext; decide, nothingDue _, rfl,
    by unfold SecondNext; decide, ⟨by decide, by decide, by decide⟩, by decide, by decide, by decide⟩

/-- A cue on the arrival of a call, at the offset. -/
def cueAt (offset : Int) : Cue :=
  { anchor := .arrival, offset := offset, template := 0, priority := 3, targetKind := .platform, address := 0, mask := 0
    repeats := 0, interval := 10, expiry := 30, late := 5 }
/-- Call 71 with the cue of its plan, its arrival anchor now. -/
def cued (m : Mode) (q : Cue) : State :=
  (inMode m).withTtu { coldTtu with calls := [call], plans := coldTtu.plans.set 15 { threshold := 60, cues := [q] } }
/-- The edges of R45 and R46: the second before the trigger, the trigger, the last second in time and the next. -/
theorem witness_ASecondFiresCues :
    (cued .opn (cueAt 1)).call? 71 = some call ∧ ((cued .opn (cueAt 1)).plan call.plan).cues[0]? = some (cueAt 1) ∧
    cueBase call (cueAt 1) = some 50000 ∧ call.day = .current ∧ call.state = .planned ∧ markOf call 0 = .unfired ∧
    call.marks.length = 6 ∧ TableOk (cued .opn (cueAt 1)).ttu.calls ∧
    judged (cued .opn (cueAt 1)) call 0 = .unfired ∧ judged (cued .opn (cueAt 0)) call 0 = .fired ∧
    (let s := cued .opn (cueAt 0)
     after (due 49999 (s.withAsc { s.asc with templates := s.asc.templates.set 0 [.phrase 1] })) (.secondOfStationTime { early := [], blocks := .ttuZrtSmc })).asc.slots.map
      (fun x => (x.origin, x.latestStart, x.target)) = [(.cue 71 0 .arrival, some 50030, [{ address := 0x100, mask := 0 }])] ∧
    judged (cued .opn (cueAt (-5))) call 0 = .fired ∧ judged (cued .opn (cueAt (-6))) call 0 = .missed ∧
    (cued .night (cueAt 0)).smc.mode = .night ∧ (cued (.warming .night 9) (cueAt 0)).smc.mode = .warming .night 9 := by
  refine ⟨?_, ?_, ?_, ?_, ?_, ?_, ?_, ⟨?_, ?_, ?_⟩, ?_, ?_, ?_, ?_, ?_, ?_, ?_⟩ <;> decide +kernel
theorem witness_ASecondCompletesCalls : TableOk [call, turn] ∧ overdueAt 50659 call = false ∧ overdueAt 50660 call = true ∧
    overdueAt 59099 turn = false ∧ overdueAt 59100 turn = true := ⟨⟨by decide, by decide, by decide⟩, by decide⟩

/-- `s` with the slot alone in its store. -/
def storing (x : Slot) (s : State) : State := s.withAsc { s.asc with slots := [x], created := 1 }
/-- `queued`, the announcement with a latest start. -/
def expiring (t : Int) : State := storing { slot with latestStart := some t } (queued placement)
/-- A placement whose latest start is the service time stays, one of the second before goes. -/
theorem witness_ASecondSweepsTheQueues :
    startsBefore (expiring 50000) 50000 placement = false ∧ startsBefore (expiring 49999) 50000 placement = true ∧
    startsBefore (expiring 86400) 86400 placement = false ∧ slot ∈ (playing run).asc.slots ∧ 0 < runCount (playing run) slot.id ∧
    ((after (due 86399 (expiring 86400)) (.secondOfStationTime { early := [], blocks := .ttuZrtSmc })).asc.slots.map Slot.latestStart = [some 0]) := by
  decide +kernel
/-- 01, R10: the night-start marker asks for NIGHT. -/
theorem witness_ASecondMovesTheMode : modeAfter 3 day 9 (some 0) = .night ∧ modeAfter 1 cold 9 none = .warming .opn 9 ∧
    (after ((due 50000 day).withClock { day.clock with prescaler := 9, nightStart := some 50001 }) .tenthOfRunTime).smc.mode = .night := by
  decide +kernel

theorem witness_ClockOk : ClockOk day.clock ∧ SupplyOk day.smc ∧ ∃ t, step (day.withPending [.tenthOfRunTime]) = .next t := by
  refine ⟨⟨by decide, by decide, by decide, by decide, by decide, ?_, ?_, by decide⟩, rfl, _, rfl⟩ <;>
    (intro x h; cases h)

theorem witness_LinkSound : LinkSound (sending (.setRate 7 14)) ∧ step (sending (.setRate 7 14)) = .next (sending (.setRate 7 14)) := by
  refine ⟨⟨⟨by decide, by decide, by decide, by decide, by decide, by decide, ⟨by decide, trivial⟩, ?_⟩, fun _ =>
    ⟨by decide, by decide⟩⟩, rfl⟩
  intro r h
  simp [sentResults, sending, coldLnk, State.withLnk] at h
  subst h
  exact ⟨by decide, by decide⟩

/-- A zone's record meets its ranges. -/
def zoneMeets (z : Zone) : Bool :=
  decide (-120 ≤ z.gmin ∧ z.gmin ≤ z.gmax ∧ z.gmax ≤ 0) && decide (-120 ≤ z.g0 ∧ z.g0 ≤ 0) && decide (30 ≤ z.nref ∧ z.nref ≤ 120)
    && decide (z.slope ≤ 8) && decide (1 ≤ z.lampThreshold ∧ z.lampThreshold ≤ 7)
    && decide (z.window.length ≤ 8 ∧ ∀ x ∈ z.window, 30 ≤ x ∧ x ≤ 120)
    && decide (z.queue.length ≤ 12 ∧ z.queue.Pairwise (fun a b => b.priority ≤ a.priority))
theorem witness_CapacityOk : CapacityOk (queued placement) ∧ ∃ t, step ((queued placement).withPending [.tenthOfRunTime]) = .next t := by
  refine ⟨⟨by decide, by decide, by decide, by decide, ⟨by decide, by decide, by decide⟩, by decide, by decide,
    ⟨by decide, by decide, by decide⟩, by decide, by decide, by decide, ?_, by decide, by decide, by decide⟩, _, rfl⟩
  have h : (queued placement).zrt.zones.all zoneMeets = true := by decide
  intro z hz
  have := List.all_eq_true.mp h z hz
  simp only [zoneMeets, Bool.and_eq_true, decide_eq_true_eq] at this
  obtain ⟨⟨⟨⟨⟨⟨a, b⟩, c⟩, d⟩, e⟩, f⟩, g⟩ := this
  exact ⟨a, b, c, d, e, f, g⟩

/-- A channel that plays is one of those there are. -/
theorem inRange {s : State} {c : Nat} {r : Run} (h : s.channel c = some r) : c < s.ple.channels.length := by
  by_contra hn
  simp [State.channel, List.getD, List.getElem?_eq_none (Nat.le_of_not_lt hn)] at h
/-- The law of the store, tested. -/
def lawful (s : State) : Bool :=
  s.zrt.zones.all (fun z => z.queue.all (fun p => (s.slot? p.announcement).any (fun x => decide (x.priority = p.priority)))) &&
  (List.range s.ple.channels.length).all (fun c => (s.channel c).all (fun r =>
    (s.slot? r.announcement).any (fun x => decide (x.priority = r.priority)) && r.zones.all (fun a =>
      decide (a.placement.announcement = r.announcement) && decide (a.placement.priority = r.priority)))) &&
  s.zrt.sources.all (fun e => decide (e.state ≠ .active) || decide (e.voice = .silent)) &&
  s.asc.slots.all (fun x => decide (0 < placementCount s x.id ∨ 0 < runCount s x.id))
theorem announcementsOk_of {s : State} (h : lawful s = true) : AnnouncementsOk s := by
  simp only [lawful, Bool.and_eq_true, List.all_eq_true, Option.any_eq_true, Option.all_eq_true_iff_get, decide_eq_true_eq,
    Bool.or_eq_true, List.mem_range] at h
  obtain ⟨⟨⟨queued, playing⟩, voiced⟩, used⟩ := h
  refine ⟨queued, fun c r hc => ?_, fun n a he hv => ?_, used⟩
  · have := playing c (inRange hc) (by rw [hc]; rfl)
    simpa [hc] using this
  · by_cases hn : n < s.zrt.sources.length
    · have hm : s.source n ∈ s.zrt.sources := by
        simp [State.source, List.getD, List.getElem?_eq_getElem hn]
      rcases voiced _ hm with h | h
      · exact absurd he h
      · rw [h] at hv; cases hv
    · simp [State.source, List.getD, List.getElem?_eq_none (Nat.le_of_not_lt hn), coldSource] at he
/-- The law of the modes, tested. -/
def modal (s : State) : Bool :=
  let runs (p : Run → Bool) := (List.range s.ple.channels.length).all (fun c => (s.channel c).all p)
  let high := s.zrt.zones.all (fun z => z.queue.all (fun p => decide (6 ≤ p.priority)))
  match s.smc.mode with
  | .opn => true
  | .winding => !runs (fun r => decide (6 ≤ r.priority))
  | .warming _ _ => runs (fun _ => false)
  | .night => runs (fun _ => false) && high
  | .nightAlert h => runs (fun r => decide (6 ≤ r.priority)) && high && decide (h.isSome = quiet s)
theorem modeOk_of {s : State} (h : modal s = true) : ModeOk s := by
  constructor
  · rintro (m | ⟨g, e, m⟩) c <;> cases hc : s.channel c with
    | none => rfl
    | some r =>
      simp [modal, m] at h
      have := h |> fun h => by first | exact h.1 c (inRange hc) | exact h c (inRange hc)
      simp [hc] at this
  · intro b m c r hc
    simp [modal, m] at h
    simpa [hc] using h.1.1 c (inRange hc)
  · intro b m
    simp only [modal, m, Bool.and_eq_true, decide_eq_true_eq] at h
    exact h.2
  · rintro (m | ⟨b, m⟩) z hz p hp <;> simp [modal, m] at h
    · exact h.2 z hz p hp
    · exact h.1.2 z hz p hp
  · intro m
    simp [modal, m] at h
    obtain ⟨c, -, h⟩ := h
    cases hc : s.channel c with
    | none => simp [hc] at h
    | some r => exact ⟨c, r, hc, by simpa [hc] using h⟩
/-- A run of 6 in NIGHT_ALERT. -/
def alerted : State :=
  (storing { slot with priority := 6 } (playing { run with
    priority := 6, zones := [{ zone := 0, gain := 0, mark := none, placement := { placement with priority := 6 } }] })).withSmc
      { day.smc with mode := .nightAlert none }
/-- A run of 6 in NIGHT_ALERT, a run of 3 in WINDING, and the quiet night: states the law of the modes holds of. -/
theorem witness_EveryStepKeepsTheAnnouncementsAndTheMode :
    let winding := (playing run).withSmc { day.smc with mode := .winding }
    AnnouncementsOk (queued placement) ∧ ModeOk (queued placement) ∧ AnnouncementsOk alerted ∧ ModeOk alerted ∧
    AnnouncementsOk winding ∧ ModeOk winding ∧ ModeOk (inMode (.nightAlert (some 0))) ∧ ModeOk (inMode .night) ∧
    (after alerted (.phraseCompletion 0)).smc.mode = .nightAlert none ∧
    ∃ t, step ((queued placement).withPending [.phraseCompletion 0]) = .next t := by
  and_intros <;> first
    | exact announcementsOk_of (by decide +kernel)
    | exact modeOk_of (by decide +kernel)
    | decide +kernel
    | exact ⟨_, rfl⟩

theorem witness_TableOk : TableOk (dayCalls [call, { turn with state := .atPlatform }]).ttu.calls ∧
    ∃ t, step ((dayCalls [call, turn]).withPending [.callCancel 7 (.fields 71)]) = .next t :=
  ⟨⟨by decide, by decide, by decide⟩, _, rfl⟩

/-- Source 0 covers platforms 0 and 1, and platform 1 is ISOLATED out of it. -/
def isolated : State := covered.modifyZone 1 (fun z => { z with base := .isolated })
theorem witness_CoverageOk_IsolationOk : CoverageOk isolated ∧ IsolationOk isolated ∧
    ∃ t, step (isolated.withPending [.evacClear 7 (.fields 0)]) = .next t :=
  ⟨⟨by decide, by decide, by decide +kernel⟩, ⟨by decide, by decide +kernel, by decide +kernel⟩, _, rfl⟩

/-! #### Calls -/

theorem witness_LoadFits : LoadFits .arrival load ∧ ¬ LoadFits .arrival { load with zone := 40 } ∧
    ¬ LoadFits .arrival { load with oa := 59 } ∧ ¬ LoadFits .turn { load with sd := 50059 } :=
  ⟨{ id := by decide, zone := by decide, sa := fun _ => by decide, sd := fun h => absurd rfl h, oa := by decide
     phrases := by rintro p (h | h | h | h) <;> simp [load] at h
     calling := by decide, plan := by decide, turn := fun h => by cases h },
    fun h => absurd h.zone (by decide), fun h => absurd h.oa.1 (by decide), fun h => absurd (h.turn rfl) (by decide)⟩

/-- CALL_LOAD of `load`, changed by `f`. -/
def loads (f : CallLoadReq → CallLoadReq) : Instr := .callLoad 7 (.fields (f load))
theorem witness_ALoadStoresItsCall :
    callKindCode .arrival = load.kind ∧ dayCode .current = load.dayTag ∧
    (∃ s0, Handed (loads fun r => { r with kind := 0 }) day s0 ∧ s0.resetLine = false) ∧
    (∃ s0, Handed (loads fun r => { r with kind := 4 }) day s0 ∧ 3 < 4) ∧
    (∃ s0, Handed (loads fun r => { r with dayTag := 3 }) day s0 ∧ 2 < 3) ∧
    (∃ s0, Handed (loads fun r => { r with zone := 40 }) day s0 ∧ s0.resetLine = false) ∧
    (∃ s0, Handed (loads id) cold s0 ∧ (s0.zone 0).kind ≠ .platform) ∧
    (∃ s0, Handed (loads id) (dayCalls [{ call with state := .complete }]) s0 ∧ (s0.zone 0).kind = .platform ∧
      s0.call? 71 = some { call with state := .complete }) ∧
    (∃ s0, Handed (loads id) (dayCalls (List.replicate 512 turn)) s0 ∧ (s0.zone 0).kind = .platform ∧
      s0.call? 71 = none ∧ 512 ≤ s0.ttu.calls.length) ∧
    (∃ s0, Handed (loads id) (dayCalls (List.replicate 511 turn)) s0 ∧ (s0.zone 0).kind = .platform ∧
      s0.call? 71 = none ∧ s0.ttu.calls.length < 512) ∧
    (∃ s0, Handed (loads id) (dayCalls [call]) s0 ∧ (s0.zone 0).kind = .platform ∧ s0.call? 71 = some call ∧
      call.state = .planned) := by
  and_intros <;> first | exact given (by decide +kernel) | decide

/-- CALL_DELAY of call 71. -/
def delays (a d : Option Int) : Instr := .callDelay 7 (.fields { id := 71, arrival := a, departure := d })
theorem witness_ADelayMovesTheExpectedTimes :
    let actual : Actual := { time := 1, source := .detected, held := false }
    (∃ s0, Handed (delays none none) day s0 ∧ s0.resetLine = false) ∧
    (∃ s0, Handed (delays (some 0) none) day s0 ∧ s0.call? 71 = none) ∧
    (∃ s0, Handed (delays none (some 0)) (dayCalls [call]) s0 ∧ s0.call? 71 = some call ∧ call.kind = .arrival) ∧
    (∃ s0, Handed (delays (some 0) none) (dayCalls [{ call with state := .lapsed }]) s0 ∧
      s0.call? 71 = some { call with state := .lapsed }) ∧
    (∃ s0, Handed (delays (some 0) none) (dayCalls [{ call with state := .atPlatform, aa := some actual }]) s0 ∧
      s0.call? 71 = some { call with state := .atPlatform, aa := some actual }) ∧
    (∃ s0, Handed (delays (some (-901)) none) (dayCalls [call]) s0 ∧ s0.call? 71 = some call ∧ call.aa = none) ∧
    (∃ s0, Handed (delays (some 14400) none) (dayCalls [{ call with day := .next }]) s0 ∧
      s0.call? 71 = some { call with day := .next }) := by
  and_intros <;> exact given (by decide)
theorem witness_DelayForeign :
    DelayForeign call { id := 71, arrival := none, departure := some 0 } ∧
    ¬ DelayForeign call { id := 71, arrival := some (-901), departure := none } ∧
    DelayClamped (some (-901)) ∧ DelayClamped (some 14401) ∧ ¬ DelayClamped (some 14400) := by
  simp [DelayForeign, DelayClamped, call, newCall]

theorem witness_APlatformChangeMovesTheCall :
    let moves (z : Nat) : Instr := .callPlatform 7 (.fields { id := 71, zone := z })
    (∃ s0, Handed (moves 1) day s0 ∧ s0.call? 71 = none) ∧
    (∃ s0, Handed (moves 40) (dayCalls [call]) s0 ∧ s0.call? 71 = some call) ∧
    (∃ s0, Handed (moves 39) (dayCalls [{ call with state := .atPlatform }]) s0 ∧
      s0.call? 71 = some { call with state := .atPlatform }) ∧
    (∃ s0, Handed (moves 39) (dayCalls [call]) s0 ∧ s0.call? 71 = some call ∧ (s0.zone 39).kind ≠ .platform) ∧
    (∃ s0, Handed (moves 0) (dayCalls [call]) s0 ∧ s0.call? 71 = some call ∧ (s0.zone 0).kind = .platform ∧ 0 = call.zone) ∧
    (∃ s0, Handed (moves 1) (dayCalls [call]) s0 ∧ s0.call? 71 = some call ∧ (s0.zone 1).kind = .platform ∧ 1 ≠ call.zone) ∧
    call.marks.length = 6 := by
  and_intros <;> first | exact given (by decide) | decide

theorem witness_CancelledAndDeletedCallsEnd :
    (∃ s0, Handed (.callCancel 7 (.fields 71)) day s0 ∧ s0.call? 71 = none) ∧
    (∃ s0, Handed (.callCancel 7 (.fields 71)) (dayCalls [{ call with state := .complete }]) s0 ∧
      s0.call? 71 = some { call with state := .complete }) ∧
    (∃ s0, Handed (.callCancel 7 (.fields 71)) (dayCalls [call]) s0 ∧ s0.call? 71 = some call ∧ call.state = .planned) ∧
    (∃ s0, Handed (.callDelete 7 (.fields 71)) day s0 ∧ s0.call? 71 = none) ∧
    (∃ s0, Handed (.callDelete 7 (.fields 71)) (dayCalls [{ call with state := .atPlatform }]) s0 ∧
      s0.call? 71 = some { call with state := .atPlatform }) ∧
    (∃ s0, Handed (.callDelete 7 (.fields 71)) (dayCalls [call]) s0 ∧ s0.call? 71 = some call ∧ call.state ≠ .atPlatform) := by
  and_intros <;> exact given (by decide)

/-- Announcement 9 is for call 71. -/
def ofCall : Slot := { slot with call := some 71 }
/-- A withdrawal of call 71's announcements, one waiting and one playing. -/
theorem witness_CancelledAndDeletedCallsEnd_withdrawal :
    let waits := storing ofCall (queued placement)
    let plays := storing ofCall (playing run)
    (waits.asc.slots.map Slot.id).Nodup ∧ ofCall ∈ waits.asc.slots ∧ ofCall.call = some 71 ∧ ofCall.withdrawn = false ∧
    plays.channel 0 = some run ∧ run.announcement = ofCall.id ∧ run.zones ≠ [] ∧
    ((withdrawCall 71 waits).zone 0).queue = [] ∧ (withdrawCall 71 plays).asc.slots = [{ ofCall with withdrawn := true }] := by
  decide +kernel

theorem witness_AReportMovesTheCall :
    let reports (stage time : Nat) : Instr := .callReport 7 (.fields { id := 71, stage := stage, time := time })
    let here : Call := { call with state := .atPlatform, aa := some { time := 100, source := .reported, held := false } }
    (∃ s0, Handed (reports 1 0) day s0 ∧ s0.call? 71 = none) ∧
    (∃ s0, Handed (reports 1 86400) (dayCalls [call]) s0 ∧ s0.call? 71 = some call) ∧
    (∃ s0, Handed (reports 0 0) (dayCalls [call]) s0 ∧ s0.call? 71 = some call) ∧
    (∃ s0, Handed (reports 3 0) (dayCalls [call]) s0 ∧ s0.call? 71 = some call) ∧
    (∃ s0, Handed (reports 1 0) (dayCalls [{ call with day := .next }]) s0 ∧ s0.call? 71 = some { call with day := .next }) ∧
    (∃ s0, Handed (reports 1 0) (dayCalls [here]) s0 ∧ s0.call? 71 = some here ∧ here.state ≠ .planned) ∧
    (∃ s0, Handed (reports 2 0) (dayCalls [call]) s0 ∧ s0.call? 71 = some call ∧ call.state ≠ .atPlatform) ∧
    (∃ s0, Handed (reports 2 99) (dayCalls [here]) s0 ∧ s0.call? 71 = some here ∧ 99 < 100) ∧
    (∃ s0, Handed (reports 1 0) (dayCalls [call, { turn with state := .atPlatform }]) s0 ∧ s0.call? 71 = some call ∧
      ∃ o ∈ s0.ttu.calls, o.id ≠ call.id ∧ o.state = .atPlatform ∧ o.zone = call.zone) ∧
    (∃ s0, Handed (reports 1 86399) (dayCalls [call]) s0 ∧ s0.call? 71 = some call ∧
      ∀ o ∈ s0.ttu.calls, o.id ≠ call.id → o.state = .atPlatform → o.zone ≠ call.zone) ∧
    (∃ s0, Handed (reports 2 100) (dayCalls [here]) s0 ∧ s0.call? 71 = some here ∧ ∀ a, here.aa = some a → a.time ≤ 100) := by
  and_intros <;> exact given (by decide)

/-- 03, R34: SA 300 with Da −900 gives EA 0; R35: SA 86,000, Da 14,400 and OA 1,200 give EC 100,799 with the flag. -/
theorem witness_TheExpectedTimesFollowTheirRules :
    let early : Call := { call with sa := some 300, da := -900 }
    let late : Call := { call with sa := some 86000, da := 14400, oa := 1200 }
    (early.kind ≠ .departure ∧ early.aa = none ∧ (300 : Int) + early.da < 0 ∧ early.oa ≤ 100799 ∧ (computeTimes early).ea = some 0) ∧
    (late.kind = .arrival ∧ (computeTimes late).ea = some 100400 ∧ 100799 < 100400 + late.oa ∧
      (computeTimes late).ec = some 100799 ∧ (computeTimes late).ceiling = true) ∧
    (turn.kind = .turn ∧ turn.sd = some 58500 ∧ (computeTimes turn).ea = some 57600) ∧
    ((newCall .departure .current load).kind = .departure ∧ (newCall .departure .current load).sd = some 0) ∧
    ({ call with aa := some { time := 5, source := .detected, held := true } } : Call).aa ≠ none := by decide

/-- 03, R37: the edges of its clauses. -/
theorem witness_DelaysAndTimesAreSpoken :
    sayDelay 29 = [0, 100] ∧ (3569 + 30) / 60 = 59 ∧ sayDelay 3569 = [59, 100] ∧ (3570 + 30) / 60 = 60 ∧
    sayDelay 3570 = [1, 101] ∧ (14400 + 30) / 60 = 240 ∧ (100799 + 30) / 60 = 1680 := by decide

/-- 03, R36 and R38: whose times an anchor speaks, and a call delayed by just the plan's threshold. -/
theorem witness_DelaysAndTimesAreSpoken_call :
    speaksDepartureOf turn (some .departure) = true ∧ speaksDepartureOf turn (some .arrival) = false ∧
    speaksDepartureOf turn none = true ∧ speaksDepartureOf call none = false ∧
    spokenDelay { turn with ed := some 58680 } none = 180 ∧ (day.plan turn.plan).threshold = 180 ∧
    isDelayed day { turn with ed := some 58680 } none = true ∧ isDelayed day { turn with ed := some 58679 } none = false := by
  decide

theorem witness_ConflictsNameTheEarliestOverlap :
    let t := recomputeConflicts 0 none (dayCalls [call, { call with id := 72, sa := some 50030, ea := some 50030, ec := some 50090 }])
    (∀ c ∈ t.ttu.calls, c.zone = 0 ∧ c.day = .current ∧ c.state = .planned) ∧ t.ttu.calls.map Call.partner = [some 72, some 71] ∧
    (recomputeConflicts 0 none (dayCalls [{ call with zone := 1 }, { call with state := .complete, partner := some 5 }])).ttu.calls.map
      Call.partner = [none, none] := by decide +kernel

theorem witness_PlanSetReplacesThePlan :
    CueFits cue ∧ CueClamps cue ∧ ¬ CueFits { cue with anchor := 1 } ∧ ¬ CueFits { cue with template := 64 } ∧
    (∃ s0, Handed (.planSet 7 (.fields { plan := 16, threshold := 60, cues := [] })) cold s0 ∧ 15 < 16) ∧
    (∃ s0, Handed (.planSet 7 (.fields { plan := 15, threshold := 60, cues := List.replicate 7 cue })) cold s0 ∧ 6 < 7) ∧
    (∃ s0, Handed (.planSet 7 (.fields { plan := 15, threshold := 60, cues := [{ cue with template := 64 }] })) cold s0 ∧ 63 < 64) ∧
    (∃ s0, Handed (.planSet 7 (.fields { plan := 15, threshold := 59, cues := List.replicate 6 cue })) cold s0 ∧
      (List.replicate 6 cue).length ≤ 6) := by
  refine ⟨⟨by decide, by decide, by decide, by decide, by simp [offsetFits, cue]⟩, by simp [CueClamps, cue], fun h => ?_,
    fun h => absurd h.template (by decide), given (by decide), given (by decide +kernel), given (by decide), given (by decide +kernel)⟩
  exact absurd (h.offset (Or.inl rfl)).2 (by decide)

/-! #### Inputs -/

theorem witness_InputsAreConfiguredAndCleared :
    let panel : InputConfigReq := { inputConfig with function := .firePanel 4095 4095 63 9 }
    let held := withInput { turning .general true with debounce := none, pending := true } day
    InputFits inputConfig ∧ InputFits panel ∧ InputClamps panel ∧ ¬ InputFits { inputConfig with input := 32 } ∧
    (∃ s0, Handed (.inputConfig 7 (.fields { inputConfig with input := 32 })) day s0 ∧ 31 < 32) ∧
    (∃ s0, Handed (.inputConfig 7 (.fields { inputConfig with function := .dispatch 39 })) day s0 ∧ (s0.zone 39).kind ≠ .platform) ∧
    (∃ s0, Handed (.inputConfig 7 (.fields inputConfig)) day s0 ∧ 31 < s0.fiu.inputs.length ∧ statusInput (s0.input 31) = false) ∧
    (∃ s0, Handed (.inputConfig 7 (.fields panel)) day s0 ∧ statusInput (s0.input 31) = false) ∧
    (∃ s0, Handed (.inputClear 7 (.fields 0)) day s0 ∧ s0.resetLine = false) ∧
    (∃ s0, Handed (.inputClear 7 (.fields 1)) held s0 ∧ (s0.input 0).sense = .level ∧ activeInput (s0.input 0) = true) ∧
    (∃ s0, Handed (.inputClear 7 (.fields 2)) held s0 ∧ (s0.input 1).sense = .edge) := by
  refine ⟨⟨by decide, by decide, by decide, trivial⟩, ⟨by decide, by decide, by decide, by decide, by decide, by decide⟩,
    Or.inr (Or.inr ⟨_, _, _, _, rfl, by decide⟩), fun h => absurd h.input (by decide), given (by decide), given (by decide),
    given (by decide), given (by decide), given (by decide), given (by decide), given (by decide)⟩

theorem witness_SamplesFollowTheDebounceTable :
    let sampled := withInput { coldInput with debounceMs := 0 } day
    day.resetLine = false ∧ (∀ i ∈ day.fiu.inputs, i.debounce = none) ∧ day.fiu.firstSample = true ∧
    sampled.fiu.firstSample = false ∧ (∀ i ∈ sampled.fiu.inputs, i.debounce = none) ∧
    (withInput { coldInput with debounce := some { candidate := false, samples := 0, due := false } } day).fiu.inputs[0]?.map
      (fun i => i.debounce.isSome) = some true ∧
    (coldInput.debounceMs ≤ 10 * 5 ∧ ¬ coldInput.debounceMs ≤ 10 * 4) := by decide +kernel

/-- An input of function `f` turns to the other level in `s`. -/
def turns (f : InputFunction) (level : Bool) (s : State) : State := withInput (turning f level) s
theorem witness_ADebounceExpiryIsATransition :
    let s := turns .general false day
    s.resetLine = false ∧ ((s.input 1).debounce = none) ∧
    (s.input 0).debounce = some { candidate := true, samples := 5, due := true } ∧
    activeAt (s.input 0).polarity true = true ∧ Leaves s (.debounceExpiry 0) := by
  refine ⟨by decide, by decide, by decide, by decide, rfl⟩
/-- 04, R58: the status goes from clear to set. -/
theorem witness_ADebounceExpiry_event :
    let s := withInput { turning .general false with notice := true } day
    statusInput (s.input 0) = false ∧ statusInput ((after s (.debounceExpiry 0)).input 0) = true := by decide +kernel
/-- 04, R65: an active transition of a wake-enabled input in NIGHT begins the warm-up for OPEN. -/
theorem witness_ADebounceExpiry_wake :
    let s := withInput { turning .general false with wake := true } (inMode .night)
    (s.input 0).wake = true ∧ (after s (.debounceExpiry 0)).smc.mode = .warming .opn 80 := by decide +kernel

/-- The set of `f` rises at the expiry of input 0 in `s`. -/
def Rise (f : InputFunction) (s : State) : Prop := Rises (turns f false s) (after (turns f false s) (.debounceExpiry 0)) f
/-- The set of `f` falls at the expiry of input 0 in `s`. -/
def Fall (f : InputFunction) (s : State) : Prop := Falls (turns f true s) (after (turns f true s) (.debounceExpiry 0)) f
/-- The turn, at its platform. -/
def here : Call := { turn with state := .atPlatform }
theorem witness_DetectionEdgesMoveTheCalls :
    Rise (.trainDetect 0) (dayCalls [call]) ∧ NoTrainAt (turns (.trainDetect 0) false (dayCalls [call])) 0 ∧
    MatchFor (turns (.trainDetect 0) false (dayCalls [call])) 0 call ∧
    Rise (.trainDetect 0) (dayCalls [here]) ∧ ¬ NoTrainAt (turns (.trainDetect 0) false (dayCalls [here])) 0 ∧
    Fall (.trainDetect 0) (dayCalls [here]) ∧ callAtPlatform (turns (.trainDetect 0) true (dayCalls [here])) 0 = some here ∧
    Fall (.trainDetect 0) day ∧ NoTrainAt (turns (.trainDetect 0) true day) 0 ∧
    Rise (.dispatch 0) (dayCalls [here]) ∧ (turns (.dispatch 0) false (dayCalls [here])).call? 7101 = some here ∧
    here.kind ≠ .arrival ∧ Fall (.dispatch 0) (dayCalls [here]) := by
  and_intros <;> first
    | decide +kernel
    | (unfold SetActive; decide +kernel)
    | (unfold NoTrainAt; decide +kernel)

/-- The key of the panel for platforms 0 and 1. -/
def panel : SourceKey := { key with kind := .input }
/-- Zone 0 is CLOSED. -/
def closed : State := dayZone (fun z => { z with base := .closed })
theorem witness_ClosureAndPanelEdgesReachTheZones :
    Rise (.platformClose 0) day ∧ (day.zone 0).base = .opn ∧ Fall (.platformClose 0) closed ∧
    SetLevel (turns (.platformClose 0) true closed) (.platformClose 0) ∧ Rise (.platformClose 0) closed ∧
    Fall (.platformClose 0) day ∧ Rise (.firePanel 0x100 1 0 10) day ∧
    ActivationEntry (turns (.firePanel 0x100 1 0 10) false day) panel 0 ∧
    NoEntry (turns (.firePanel 0x100 1 0 10) false day) (fun e => e.state = .active ∧ e.key = panel) ∧
    Fall (.firePanel 0x100 1 0 10) day ∧ Rise (.firePanel 0x100 1 0 10) (sourced [active panel]) ∧
    ¬ NoEntry (turns (.firePanel 0x100 1 0 10) false (sourced [active panel])) (fun e => e.state = .active ∧ e.key = panel) ∧
    Rise (.firePanel 0x100 1 0 10) (sourced (List.replicate 8 (active key))) ∧
    NoEntry (turns (.firePanel 0x100 1 0 10) false (sourced (List.replicate 8 (active key))))
      (fun e => e.state ≠ .free ∧ e.key = panel ∨ e.state ≠ .active) := by
  and_intros <;> first
    | decide +kernel
    | (unfold SetActive; decide +kernel)
    | (unfold SetLevel; decide +kernel)
    | (unfold NoEntry; decide +kernel)
    | (unfold ActivationEntry EntryFor NoEntry; decide +kernel)

/-- 06, R107 and 08, R128: a phrase in progress is marked CLOSE, a gap lets the zone go. -/
theorem witness_ClosureEdges_runs :
    (closureActive 0 (playing run)).channel 0 =
      some { run with zones := [{ zone := 0, gain := 0, mark := some .close, placement := placement }] } ∧
    attachedTo (closureActive 0 (playing { run with phase := .gap })) 0 0 = false ∧
    ((closureActive 0 (playing run)).zone 0).covering = none ∧ AttachedOnce (playing run) 0 ∧ 0 < (playing run).zrt.zones.length := by
  unfold AttachedOnce; decide +kernel

/-! #### Phrases, announcements and the composer -/

/-- Two lists agree where one maps to the other. -/
theorem pairs_of {α β : Type} {f : α → Option β} {xs : List α} {ys : List β} (h : xs.map f = ys.map some) :
    Pairs (fun x y => f x = some y) xs ys := by
  refine ⟨by simpa using congrArg List.length h, fun i x y hx hy => ?_⟩
  simpa [hx, hy] using congrArg (fun l => l[i]?) h

/-- An entry of a PHRASE_SET. -/
def entryOf (id duration : Nat) : PhraseReq := { id := id, duration := duration, location := 0 }
/-- A conditional segment around a NUMBER. -/
def segment : List RawToken := [{ code := 0x20, param := 0 }, { code := 2, param := 100 }, { code := 0x22, param := 0 }]
theorem witness_PhrasesAndTemplatesAreSet :
    (∃ s0, Handed (.phraseSet 7 (.fields [])) cold s0 ∧ s0.resetLine = false) ∧
    (∃ s0, Handed (.phraseSet 7 (.fields (List.replicate 17 (entryOf 1 1)))) cold s0 ∧ 16 < 17) ∧
    (∃ s0, Handed (.phraseSet 7 (.fields [entryOf 1 1, entryOf 2048 1])) cold s0 ∧ ∃ p ∈ [entryOf 1 1, entryOf 2048 1], 2047 < p.id) ∧
    (∃ s0, Handed (.phraseSet 7 (.fields [entryOf 1 1, entryOf 1 2])) cold s0 ∧ ¬ ([entryOf 1 1, entryOf 1 2].map PhraseReq.id).Nodup) ∧
    (∃ s0, Handed (.phraseSet 7 (.fields [entryOf 2047 601, entryOf 1 0, entryOf 3 600])) day s0 ∧
      (∀ p ∈ [entryOf 2047 601, entryOf 1 0, entryOf 3 600], p.id ≤ 2047) ∧
      ([entryOf 2047 601, entryOf 1 0, entryOf 3 600].map PhraseReq.id).Nodup) ∧
    (∃ s0, Handed (.templateSet 7 (.fields { template := 64, tokens := [] })) cold s0 ∧ 63 < 64) ∧
    (∃ s0, Handed (.templateSet 7 (.fields { template := 63, tokens := List.replicate 33 (phrase 1) })) cold s0 ∧ 32 < 33) ∧
    (∃ s0, Handed (.templateSet 7 (.fields { template := 63, tokens := [phrase 2048] })) cold s0 ∧ templateToken (phrase 2048) = none) ∧
    (∃ s0, Handed (.templateSet 7 (.fields { template := 63, tokens := segment })) cold s0 ∧ 63 ≤ 63) ∧
    Pairs (fun t x => templateToken t = some x) segment [.ifDelayed, .number 99, .endIf] ∧
    SegmentsNest [.ifDelayed, .number 99, .endIf] ∧ NumberClamps segment ∧
    Pairs (fun t x => templateToken t = some x) (segment.drop 2) [.endIf] ∧ ¬ SegmentsNest [.endIf] := by
  and_intros <;> first
    | exact given (by decide +kernel)
    | exact (pairs_of (f := templateToken) (by decide)).1
    | exact (pairs_of (f := templateToken) (by decide)).2
    | (unfold SegmentsNest; decide)
    | (unfold NumberClamps; decide)

theorem headerFits : HeaderFits header ∧ HeaderFits { header with priority := 7, latestStart := some 103199 } ∧
    ¬ HeaderFits { header with latestStart := some 103200 } ∧ ¬ HeaderFits { header with priority := 8 } := by
  refine ⟨⟨by decide, by decide, ?_, ?_⟩, ⟨by decide, by decide, ?_, ?_⟩, fun h => ?_, fun h => absurd h.priority (by decide)⟩
  · intro p h; cases h
  · intro t h; cases h
  · intro p h; cases h
  · intro t h; cases h; decide
  · exact absurd (h.latestStart _ rfl).2 (by decide)

/-- ANNOUNCE of `announcement`, changed by `f`. -/
def announces (f : AnnounceReq → AnnounceReq) : Instr := .announce 7 (.fields (f announcement))
theorem witness_AnnounceCreatesItsAnnouncement :
    (∃ s0, Handed (announces fun r => { r with tokens := [] }) day s0 ∧ s0.resetLine = false) ∧
    (∃ s0, Handed (announces fun r => { r with tokens := List.replicate 17 (phrase 1) }) day s0 ∧ 16 < 17) ∧
    (∃ s0, Handed (announces fun r => { r with tokens := [phrase 2048] }) day s0 ∧ ¬ HostTokenFits (phrase 2048)) ∧
    (∃ s0, Handed (announces fun r => { r with tokens := [{ code := 0x10, param := 0 }] }) day s0 ∧ FieldCode { code := 0x10, param := 0 }) ∧
    (∃ s0, Handed (announces fun r => { r with header := { header with call := some 71 } }) day s0 ∧ s0.call? 71 = none) ∧
    (∃ s0, Handed (announces fun r => { r with header := { header with chime := some 3 } }) day s0 ∧ s0.phrase? 3 = none) ∧
    (∃ s0, Handed (announces fun r => { r with tokens := [phrase 1, phrase 3] }) day s0 ∧
      MissingAt s0 [phrase 1, phrase 3] 1 ∧ ¬ MissingAt s0 [phrase 1, phrase 3] 0) ∧
    (∃ s0, Handed (announces fun r => { r with tokens := List.replicate 16 (phrase 1) }) day s0 ∧
      (∀ t ∈ List.replicate 16 (phrase 1), HostTokenFits t) ∧ (∀ k, ¬ MissingAt s0 (List.replicate 16 (phrase 1)) k) ∧
      s0.asc.slots.length < 64 ∧ inNight s0.smc.mode = false ∧
      ∃ z ∈ targetSet s0 [headerPair header], (s0.zone z).base = .opn ∧ (s0.zone z).covering = none ∧ (s0.zone z).queue.length < 12) := by
  have fits : HostTokenFits (phrase 1) := Or.inl ⟨rfl, by decide⟩
  refine ⟨given (by decide), given (by decide), ?_, ?_, given (by decide), given (by decide), ?_, ?_⟩
  · obtain ⟨s0, h, -⟩ : ∃ s0, Handed (announces fun r => { r with tokens := [phrase 2048] }) day s0 ∧ s0.resetLine = false :=
      given (by decide)
    exact ⟨s0, h, by unfold HostTokenFits FieldCode; decide⟩
  · obtain ⟨s0, h, -⟩ : ∃ s0, Handed (announces fun r => { r with tokens := [{ code := 0x10, param := 0 }] }) day s0 ∧
      s0.resetLine = false := given (by decide)
    exact ⟨s0, h, by unfold FieldCode; decide⟩
  · obtain ⟨s0, h, a, b⟩ : ∃ s0, Handed (announces fun r => { r with tokens := [phrase 1, phrase 3] }) day s0 ∧
      s0.phrase? 3 = none ∧ s0.phrase? 1 ≠ none := given (by decide)
    refine ⟨s0, h, ⟨phrase 3, rfl, rfl, a⟩, ?_⟩
    rintro ⟨t, e, -, c⟩
    cases e
    exact b c
  · obtain ⟨s0, h, a, b⟩ : ∃ s0, Handed (announces fun r => { r with tokens := List.replicate 16 (phrase 1) }) day s0 ∧
      s0.phrase? 1 ≠ none ∧ (s0.asc.slots.length < 64 ∧ inNight s0.smc.mode = false ∧
      ∃ z ∈ targetSet s0 [headerPair header], (s0.zone z).base = .opn ∧ (s0.zone z).covering = none ∧
        (s0.zone z).queue.length < 12) := given (by decide)
    refine ⟨s0, h, fun t m => List.eq_of_mem_replicate m ▸ fits, ?_, b⟩
    rintro k ⟨t, e, -, c⟩
    rw [List.eq_of_mem_replicate (List.mem_of_getElem? e)] at c
    exact a c

/-- `day` with all 64 slots in use by announcements of priority `p`. -/
def full (p : Nat) : State :=
  day.withAsc { day.asc with slots := (List.range 64).map (fun i => { slot with id := i + 1, priority := p }) }

/-- 05, R83: a full store of nothing lower has no victim, of a lower priority that is not playing it has one. -/
theorem witness_AnnounceIsRefusedAFullStore :
    (∃ s0, Handed (announces id) (full 7) s0 ∧ 64 ≤ s0.asc.slots.length ∧ (settleRound s0).isNone ∧
      ∀ x ∈ s0.asc.slots, x.priority < header.priority → 0 < runCount s0 x.id) ∧
    (∃ s0, Handed (announces id) (full 2) s0 ∧ 64 ≤ s0.asc.slots.length ∧
      ∃ x ∈ s0.asc.slots, x.priority < header.priority ∧ runCount s0 x.id = 0) ∧
    ((after (full 7) (announces id)).lnk.tx = some (.reply { kind := 0x42, tag := 7, result := refused .storeFull })) := by
  refine ⟨given (by decide), given (by decide), by decide +kernel⟩

/-- A latest start for the announcement of `slot`. -/
def late (t : Int) : Slot := { slot with latestStart := some t }
/-- Each reason of R97 at zone 0, and none by day. -/
theorem witness_RefusedFor :
    let q (n : Nat) : State := dayZone (fun z => { z with queue := List.replicate n { placement with priority := 3 } })
    RefusedFor (dayZone (fun z => { z with base := .isolated })) slot 0 .isolated ∧ RefusedFor closed slot 0 .closed ∧
    RefusedFor (inMode .night) slot 0 .night ∧ RefusedFor day (late 49999) 0 .expired ∧ RefusedFor (q 12) slot 0 .queueFull ∧
    (∀ reason, ¬ RefusedFor (q 11) (late 50000) 0 reason) ∧ DefersHere covered { slot with origin := .evac 1 } 0 ∧
    ¬ DefersHere covered { slot with origin := .evac 0 } 0 := by
  refine ⟨.inl ⟨rfl, by decide⟩, .inr (.inl ⟨rfl, by decide, by decide⟩), .inr (.inr (.inl ⟨rfl, by decide, by decide, .inl rfl, by decide⟩)),
    .inr (.inr (.inr (.inl ⟨rfl, by decide, by decide, ?_, 49999, rfl, by decide⟩))),
    .inr (.inr (.inr (.inr ⟨rfl, by decide, by decide, ?_, ?_, by decide⟩))), ?_, ⟨1, rfl, by decide, by decide⟩, ?_⟩
  · rintro ⟨h | ⟨_, h⟩, -⟩ <;> cases h
  · rintro ⟨h | ⟨_, h⟩, -⟩ <;> cases h
  · rintro ⟨t, h, -⟩; cases h
  · rintro reason (⟨-, h⟩ | ⟨-, -, h⟩ | ⟨-, -, -, ⟨h | ⟨_, h⟩, -⟩⟩ | ⟨-, -, -, -, t, h, e⟩ | ⟨-, -, -, -, -, h, -⟩)
    · revert h; decide
    · revert h; decide
    · cases h
    · cases h
    · cases h; revert e; decide
    · revert h; decide
  · rintro ⟨n, h, -, e⟩; cases h; exact e rfl
/-- 06, R97 and R98: placed in both platforms with stamps that follow one another; a full store loses its latest. -/
theorem witness_ACreationMakesItsAnnouncement :
    AnnouncementsOk day ∧ (create slot day).1 = .kept 1 { placed := 2, held := 0, refused := 0, full := 0 } ∧
    ((create slot day).2.zone 1).queue = [{ placement with announcement := 1, stamp := 1 }] ∧
    (create slot (inMode .night)).1 = .noTarget { placed := 0, held := 0, refused := 2, full := 0 } ∧
    (day.slot? (late 5).id).bind Slot.latestStart = slot.latestStart ∧
    StoreVictimFor (full 2) 3 ((full 2).asc.slots.take 63) { slot with id := 64, priority := 2 } [] ∧
    64 ≤ (full 2).asc.slots.length := by
  refine ⟨announcementsOk_of (by decide +kernel), by decide +kernel, by decide +kernel, by decide +kernel, by decide,
    ⟨by decide, by decide, by decide, by decide⟩, by decide⟩

theorem witness_ComposeBeginOpensAnEmptyBuffer :
    (∃ s0, Handed (.composeBegin 7 (.fields false)) day s0 ∧ s0.asc.composer = .idle) ∧
    (∃ s0, Handed (.composeBegin 7 (.fields false)) (composing (.filling [])) s0 ∧ s0.asc.composer = .filling []) ∧
    (∃ s0, Handed (.composeBegin 7 (.fields true)) (composing (.closed [.phrase 1])) s0 ∧ s0.asc.composer = .closed [.phrase 1]) ∧
    (∃ s0, Handed (.composeBegin 7 (.fields true)) (composing (.checking [.phrase 1] (storeHeader header) 6 0)) s0 ∧
      s0.asc.composer = .checking [.phrase 1] (storeHeader header) 6 0) := by
  and_intros <;> exact given (by decide)

/-- A composer that checks. -/
def checking (h : HeaderReq) : State := composing (.checking [.phrase 1] (storeHeader h) 7 0)
theorem witness_ACompositionIsFilledAndEnded :
    let full := List.replicate 48 (Token.phrase 1)
    let many := full ++ [.phrase 1, .phrase 1]
    (∃ s0, Handed (.composePart 7 (.fields [])) day s0 ∧ s0.resetLine = false) ∧
    (∃ s0, Handed (.composePart 7 (.fields (List.replicate 17 (phrase 1)))) day s0 ∧ 16 < 17) ∧
    (∃ s0, Handed (.composePart 7 (.fields [phrase 1])) day s0 ∧ s0.asc.composer = .idle) ∧
    (∃ s0, Handed (.composePart 7 (.fields [phrase 1])) (composing (.closed [])) s0 ∧ s0.asc.composer = .closed []) ∧
    (∃ s0, Handed (.composePart 7 (.fields [phrase 1])) (checking header) s0 ∧ s0.asc.composer = .checking [.phrase 1] (storeHeader header) 7 0) ∧
    (∃ s0, Handed (.composePart 7 (.fields (List.replicate 16 (phrase 1)))) (composing (.filling full)) s0 ∧
      s0.asc.composer = .filling full ∧ full.length + 16 ≤ 64) ∧
    (∃ s0, Handed (.composePart 7 (.fields (List.replicate 15 (phrase 1)))) (composing (.filling many)) s0 ∧
      s0.asc.composer = .filling many ∧ 64 < many.length + 15) ∧
    (∃ s0, Handed (.composeEnd 7 (.fields header)) (composing (.filling [])) s0 ∧ s0.asc.composer = .filling []) ∧
    (∃ s0, Handed (.composeEnd 7 (.fields header)) (checking header) s0 ∧ s0.asc.composer = .checking [.phrase 1] (storeHeader header) 7 0) ∧
    (∃ s0, Handed (.composeEnd 7 (.fields { header with priority := 8 })) (composing (.closed [.phrase 1])) s0 ∧
      s0.asc.composer = .closed [.phrase 1]) ∧
    (∃ s0, Handed (.composeEnd 7 (.fields header)) (composing (.filling [.dest])) s0 ∧
      s0.asc.composer = .filling [.dest] ∧ isCallField .dest = true) ∧
    (∃ s0, Handed (.composeEnd 7 (.fields { header with call := some 71 })) (composing (.closed [.phrase 1])) s0 ∧ s0.call? 71 = none) ∧
    (∃ s0, Handed (.composeEnd 7 (.fields header)) (composing (.filling [.phrase 1])) s0 ∧ s0.asc.composer = .filling [.phrase 1] ∧
      isCallField (.phrase 1) = false) := by
  and_intros <;> exact given (by decide)

theorem witness_ChecksCompleteAndAnnouncementsAreWithdrawn :
    let evac : State := day.withAsc { day.asc with slots := [{ slot with origin := .evac 0 }] }
    let gone : State := day.withAsc { day.asc with slots := [{ slot with withdrawn := true }] }
    day.resetLine = false ∧ day.asc.composer = .idle ∧
    (checking { header with call := some 71 }).asc.composer = .checking [.phrase 1] (storeHeader { header with call := some 71 }) 7 0 ∧
    (checking { header with call := some 71 }).call? 71 = none ∧
    (checking { header with chime := some 3 }).phrase? 3 = none ∧ (storeHeader { header with chime := some 3 }).call = none ∧
    (∃ s0, Handed (.withdraw 7 (.fields 9)) day s0 ∧ s0.slot? 9 = none) ∧
    (∃ s0, Handed (.withdraw 7 (.fields 9)) evac s0 ∧ s0.slot? 9 = some { slot with origin := .evac 0 }) ∧
    (∃ s0, Handed (.withdraw 7 (.fields 9)) (queued placement) s0 ∧ s0.slot? 9 = some slot ∧ s0.zrt.zones.length = 40) ∧
    (∃ s0, Handed (.withdraw 7 (.fields 9)) gone s0 ∧ s0.slot? 9 = some { slot with withdrawn := true }) := by
  and_intros <;> first | exact given (by decide) | decide

/-- Checks that succeed, and that miss the first phrase at each end of the positions 1 to 64. -/
theorem witness_ChecksComplete_phrases :
    let full := List.replicate 63 (Token.phrase 1) ++ [.phrase 3]
    let s (b : List Token) := composing (.checking b (storeHeader header) 7 0)
    (s full).asc.composer = .checking full (storeHeader header) 7 0 ∧ full[63]? = some (.phrase 3) ∧
    (s full).phrase? 3 = none ∧ (s full).phrase? 1 ≠ none ∧ (s [.phrase 3, .phrase 4]).phrase? 4 = none ∧
    (after (s full) .composeCheckCompletion).lnk.tx =
      some (.notice { day := 0, service := 50000, lost := 0, notice := .composeDone 7 (.failed .missingPhrase 64) }) ∧
    (after (s [.phrase 3, .phrase 4]) .composeCheckCompletion).lnk.tx =
      some (.notice { day := 0, service := 50000, lost := 0, notice := .composeDone 7 (.failed .missingPhrase 1) }) ∧
    ((after (s [.phrase 1]) .composeCheckCompletion).lnk.outbox.map NoticeEntry.notice) =
      [.composeDone 7 (.created 1 2 0 0)] := by decide +kernel

/-! #### Zones and sources -/

theorem zoneFits : ZoneFits zoneConfig ∧ ¬ ZoneFits { zoneConfig with zone := 40 } ∧ ¬ ZoneClamps zoneConfig ∧
    ZoneClamps { zoneConfig with nref := 121 } := by
  refine ⟨⟨by decide, by decide, by decide, by decide, ?_⟩, fun h => absurd h.zone (by decide), ?_, ?_⟩
  · intro p h; cases h
  · unfold ZoneClamps; decide
  · unfold ZoneClamps; decide

theorem witness_ZonesAndGroupsAreConfigured :
    let here : ZoneConfigReq := { zoneConfig with zone := 0 }
    zoneKindCode .platform = zoneConfig.kind ∧ lampCode .off = zoneConfig.lampMode ∧
    (∃ s0, Handed (.zoneConfig 7 (.fields { zoneConfig with zone := 40 })) day s0 ∧ 39 < 40) ∧
    (∃ s0, Handed (.zoneConfig 7 (.fields { zoneConfig with gmin := -1, gmax := -2 })) day s0 ∧ (-2 : Int) < -1) ∧
    (∃ s0, Handed (.zoneConfig 7 (.fields { here with address := 0x102 })) (queued placement) s0 ∧
      (s0.zone 0).address ≠ 0x102 ∧ (s0.zone 0).queue ≠ []) ∧
    (∃ s0, Handed (.zoneConfig 7 (.fields { here with enabled := false })) (playing run) s0 ∧
      (s0.zone 0).enabled = true ∧ attachedChannel s0 0 ≠ none) ∧
    (∃ s0, Handed (.zoneConfig 7 (.fields zoneConfig)) day s0 ∧ (s0.zone 39).queue = []) ∧
    (∃ s0, Handed (.groupSet 7 (.fields { select := 0, value := 0 })) day s0 ∧ s0.resetLine = false) ∧
    (∃ s0, Handed (.groupSet 7 (.fields { select := 0x8002, value := 0x8000 })) (queued placement) s0 ∧
      s0.zrt.groups.getLsbD 1 = true ∧ (s0.zone 0).address.toNat / 256 = 1 ∧ AttachedOnce s0 0) ∧
    (∃ s0, Handed (.groupSet 7 (.fields { select := 0x8002, value := 0x8000 })) (playing run) s0 ∧
      s0.zrt.groups.getLsbD 1 = true ∧ (s0.zone 0).address.toNat / 256 = 1 ∧ AttachedOnce s0 0) := by
  unfold AttachedOnce
  and_intros <;> first | exact given (by decide) | decide

/-- `closed`, input 0 holding the closure. -/
def held : State := withInput { turning (.platformClose 0) true with debounce := none } closed
theorem witness_ZoneStateSetsTheBaseState :
    let sets (z b : Nat) : Instr := .zoneState 7 (.fields { zone := z, state := b })
    baseCode .opn = 1 ∧ baseCode .closed = 2 ∧ baseCode .isolated = 3 ∧
    (∃ s0, Handed (sets 40 1) day s0 ∧ 39 < 40) ∧ (∃ s0, Handed (sets 39 0) day s0 ∧ 39 ≤ 39) ∧
    (∃ s0, Handed (sets 39 4) day s0 ∧ 3 < 4) ∧ (∃ s0, Handed (sets 0 1) day s0 ∧ (s0.zone 0).base = .opn) ∧
    (∃ s0, Handed (sets 0 1) held s0 ∧ (s0.zone 0).base = .closed) ∧ FirstHolding held (.platformClose 0) 0 ∧
    (∃ s0, Handed (sets 0 1) closed s0 ∧ (s0.zone 0).base = .closed ∧ ∀ n < 32, (s0.input n).function = .general) ∧
    (∃ s0, Handed (sets 0 2) (queued placement) s0 ∧ (s0.zone 0).base = .opn) ∧
    (∃ s0, Handed (sets 0 3) (playing run) s0 ∧ (s0.zone 0).base = .opn) ∧ AttachedOnce (playing run) 0 := by
  and_intros <;> first
    | exact given (by decide)
    | decide
    | (unfold AttachedOnce; decide)
    | (intro m h; omega)

/-- `covered` by a panel's source. -/
def panelled (i : Input) : State := withInput i ((sourced [active panel]).modifyZone 0 (fun z => { z with covering := some 0 }))
theorem witness_EvacuationsAreStartedAndCleared :
    let starts (a m t i : Nat) : Instr := .evacStart 7 (.fields { address := a, mask := m, template := t, interval := i })
    let full := sourced (List.replicate 8 (active panel))
    (∃ s0, Handed (starts 4096 1 0 10) day s0 ∧ 4095 < 4096) ∧ (∃ s0, Handed (starts 0x100 4096 0 10) day s0 ∧ 4095 < 4096) ∧
    (∃ s0, Handed (starts 0x100 1 64 10) day s0 ∧ 63 < 64) ∧
    (∃ s0, Handed (starts 0x100 1 0 10) (sourced [active panel, active key]) s0 ∧
      EntryFor s0 (fun e => e.state = .active ∧ e.key = key) 1) ∧
    (∃ s0, Handed (starts 0x100 1 0 9) full s0 ∧ NoEntry s0 (fun e => e.state = .active ∧ e.key = key) ∧
      NoEntry s0 (fun e => e.state ≠ .free ∧ e.key = key ∨ e.state ≠ .active)) ∧
    (∃ s0, Handed (starts 0x100 1 0 10) (sourced [active panel]) s0 ∧ s0.zrt.sources.length = 8 ∧
      NoEntry s0 (fun e => e.state = .active ∧ e.key = key) ∧ ActivationEntry s0 key 1) ∧
    (∃ s0, Handed (.evacClear 7 (.fields 8)) day s0 ∧ 7 < 8) ∧
    (∃ s0, Handed (.evacClear 7 (.fields 7)) day s0 ∧ (s0.source 7).state ≠ .active) ∧
    (∃ s0, Handed (.evacClear 7 (.fields 0)) (panelled { turning (.firePanel 0x100 1 0 10) true with debounce := none }) s0 ∧
      (s0.source 0).state = .active ∧ (s0.source 0).key.kind = .input ∧ Holding s0 (.firePanel 0x100 1 0 10) 0) ∧
    (∃ s0, Handed (.evacClear 7 (.fields 0)) (panelled coldInput) s0 ∧
      (s0.source 0).state = .active ∧ ∀ i < 32, (s0.input i).function = .general) ∧
    (∃ s0, Handed (.evacClear 7 (.fields 0)) covered s0 ∧ (s0.source 0).state = .active ∧ (s0.source 0).key.kind = .host) := by
  unfold ActivationEntry EntryFor NoEntry Holding
  and_intros <;> exact given (by decide +kernel)

/-- Source 0's evacuation announcement 9. -/
def evacSlot : Slot := { slot with priority := 7, origin := .evac 0 }
theorem witness_ZonesEnterAndLeaveEvacuate :
    let s := storing evacSlot (playing { run with priority := 7 })
    39 < day.zrt.zones.length ∧ AttachedOnce (playing run) 0 ∧ runOf (playing run) 0 = some run ∧ run.priority < 7 ∧
    attachedChannel (queued placement) 0 = none ∧ ofSource s 0 9 = true ∧ attachmentIn run 0 ≠ none ∧
    s.channel 0 = some { run with priority := 7 } ∧ (closed.zone 0).base = .closed ∧ (day.zone 0).base ≠ .closed ∧
    ((enterEvacuate 0 0 (day.zone 0) .evacuation false (queued placement)).zone 0).queue = [{ placement with condition := .held }] ∧
    ((leaveEvacuate 0 0 (queued { placement with condition := .held })).zone 0).queue = [placement] ∧
    ((handOver 0 0 1 false (storing evacSlot (queued placement))).zone 0).queue = [] := by
  and_intros <;> first | decide +kernel | (unfold AttachedOnce; decide)

/-! #### Playout, modes and the events of run time -/

theorem witness_PlayoutConfigSetsTheGap :
    (∃ s0, Handed (.playoutConfig 7 (.fields 9)) day s0 ∧ ¬ 9 < 9) ∧ (∃ s0, Handed (.playoutConfig 7 (.fields 10)) day s0 ∧ 9 < 10) ∧
    (∃ s0, Handed (.playoutConfig 7 .malformed) cold s0 ∧ s0.ple.gap = 3) ∧ 0 < cold.ple.gap := by
  and_intros <;> first | exact given (by decide) | decide

/-- A run attached to zones 0 and 1 with the marks. -/
def shared (a b : Option TruncateCause) : Run :=
  { run with zones := [{ zone := 0, gain := 0, mark := a, placement := placement }, { zone := 1, gain := 0, mark := b, placement := placement }] }
theorem witness_RunsGoOnPhraseByPhrase :
    (playing run).resetLine = false ∧ (playing run).channel 0 = some run ∧ reached run.phaseEnd (playing run).clock.runTime = true ∧
    reached ({ run with phaseEnd := 1 } : Run).phaseEnd (playing run).clock.runTime = false ∧
    (playing { run with phase := .gap }).channel 0 = some { run with phase := .gap } ∧
    ({ run with position := 1 } : Run).phrases.length ≤ 1 + 1 ∧ run.position + 1 < run.phrases.length ∧ run.zones ≠ [] ∧
    (∀ a ∈ run.zones, a.mark = none) ∧ ((shared none (some .withdrawal)).zones.map Attached.zone).Nodup ∧
    (∃ a ∈ (shared none (some .withdrawal)).zones, a.mark = none) ∧
    (∀ a ∈ (shared (some .withdrawal) (some .withdrawal)).zones, a.mark ≠ none) ∧ day.channel 0 = none := by decide

theorem witness_LampsShowTheirZones :
    let pulsed := dayZone (fun z => { z with lampMode := .pulsed, lampThreshold := 3 })
    let lit := (playing run).modifyZone 0 (fun z => { z with lampMode := .steady, lampThreshold := 3, pulseEnd := some 1 })
    (covered.zone 0).covering.isSome = true ∧ (day.zone 0).lampMode = .off ∧ (day.zone 0).covering = none ∧
    (lit.zone 0).lampMode = .steady ∧ lampOn lit 0 = true ∧ lampOn (lit.modifyZone 0 (fun z => { z with lampThreshold := 4 })) 0 = false ∧
    (pulsed.zone 0).lampMode = .pulsed ∧ lampOn pulsed 0 = false ∧ 0 < pulsed.ple.channels.length ∧
    (resolve pulsed slot).phrases ≠ [] ∧ slot.priority = 3 ∧ lit.channel 0 = some run ∧ attachmentIn run 0 ≠ none ∧
    (day.zone 39).pulseEnd = none ∧ ((dayZone (fun z => { z with pulseEnd := some 1 })).zone 0).pulseEnd = some 1 ∧
    reached 1 day.clock.runTime = false ∧ reached 0 day.clock.runTime = true := by decide +kernel

/-- A run whose part of zone 0 carries a placement under a mark. -/
def part (m : Option TruncateCause) (p : Placement) : State :=
  playing { run with zones := [{ zone := 0, gain := 0, mark := m, placement := p }] }
/-- `s`, source 0 voiced by announcement 9 and covering zone 0. -/
def voiced (s : State) : State :=
  (s.withZrt { s.zrt with
    sources := { active key with voice := .voiced 9 } :: List.replicate 7 coldSource }).modifyZone 0 (fun z => { z with covering := some 0 })
/-- A zone hands a placement back under each outcome; with repeats it rests, once interrupted it is abandoned. -/
theorem witness_APartsEndDisposesOfItsPlacement :
    let again : Placement := { placement with repeats := .count 1 }
    let broken : Placement := { placement with interrupted := 1 }
    (part none placement).channel 0 = some run ∧ attachmentIn run 0 = some { zone := 0, gain := 0, mark := none, placement := placement } ∧
    coveredWith (part (some .withdrawal) placement) 0 9 = false ∧ coveredWith (voiced (part (some .withdrawal) placement)) 0 9 = true ∧
    holdsPlacement (voiced (part (some .withdrawal) placement)) 0 9 = false ∧
    (voiced (part (some .withdrawal) placement)).slot? 9 = some slot ∧ slot.withdrawn = false ∧
    placement.repeats = .count 0 ∧ again.repeats = .count (0 + 1) ∧ broken.interrupted = 1 ∧
    ((endPart 0 .truncated false 0 (voiced (part (some .withdrawal) placement))).zone 0).queue.map Placement.priority = [7] ∧
    ((endPart 0 .completed false 0 (part none again)).zone 0).queue.map (fun p => (p.condition, p.repeats)) =
      [(.resting 100, .count 0)] ∧
    ((endPart 0 .cut false 0 (part none placement)).zone 0).queue = [{ placement with interrupted := 1 }] ∧
    ((endPart 0 .cut false 0 (part none broken)).zone 0).queue = [] := by decide +kernel
/-- Each reason of R101 at a zone. -/
theorem witness_DroppedFor :
    let s := queued placement
    let full := (storing slot day).modifyZone 0 (fun z => { z with queue := List.replicate 12 { placement with priority := 3 } })
    DroppedFor (storing { slot with withdrawn := true } s) 0 placement False .withdrawn ∧ DroppedFor s 0 placement True .abandoned ∧
    DroppedFor (s.modifyZone 0 (fun z => { z with base := .closed })) 0 placement False .closed ∧
    DroppedFor (expiring 49999) 0 placement False .expired ∧ DroppedFor full 0 placement False .displaced ∧
    (∀ reason, ¬ DroppedFor s 0 placement False reason) := by
  refine ⟨.inl ⟨rfl, ?_⟩, .inr (.inl ⟨rfl, ?_, trivial⟩), .inr (.inr (.inl ⟨rfl, ?_, not_false, by decide⟩)),
    .inr (.inr (.inr (.inl ⟨rfl, ?_, not_false, by decide, _, 49999, rfl, rfl, by decide⟩))),
    .inr (.inr (.inr (.inr ⟨rfl, ?_, not_false, by decide, ?_, by decide⟩))), ?_⟩
  · rintro x h; cases h; rfl
  · intro h; cases h slot rfl
  · intro h; cases h slot rfl
  · intro h; cases h { slot with latestStart := some 49999 } rfl
  · intro h; cases h slot rfl
  · rintro ⟨x, t, h, e, -⟩; cases h; cases e
  · rintro reason (⟨-, h⟩ | ⟨-, -, h⟩ | ⟨-, -, -, -, h, -⟩ | ⟨-, -, -, -, x, t, h, e, -⟩ | ⟨-, -, -, -, -, h, -⟩)
    · cases h slot rfl
    · exact h
    · revert h; decide
    · cases h; cases e
    · revert h; decide
/-- Room at priority 7, and none in a queue of twelve placements of 7. -/
theorem witness_APartsEnd_queues :
    let full := dayZone (fun z => { z with queue := List.replicate 12 { placement with priority := 7 } })
    hasRoom day 0 7 = true ∧ hasRoom full 0 7 = false ∧ hasRoom (queued placement) 0 placement.priority = true ∧
    QueueOk ((queued placement).zone 0).queue ∧ 0 < day.zrt.zones.length := by
  unfold QueueOk; decide

/-- 06, R100: of two of the lowest priority the youngest goes. -/
theorem witness_APartsEnd_victim :
    let p (i : Nat) : Placement := { placement with
      announcement := i, stamp := BitVec.ofNat 32 i, priority := if i < 10 then 4 else 2 }
    let s := (dayZone (fun z => { z with queue := (List.range 12).map p })).withZrt
      { (dayZone (fun z => { z with queue := (List.range 12).map p })).zrt with stampCounter := 12 }
    QueueVictimFor s 0 3 (p 11) ∧ 12 ≤ (s.zone 0).queue.length ∧ InOrder s.zrt.stampCounter (s.zone 0).queue ∧
    hasRoom s 0 3 = true ∧ QueueOk (s.zone 0).queue ∧ p 11 ∉ ((enterQueue 0 { placement with stamp := 12 } s).zone 0).queue := by
  unfold QueueVictimFor InOrder QueueOk; decide +kernel

/-- The window's edges: full and at its limits, one sample at Nref, and empty. -/
theorem witness_ARunStartTakesItsGains :
    let loud := dayZone (fun z => { z with window := List.replicate 8 120, nref := 30, slope := 8 })
    5 < 6 ∧ (loud.zone 0).gmin ≤ (loud.zone 0).gmax ∧ 30 ≤ (loud.zone 0).nref ∧ (∀ x ∈ (loud.zone 0).window, 30 ≤ x ∧ x ≤ 120) ∧
    (attachment loud 5 0 placement).gain = 0 ∧ (day.zone 0).window = [] ∧ (attachment day 5 0 placement).gain = -24 := by decide

/-- `queued`, the announcement waiting in zone 1 as well. -/
def both : State := (queued placement).modifyZone 1 (fun z => { z with queue := [placement] })
theorem witness_ARunStartTakesItsPlacements :
    7 < both.ple.channels.length ∧ (resolve both slot).phrases ≠ [] ∧ [0, 1].Nodup ∧
    (∀ z ∈ [0, 1], z < both.zrt.zones.length ∧ (placementIn both z slot.id).isSome = true) := by decide

/-- The announcement's content is gone from the directory. -/
def voided : Slot := { slot with content := .tokens [.phrase 3] }
/-- 05, "Templates and tokens": a kept and a dropped segment, a segment left open, a run start without a phrase. -/
theorem witness_ContentIsResolvedAtARunStart :
    let seg : List Token := [.number 100, .phrase 2]
    (∀ t ∈ seg, isMarker t = false) ∧ isMarker .ifDelayed = true ∧
    expandTokens day (some { call with changed := true }) none true (.phrase 1 :: .ifChanged :: (seg ++ .endIf :: [.cls])) = [1, 99, 2] ∧
    expandTokens day (some call) none true (.phrase 1 :: .ifChanged :: (seg ++ .endIf :: [.cls])) = [1] ∧
    expandTokens day (some { call with changed := true }) none true (.ifChanged :: seg) = [99, 2] ∧ isCallField .delay = true ∧
    (resolve day slot).phrases ≠ [] ∧ (resolve day voided).phrases = [] ∧ (resolve day voided).skipped = 1 ∧ 7 < day.ple.channels.length ∧
    (startRun 7 voided [0] none (storing voided (queued placement))).channel 7 = none := by decide +kernel

/-- Every channel plays, in zones 2 to 9, at priorities 3 and, on channel 5, 2. -/
def busy : State :=
  (both.withPle { both.ple with
    nextSeq := 8
    channels := (List.range 8).map (fun c => some { run with
      announcement := 20 + c, seq := BitVec.ofNat 32 c, priority := if c = 5 then 2 else 3
      zones := [{ zone := 2 + c, gain := 0, mark := none, placement := placement }] }) })
/-- `busy` with a candidate of the priority in zone 0. -/
def urgent (priority : Nat) : State :=
  (storing { slot with priority := priority } busy).modifyZone 0 (fun z => { z with queue := [{ placement with priority := priority }] })
theorem witness_TheArbiterTakesAChannel :
    candidate busy = some placement ∧ (∀ c < 8, busy.channel c ≠ none) ∧ placement.priority < 6 ∧
    candidate (urgent 6) = some { placement with priority := 6 } ∧ (∀ c < 8, (urgent 6).channel c ≠ none) ∧
    VictimFor (urgent 6) 6 5 (((urgent 6).channel 5).getD run) ∧
    ((urgent 6).channel 5) = some (((urgent 6).channel 5).getD run) ∧
    candidate both = some placement ∧ both.slot? 9 = some slot ∧ both.channel 0 = none := by
  have victim : (List.range 8).all (fun d => ((urgent 6).channel d).all (fun q => decide (2 < q.priority) || decide (d = 5))) = true := by
    decide +kernel
  refine ⟨by decide +kernel, by decide +kernel, by decide, by decide +kernel, by decide +kernel,
    ⟨by decide, by decide +kernel, by decide +kernel, fun d hd q h _ => ?_⟩, by decide +kernel, by decide +kernel, by decide +kernel,
    by decide +kernel⟩
  have := List.all_eq_true.mp victim d (List.mem_range.mpr hd)
  rw [h] at this
  simp only [Option.all_some, Bool.or_eq_true, decide_eq_true_eq] at this
  have two : (((urgent 6).channel 5).getD run).priority = 2 := by decide +kernel
  rcases this with h2 | rfl
  · exact .inl (by rw [two]; exact h2)
  · rw [h]; exact .inr ⟨rfl, .inr ⟨rfl, Nat.le_refl _⟩⟩
/-- The head of zone 0 seizes its zone from a run below 6. -/
theorem witness_TheArbiterSeizesZones :
    let s := (storing { slot with priority := 6 } (playing { run with announcement := 8 })).modifyZone 0 (fun z =>
      { z with queue := [{ placement with priority := 6 }] })
    seizes s 0 = true ∧ (∀ y < 0, seizes s y = false) ∧ AttachedOnce s 0 ∧ AdmittedHead s 0 { placement with priority := 6 } ∧
    eligibleHead s 0 = none ∧ eligibleHead both 0 = some placement ∧ AdmittedHead both 0 placement := by
  refine ⟨by decide +kernel, by decide +kernel, by unfold AttachedOnce; decide +kernel, ⟨?_, ?_, ?_, ?_, ?_, .inl rfl⟩, by decide +kernel,
    by decide +kernel, ⟨?_, ?_, ?_, ?_, ?_, .inl rfl⟩⟩ <;> decide

theorem witness_TheArbiterStartsTheOldestOfTheHighest :
    candidate both = some placement ∧ candidate day = none ∧ settleRound day = none ∧
    (∀ z < 40, eligibleHead day z = none) ∧ settleRound both ≠ none := by decide +kernel

theorem witness_ModeSetActsOnTheMode :
    let sets (m w : Nat) : Instr := .modeSet 7 (.fields { mode := m, warmUp := w })
    (∃ s0, Handed (sets 2 1) day s0 ∧ 2 ≠ 3) ∧ (∃ s0, Handed (sets 4 1) day s0 ∧ 4 ≠ 3) ∧
    (∃ s0, Handed (sets 0 0) day s0 ∧ s0.smc.mode = .opn) ∧ (∃ s0, Handed (sets 3 30) day s0 ∧ quiet s0 = true) ∧
    (∃ s0, Handed (sets 3 31) (playing run) s0 ∧ (runs s0).any (fun r => decide (r.priority < 6)) = true) ∧
    (∃ s0, Handed (sets 1 1) (inMode .night) s0 ∧ s0.smc.mode = .night) ∧
    (∃ s0, Handed (sets 1 1) (inMode .winding) s0 ∧ s0.smc.mode = .winding) ∧
    (∃ s0, Handed (sets 1 1) (inMode (.nightAlert none)) s0 ∧ s0.smc.mode = .nightAlert none) ∧
    (∃ s0, Handed (sets 3 1) (inMode (.warming .opn 9)) s0 ∧ s0.smc.mode = .warming .opn 9) := by
  and_intros <;> exact given (by decide)

theorem witness_WarmUpsAndHoldsSetTheMode :
    (inMode (.warming .opn 0)).resetLine = false ∧ (inMode (.warming .opn 0)).smc.mode = .warming .opn 0 ∧
    (inMode (.warming .night 0)).smc.mode = .warming .night 0 ∧ (inMode (.warming .nightAlert 0)).smc.mode = .warming .nightAlert 0 ∧
    reached 0 day.clock.runTime = true ∧ (inMode (.warming .opn 1)).smc.mode = .warming .opn 1 ∧ reached 1 day.clock.runTime = false ∧
    (inMode (.nightAlert (some 0))).smc.mode = .nightAlert (some 0) ∧ reached (0 + 600) (599 : RunTime) = false ∧
    reached (0 + 600) (600 : RunTime) = true := by decide

/-- By night: what an emergency does there (R149). -/
theorem witness_EmergenciesSetTheMode :
    let night := inMode .night
    let urgent : Instr := .announce 7 (.fields { announcement with header := { header with priority := 6 } })
    let start : EvacStartReq := { address := 0x100, mask := 1, template := 63, interval := 10 }
    night.smc.mode = .night ∧ (inMode (.warming .night 4294967295)).smc.mode = .warming .night 4294967295 ∧ day.smc.mode = .opn ∧
    quiet ((inMode (.nightAlert (some 0))).modifyZone 0 (fun z => { z with queue := [{ placement with priority := 6 }] })) = false ∧
    (∃ s0, Handed urgent night s0 ∧ s0.smc.mode = .night) ∧ (after night urgent).smc.mode = .warming .nightAlert 80 ∧
    (∃ s0, Handed (.evacStart 7 (.fields start)) night s0 ∧ s0.smc.mode = .night ∧
      NoEntry s0 (fun e => e.state = .active ∧ e.key = hostKey start) ∧ ActivationEntry s0 (hostKey start) 0) ∧
    (after night (.evacStart 7 (.fields start))).smc.mode = .warming .nightAlert 80 := by
  unfold ActivationEntry EntryFor NoEntry
  and_intros <;> first | exact given (by decide +kernel) | decide +kernel

theorem witness_RestsEndAndSamplesAreTaken :
    let resting (t : RunTime) : Placement := { placement with condition := .resting t }
    (queued (resting 0)).resetLine = false ∧ placementIn (queued (resting 0)) 0 9 = some (resting 0) ∧
    reached 0 (queued (resting 0)).clock.runTime = true ∧ placementIn (queued (resting 1)) 0 9 = some (resting 1) ∧
    reached 1 (queued (resting 1)).clock.runTime = false ∧ day.zrt.ambientDue = false ∧
    (day.withZrt { day.zrt with ambientDue := true }).zrt.ambientDue = true ∧ day.zrt.zones.length = 40 ∧
    (day.zone 0).enabled = true ∧ attachedChannel day 0 = none ∧ (day.zone 39).enabled = false := by decide
/-- Rests end together: one whose latest start passed a second ago, and one whose latest start is now. -/
theorem witness_RestsEnd_latestStarts :
    let resting : Placement := { placement with condition := .resting 0 }
    let s (t : Int) := storing { slot with latestStart := some t } (queued resting)
    startsBefore (s 50000) 50000 resting = false ∧ startsBefore (s 49999) 50000 resting = true ∧
    (after (s 49999) (.restEnd 0 9)).zone 0 = { day.zone 0 with queue := [] } ∧
    ((after ((s 50000).modifyZone 0 (fun z => { z with covering := some 0 })) (.restEnd 0 9)).zone 0).queue.map Placement.condition =
      [.held] := by decide +kernel

end Sys2Proof.Tests
end

/-! PROOFS. The expected times of a call (R32 to R35): the clamp to the extended range, what setting Da from AA leaves
alone, the three times of each kind, and the statement assembled from them. -/

namespace Sys2Proof.Machine

/-! ### The clamp to the extended range (R32) -/

theorem clampTime_eq (t : Int) : clampTime t = (max 0 (min 100799 t)).toNat :=
  congrArg Int.toNat (clampInt_eq (by decide) t)

theorem clampTime_natCast (n : Nat) : clampTime n = min 100799 n := by
  rw [clampTime_eq]; omega

theorem clampTime_of_neg {t : Int} (h : t < 0) : clampTime t = 0 := by
  rw [clampTime_eq]; omega

theorem clampTime_le (t : Int) : clampTime t ≤ 100799 := by
  rw [clampTime_eq]; omega

/-- A clamped time loses nothing of its value but at the ceiling. -/
theorem le_clampTime_or_ceiling (t : Int) : t ≤ clampTime t ∨ clampTime t = 100799 := by
  rw [clampTime_eq]; omega

theorem overCeiling_of_lt {t : Int} (h : 100799 < t) : overCeiling t = true := decide_eq_true h

theorem overCeiling_of_le {t : Int} (h : t ≤ 100799) : overCeiling t = false := decide_eq_false (Int.not_lt.mpr h)

/-! ### Da from AA (R33) -/

theorem deriveDelay_of_aa_none {c : Call} (h : c.aa = none) : deriveDelay c = c := by
  unfold deriveDelay; rw [h]

/-- Setting Da from AA touches Da and its clamp flag alone. -/
theorem deriveDelay_touches (c : Call) : ∃ d f, deriveDelay c = { c with da := d, clampArrival := f } := by
  unfold deriveDelay
  split
  · split
    · exact ⟨_, _, rfl⟩
    · exact ⟨c.da, c.clampArrival, rfl⟩
  · exact ⟨c.da, c.clampArrival, rfl⟩

@[simp] theorem deriveDelay_kind (c : Call) : (deriveDelay c).kind = c.kind := by
  obtain ⟨_, _, h⟩ := deriveDelay_touches c; rw [h]

@[simp] theorem deriveDelay_oa (c : Call) : (deriveDelay c).oa = c.oa := by
  obtain ⟨_, _, h⟩ := deriveDelay_touches c; rw [h]

@[simp] theorem rawDeparture_deriveDelay (c : Call) (ea : Nat) : rawDeparture (deriveDelay c) ea = rawDeparture c ea := by
  obtain ⟨_, _, h⟩ := deriveDelay_touches c; rw [h]; rfl

/-! ### EA (R34) and ED before its clamp (R35) -/

theorem expectedArrival_of_aa {c : Call} {a : Actual} (h : c.aa = some a) : expectedArrival c = a.time := by
  unfold expectedArrival; rw [h]

theorem expectedArrival_of_sa {c : Call} {sa : Nat} (haa : c.aa = none) (hsa : c.sa = some sa) :
    expectedArrival c = clampTime (sa + c.da) := by
  unfold expectedArrival; rw [haa, hsa]; rfl

theorem arrivalOver_of_sa {c : Call} {sa : Nat} (haa : c.aa = none) (hsa : c.sa = some sa) :
    arrivalOver c = overCeiling (sa + c.da) := by
  unfold arrivalOver; rw [haa, hsa]; rfl

/-- EA does not read the Da that is set from AA: where there is an AA, EA is AA. -/
@[simp] theorem expectedArrival_deriveDelay (c : Call) : expectedArrival (deriveDelay c) = expectedArrival c := by
  cases haa : c.aa with
  | none => rw [deriveDelay_of_aa_none haa]
  | some a =>
    obtain ⟨_, _, h⟩ := deriveDelay_touches c
    rw [expectedArrival_of_aa haa, h]
    exact expectedArrival_of_aa haa

theorem rawDeparture_of_departure {c : Call} {sd : Nat} (hk : c.kind = .departure) (hsd : c.sd = some sd) (ea : Nat) :
    rawDeparture c ea = sd + c.dd := by
  unfold rawDeparture; rw [hk, hsd]; rfl

theorem rawDeparture_of_turn {c : Call} {sd : Nat} (hk : c.kind = .turn) (hsd : c.sd = some sd) (ea : Nat) :
    rawDeparture c ea = max (sd + c.dd : Int) (ea + c.oa) := by
  unfold rawDeparture; rw [hk, hsd]; rfl

/-! ### The times of each kind (R34, R35) -/

theorem computeTimes_of_arrival {c : Call} (h : c.kind = .arrival) :
    computeTimes c = { deriveDelay c with
      ea := some (expectedArrival c), ed := none, ec := some (min 100799 (expectedArrival c + c.oa)),
      ceiling := arrivalOver (deriveDelay c) || overCeiling (expectedArrival c + c.oa : Nat) } := by
  simp [computeTimes, deriveTimes, h, ← clampTime_natCast]

theorem computeTimes_of_departure {c : Call} (h : c.kind = .departure) :
    computeTimes c = { deriveDelay c with
      ea := none, ed := some (clampTime (rawDeparture c 0)), ec := none, ceiling := overCeiling (rawDeparture c 0) } := by
  simp [computeTimes, deriveTimes, h]

theorem computeTimes_of_turn {c : Call} (h : c.kind = .turn) :
    computeTimes c = { deriveDelay c with
      ea := some (expectedArrival c), ed := some (clampTime (rawDeparture c (expectedArrival c))), ec := none,
      ceiling := arrivalOver (deriveDelay c) || overCeiling (rawDeparture c (expectedArrival c)) } := by
  simp [computeTimes, deriveTimes, h]

theorem computeTimes_ea {c : Call} (h : c.kind ≠ .departure) : (computeTimes c).ea = some (expectedArrival c) := by
  cases hk : c.kind with
  | arrival => rw [computeTimes_of_arrival hk]
  | departure => exact absurd hk h
  | turn => rw [computeTimes_of_turn hk]

/-- The expected times leave both clamp flags as setting Da left them. -/
theorem computeTimes_clampFlags (c : Call) :
    (computeTimes c).clampArrival = (deriveDelay c).clampArrival ∧ (computeTimes c).clampDeparture = c.clampDeparture := by
  have hdep : (deriveDelay c).clampDeparture = c.clampDeparture := by
    obtain ⟨_, _, h⟩ := deriveDelay_touches c; rw [h]
  cases hk : c.kind with
  | arrival => rw [computeTimes_of_arrival hk]; exact ⟨rfl, hdep⟩
  | departure => rw [computeTimes_of_departure hk]; exact ⟨rfl, hdep⟩
  | turn => rw [computeTimes_of_turn hk]; exact ⟨rfl, hdep⟩

/-- An EA at the lower clamp is 0 and sets no flag of its own. -/
theorem computeTimes_of_early {c : Call} {sa : Nat} (hk : c.kind ≠ .departure) (haa : c.aa = none) (hsa : c.sa = some sa)
    (hearly : (sa : Int) + c.da < 0) :
    (computeTimes c).ea = some 0 ∧ (computeTimes c).clampArrival = c.clampArrival ∧
      (computeTimes c).clampDeparture = c.clampDeparture ∧
      (c.kind = .arrival → c.oa ≤ 100799 → (computeTimes c).ceiling = false) := by
  have hea : expectedArrival c = 0 := by rw [expectedArrival_of_sa haa hsa, clampTime_of_neg hearly]
  obtain ⟨harr, hdep⟩ := computeTimes_clampFlags c
  rw [deriveDelay_of_aa_none haa] at harr
  refine ⟨by rw [computeTimes_ea hk, hea], harr, hdep, fun harrival hoa => ?_⟩
  have hover : arrivalOver c = false := by rw [arrivalOver_of_sa haa hsa]; exact overCeiling_of_le (by omega)
  have hclear : overCeiling (expectedArrival c + c.oa : Nat) = false := overCeiling_of_le (by omega)
  rw [computeTimes_of_arrival harrival, deriveDelay_of_aa_none haa, hover, hclear]; rfl

theorem computeTimes_departure_times {c : Call} {sd : Nat} (hk : c.kind = .departure) (hsd : c.sd = some sd) :
    (computeTimes c).ed = some (max 0 (min 100799 ((sd : Int) + c.dd))).toNat ∧ (computeTimes c).ec = none ∧
      (computeTimes c).ceiling = decide (100799 < (sd : Int) + c.dd) := by
  rw [computeTimes_of_departure hk, rawDeparture_of_departure hk hsd, clampTime_eq]
  exact ⟨rfl, rfl, rfl⟩

theorem computeTimes_turn_times {c : Call} {sd ea : Nat} (hk : c.kind = .turn) (hsd : c.sd = some sd)
    (hea : (computeTimes c).ea = some ea) :
    (computeTimes c).ed = some (max 0 (min 100799 (max ((sd : Int) + c.dd) ((ea : Int) + c.oa)))).toNat ∧
      (computeTimes c).ec = none ∧ (∀ d, (computeTimes c).ed = some d → ea + c.oa ≤ d ∨ d = 100799) ∧
      (100799 < max ((sd : Int) + c.dd) ((ea : Int) + c.oa) → (computeTimes c).ceiling = true) := by
  rw [computeTimes_ea (by rw [hk]; decide), Option.some.injEq] at hea
  rw [computeTimes_of_turn hk, hea, rawDeparture_of_turn hk hsd]
  refine ⟨by rw [clampTime_eq], rfl, fun d hd => ?_, fun hover => ?_⟩
  · have hceil := le_clampTime_or_ceiling (max ((sd : Int) + c.dd) ((ea : Int) + c.oa))
    rw [Option.some.inj hd] at hceil
    omega
  · simp [overCeiling_of_lt hover]

theorem computeTimes_arrival_times {c : Call} {ea : Nat} (hk : c.kind = .arrival) (hea : (computeTimes c).ea = some ea) :
    (computeTimes c).ed = none ∧ (computeTimes c).ec = some (min 100799 (ea + c.oa)) ∧
      (100799 < ea + c.oa → (computeTimes c).ceiling = true) := by
  rw [computeTimes_ea (by rw [hk]; decide), Option.some.injEq] at hea
  rw [computeTimes_of_arrival hk, hea]
  refine ⟨rfl, rfl, fun hover => ?_⟩
  have hclear : overCeiling (ea + c.oa : Nat) = true := overCeiling_of_lt (by omega)
  rw [hclear, Bool.or_true]

theorem computeTimes_le_ceiling {c : Call} {x : Nat} (h : (computeTimes c).ed = some x ∨ (computeTimes c).ec = some x) :
    x ≤ 100799 := by
  cases hk : c.kind with
  | arrival =>
    rw [computeTimes_of_arrival hk] at h
    obtain hed | hec := h
    · cases hed
    · rw [← Option.some.inj hec]; exact Nat.min_le_left ..
  | departure =>
    rw [computeTimes_of_departure hk] at h
    obtain hed | hec := h
    · rw [← Option.some.inj hed]; exact clampTime_le _
    · cases hec
  | turn =>
    rw [computeTimes_of_turn hk] at h
    obtain hed | hec := h
    · rw [← Option.some.inj hed]; exact clampTime_le _
    · cases hec

/-- Settles O32: each clause is the times of one kind, read off `computeTimes_of_arrival`, `computeTimes_of_departure`
and `computeTimes_of_turn`. -/
theorem theExpectedTimesFollowTheirRules : Obligations.TheExpectedTimesFollowTheirRules := by
  unfold Obligations.TheExpectedTimesFollowTheirRules
  refine ⟨fun c => ⟨fun hk => ?_, fun hk a haa => ?_, fun hk haa sa hsa => ⟨?_, ?_, ?_⟩⟩, fun c sd ea => ⟨?_, ?_, ?_, ?_⟩⟩
  · rw [computeTimes_of_departure hk]
  · rw [computeTimes_ea hk, expectedArrival_of_aa haa]
  · rw [computeTimes_ea hk, expectedArrival_of_sa haa hsa, clampTime_eq]
  · omega
  · exact computeTimes_of_early hk haa hsa
  · exact computeTimes_departure_times
  · exact computeTimes_turn_times
  · exact computeTimes_arrival_times
  · exact fun x => computeTimes_le_ceiling

end Sys2Proof.Machine


/-! PROOFS. The composer's opening (R86): what a handed request leaves, COMPOSE_BEGIN in each state of the composer, and
the statement assembled from them. -/

namespace Sys2Proof.Machine

open Sys2Proof.Claims

/-! ### A handed request (R158) -/

/-- A handed request with its fields is answered by its owner's result, after the owner's effect. -/
theorem serve_of_handed {α : Type} {c : Instr} {s s0 : State} (h : Handed c s s0) (a : α)
    (op : α → State → Result × State) : serve c (.fields a) op s = answer (op a s0).1 (op a s0).2 := by
  unfold serve; rw [show takeRequest c s = some s0 from h]; rfl

theorem exec_composeBegin_of_handed {tag : Byte} {restart : Bool} {s s0 : State}
    (h : Handed (.composeBegin tag (.fields restart)) s s0) :
    exec (.composeBegin tag (.fields restart)) s =
      .next (answer (composeBeginRequest restart s0).1 (composeBeginRequest restart s0).2) :=
  congrArg Host.Outcome.next (serve_of_handed h restart composeBeginRequest)

/-! ### COMPOSE_BEGIN by the composer's state (R86) -/

theorem composeBeginRequest_of_idle {s : State} (h : s.asc.composer = .idle) (restart : Bool) :
    composeBeginRequest restart s = (accepted [], setComposer (.filling []) s) := by
  unfold composeBeginRequest; rw [h]; rfl

theorem composeBeginRequest_of_checking {s : State} {b : List Token} {hd : Header} {tag : Byte} {start : RunTime}
    (h : s.asc.composer = .checking b hd tag start) (restart : Bool) :
    composeBeginRequest restart s = (refused .busy, s) := by
  unfold composeBeginRequest; rw [h]; rfl

/-- A composer with an open or a closed buffer is reopened by the restart flag alone. -/
theorem composeBeginRequest_of_buffer {s : State} {b : List Token}
    (h : s.asc.composer = .filling b ∨ s.asc.composer = .closed b) (restart : Bool) :
    composeBeginRequest restart s =
      if restart then (accepted [], setComposer (.filling []) s) else (refused .composerInUse, s) := by
  unfold composeBeginRequest
  obtain hfilling | hclosed := h
  · rw [hfilling]; rfl
  · rw [hclosed]; rfl

/-- Settles O44: the handed request leaves what `composeBeginRequest` gives, which the composer's state decides. -/
theorem composeBeginOpensAnEmptyBuffer : Obligations.ComposeBeginOpensAnEmptyBuffer := by
  unfold Obligations.ComposeBeginOpensAnEmptyBuffer OnlyAnswers
  intro tag restart s s0 hhanded
  simp only [exec_composeBegin_of_handed hhanded]
  refine ⟨fun hidle => ?_, fun b hbuffer => ⟨?_, ?_⟩, fun b hd g start hchecking => ?_⟩
  · rw [composeBeginRequest_of_idle hidle]; rfl
  · rintro rfl
    rw [composeBeginRequest_of_buffer hbuffer]; rfl
  · rintro rfl
    rw [composeBeginRequest_of_buffer hbuffer]; rfl
  · rw [composeBeginRequest_of_checking hchecking]

end Sys2Proof.Machine


/-! PROOFS. The gap between phrases (R141): a malformed request, what PLAYOUT_CONFIG sets, the gap that a run enters,
what a warm reset reroutes, and the statement assembled from them. -/

namespace Sys2Proof.Machine

open Sys2Proof.Claims

/-! ### PLAYOUT_CONFIG (R141) -/

/-- A handed request whose body has a length its kind does not allow is refused MALFORMED, without an effect. -/
theorem serve_malformed_of_handed {α : Type} {c : Instr} {s s0 : State} (h : Handed c s s0)
    (op : α → State → Result × State) : serve c .malformed op s = answer (refused .malformed) s0 := by
  unfold serve; rw [show takeRequest c s = some s0 from h]; rfl

theorem clampGap_ne (g : Nat) : clampGap g ≠ g ↔ 9 < g := by
  unfold clampGap; omega

theorem configurePlayout_eq (g : Nat) (s : State) :
    configurePlayout g s =
      (.accepted (decide (9 < g)) [] .nothing, s.withPle { s.ple with gap := min g 9 }) := by
  have hclamped : decide (clampGap g ≠ g) = decide (9 < g) := decide_eq_decide.mpr (clampGap_ne g)
  unfold configurePlayout
  rw [hclamped]; rfl

/-! ### The gap that a run enters (R127, R141) -/

theorem enterGap_of_pos {s : State} (h : 0 < s.ple.gap) (r : Run) :
    enterGap s r = { r with phase := .gap, phaseEnd := s.after s.ple.gap } :=
  if_neg (Nat.ne_of_gt h)

/-! ### What a warm reset does after its blocks (R124, R154) -/

theorem reissue_settles (n : Nat) (s : State) : Settles s (reissue n s) :=
  ((createEvac_settles n s).trans (settle_settles _)).trans (generate_settles _ _)

theorem reportWarmMode_settles (before : Mode) (s : State) : Settles s (reportWarmMode before s) := by
  cases before with
  | winding => exact generate_settles _ s
  | warming => exact generate_settles _ s
  | opn => exact .rfl s
  | night => exact .rfl s
  | nightAlert => exact .rfl s

theorem informActive_settles (s : State) : Settles s (informActive s) := by
  unfold informActive
  split
  · exact judgeHold_settles s
  · exact (emergencyEvent_settles s).trans (judgeHold_settles _)

/-- Once its blocks are reset, a warm reset works on announcements, coverage and sources alone. -/
theorem warmReset_reroutes (cause : RestartCause) (s : State) : Reroutes (warmBlocks s) (warmReset cause s) :=
  have hreported : Reroutes (warmBlocks s) (generate (.restarted cause) (warmBlocks s)) := (generate_settles _ _).reroutes
  have hrecovered := hreported.trans (forEach_reroutes (fun z s => setCovering_reroutes z (coveringOf s z) s) _)
  have hreissued := hrecovered.trans (forEach_settles reissue_settles _).reroutes
  have hinformed := hreissued.trans ((reportWarmMode_settles s.smc.mode _).trans (informActive_settles _)).reroutes
  hinformed.trans (settle_settles _).reroutes

/-- Settles O51: the request leaves what `configurePlayout` gives, and a warm reset keeps the gap with its blocks and
through the rerouting after them. -/
theorem playoutConfigSetsTheGap : Obligations.PlayoutConfigSetsTheGap := by
  unfold Obligations.PlayoutConfigSetsTheGap OnlyAnswers
  refine ⟨fun tag g s s0 hhanded => ?_, fun tag s s0 hhanded => ?_, fun s r hpos => ?_, rfl,
    fun s => ⟨warmReset .resetLine s, rfl, ?_⟩⟩
  · have hserved := serve_of_handed hhanded g configurePlayout
    rw [configurePlayout_eq] at hserved
    exact congrArg Host.Outcome.next hserved
  · exact congrArg Host.Outcome.next (serve_malformed_of_handed hhanded configurePlayout)
  · rw [enterGap_of_pos hpos]
    exact ⟨rfl, rfl⟩
  · exact (warmReset_reroutes .resetLine s).gap

end Sys2Proof.Machine


/-! PROOFS. The notice outbox (R161, R162): the class mask, the arbiter beside a frame in transmission, what meeting an
outbox with room or a full one leaves, and the statement assembled from them. -/

namespace Sys2Proof.Machine

/-! ### The class mask (R161, R163) -/

theorem enabledNotice_iff {l : Lnk} {n : Notice} :
    enabledNotice l n = true ↔ classOf n = .safety ∨ l.mask.getLsbD (classBit (classOf n)) = true := by
  simp [enabledNotice]

theorem generate_of_enabled {n : Notice} {s : State} (h : enabledNotice s.lnk n = true) :
    generate n s = s.withLnk (arbitrate (pushNotice s.lnk s.clock.day s.clock.service n)) :=
  congrArg s.withLnk (if_pos h)

theorem generate_of_disabled {n : Notice} {s : State} (h : ¬ enabledNotice s.lnk n = true) : generate n s = s :=
  congrArg s.withLnk (if_neg h)

/-! ### The transmit arbiter (R160) -/

theorem arbitrate_of_busy {l : Lnk} (h : l.tx ≠ none) : arbitrate l = l := by
  obtain ⟨f, hf⟩ := Option.ne_none_iff_exists'.mp h
  unfold arbitrate; rw [hf]

theorem arbitrate_outbox_suffix (l : Lnk) : (arbitrate l).outbox <:+ l.outbox := by
  unfold arbitrate
  split
  · exact List.suffix_rfl
  · split
    · exact List.suffix_rfl
    · split
      next hcons => rw [hcons]; exact List.suffix_cons ..
      next => exact List.suffix_rfl

/-! ### A notice meets the outbox (R161, R162) -/

section
variable {l : Lnk} {n : Notice} {oldest : NoticeEntry} {rest : List NoticeEntry} (day : BitVec 16) (service : Nat)

theorem pushNotice_of_room (hroom : l.outbox.length < 32) :
    pushNotice l day service n =
      { l with outbox := l.outbox ++ [{ day := day, service := service, lost := l.lost, notice := n }], lost := 0 } :=
  if_pos hroom

theorem pushNotice_of_full_safety (hout : l.outbox = oldest :: rest) (hfull : 32 ≤ l.outbox.length)
    (hclass : classOf n = .safety) :
    pushNotice l day service n =
      { l with
        outbox := rest ++
          [{ day := day, service := service, lost := min 255 (l.lost + (1 + oldest.lost)), notice := n }]
        lost := 0 } := by
  unfold pushNotice
  rw [if_neg (Nat.not_lt.mpr hfull), hclass, hout]; rfl

theorem pushNotice_of_full_other (hfull : 32 ≤ l.outbox.length) (hclass : classOf n ≠ .safety) :
    pushNotice l day service n = { l with lost := min 255 (l.lost + 1) } := by
  unfold pushNotice
  rw [if_neg (Nat.not_lt.mpr hfull), if_neg (mt eq_of_beq hclass)]; rfl

@[simp] theorem pushNotice_tx : (pushNotice l day service n).tx = l.tx := by
  unfold pushNotice
  split
  · rfl
  · split
    · split <;> rfl
    · rfl

theorem pushNotice_outbox_length_le (h : l.outbox.length ≤ 32) : (pushNotice l day service n).outbox.length ≤ 32 := by
  obtain hroom | hfull := Nat.lt_or_ge l.outbox.length 32
  · rw [pushNotice_of_room day service hroom]; simpa using hroom
  · by_cases hclass : classOf n = .safety
    · obtain ⟨oldest, rest, hout⟩ := List.exists_cons_of_length_pos (Nat.lt_of_lt_of_le (by decide) hfull)
      rw [pushNotice_of_full_safety day service hout hfull hclass]
      simpa [hout] using h
    · rwa [pushNotice_of_full_other day service hfull hclass]

/-- A full outbox loses one notice to each new one, and below the saturation the loss is counted once: in the new
notice, with the count that the oldest carried, or in the lost count. -/
theorem pushNotice_counts_loss (hout : l.outbox = oldest :: rest) (hfull : 32 ≤ l.outbox.length)
    (hbelow : l.lost + 1 + oldest.lost ≤ 255) :
    (pushNotice l day service n).lost + ((pushNotice l day service n).outbox.map NoticeEntry.lost).sum =
      l.lost + (l.outbox.map NoticeEntry.lost).sum + 1 := by
  by_cases hclass : classOf n = .safety
  · have hcarried : min 255 (l.lost + (1 + oldest.lost)) = l.lost + (1 + oldest.lost) := by omega
    rw [pushNotice_of_full_safety day service hout hfull hclass, hcarried, hout]
    simp only [List.map_append, List.map_cons, List.map_nil, List.sum_append, List.sum_cons, List.sum_nil]
    omega
  · have hraised : min 255 (l.lost + 1) = l.lost + 1 := by omega
    rw [pushNotice_of_full_other day service hfull hclass, hraised, Nat.add_right_comm]

end

/-! ### The statement (R161, R162) -/

/-- Beside a frame in transmission the arbiter begins nothing: an enabled notice only meets the outbox. -/
theorem generate_of_busy {n : Notice} {s : State} (htx : s.lnk.tx ≠ none) (henabled : enabledNotice s.lnk n = true) :
    generate n s = s.withLnk (pushNotice s.lnk s.clock.day s.clock.service n) := by
  rw [generate_of_enabled henabled, arbitrate_of_busy (by rwa [pushNotice_tx])]

theorem generate_outbox_length_le (n : Notice) {s : State} (h : s.lnk.outbox.length ≤ 32) :
    (generate n s).lnk.outbox.length ≤ 32 := by
  by_cases henabled : enabledNotice s.lnk n = true
  · rw [generate_of_enabled henabled]
    exact (arbitrate_outbox_suffix _).length_le.trans (pushNotice_outbox_length_le _ _ h)
  · rwa [generate_of_disabled henabled]

/-- Settles O9: an enabled notice leaves what `pushNotice` gives, which the room in the outbox and the notice's class
decide; with a frame in transmission the arbiter after it begins nothing. -/
theorem noticesEnterTheOutboxOrAreLost : Obligations.NoticesEnterTheOutboxOrAreLost := by
  unfold Obligations.NoticesEnterTheOutboxOrAreLost
  refine ⟨fun n s => ⟨fun hclass hmasked => ?_, fun henabled hroom => ?_, generate_outbox_length_le n⟩,
    fun n s oldest rest htx hout hrest => ?_⟩
  · exact generate_of_disabled (by simp [enabledNotice_iff, hclass, hmasked])
  · rw [generate_of_enabled (enabledNotice_iff.mpr henabled), pushNotice_of_room _ _ hroom]
  · have hfull : 32 ≤ s.lnk.outbox.length := by simp [hout, hrest]
    refine ⟨fun hclass => ?_, fun hclass hunmasked => ?_, fun henabled hbelow => ?_⟩
    · rw [generate_of_busy htx (enabledNotice_iff.mpr (.inl hclass)),
        pushNotice_of_full_safety _ _ hout hfull hclass]
    · rw [generate_of_busy htx (enabledNotice_iff.mpr (.inr hunmasked)), pushNotice_of_full_other _ _ hfull hclass]
    · rw [generate_of_busy htx (enabledNotice_iff.mpr henabled)]
      exact pushNotice_counts_loss _ _ hout hfull hbelow

end Sys2Proof.Machine


/-! PROOFS. The commands in one form: what an owner answers to a request (`owner`), what an event does out of reset
(`happens`), what each request of a chapter can answer (`Outcome`), and the statements on the queue of requests (R158). -/

namespace Sys2Proof.Machine

open Sys2Proof.Claims

/-! ### Requests and their owners -/

/-- What the owner of a request makes of its body: MALFORMED, or what `op` makes of its fields (R158). -/
def served {α : Type} (op : α → State → Result × State) : Body α → State → Result × State
  | .malformed, s => (refuse .malformed, s)
  | .fields a, s => op a s

/-- An owner that answers and has no other effect. -/
def reading {α : Type} (op : α → State → Result) (a : α) (s : State) : Result × State := (op a s, s)

/-- What the owner of a request command answers and leaves in the state it is handed in (R158). -/
def owner : Instr → State → Result × State
  | .unknownKind _ _ => reading (fun _ _ => refuse .unknownKind) ()
  | .identify _ b => served (reading fun _ _ => accept false identifyBody) b
  | .statusRead _ b => served (reading fun _ s => accept false (statusBody s)) b
  | .restart _ b => served (reading fun _ _ => .accepted false [] .warmReset) b
  | .linkConfig _ b => served (reading configureLink) b
  | .noticeMask _ b => served setMask b
  | .clockHold _ b => served (fun _ => holdClock) b
  | .clockSet _ b => served setClock b
  | .clockRelease _ b => served (fun _ => releaseClock) b
  | .clockRead _ b => served (reading fun _ s => accept false (clockBody s.clock)) b
  | .dayConfig _ b => served configureDay b
  | .callLoad _ b => served loadCall b
  | .callDelete _ b => served deleteCall b
  | .callDelay _ b => served delayCall b
  | .callPlatform _ b => served platformCall b
  | .callCancel _ b => served cancelCall b
  | .callReport _ b => served reportCall b
  | .callRead _ b => served (reading readCall) b
  | .callList _ b => served (reading listCalls) b
  | .planSet _ b => served setPlan b
  | .inputConfig _ b => served configureInput b
  | .inputRead _ b => served (reading readInputs) b
  | .inputClear _ b => served clearInputs b
  | .phraseSet _ b => served setPhrases b
  | .templateSet _ b => served setTemplate b
  | .announce tag b => served (announceRequest tag) b
  | .composeBegin _ b => served composeBeginRequest b
  | .composePart _ b => served composePartRequest b
  | .composeEnd tag b => served (composeEndRequest tag) b
  | .withdraw _ b => served withdrawRequest b
  | .storeRead _ b => served (reading readStore) b
  | .zoneConfig _ b => served configureZone b
  | .groupSet _ b => served setGroups b
  | .zoneState _ b => served zoneStateRequest b
  | .zoneRead _ b => served (reading readZones) b
  | .evacStart _ b => served startEvac b
  | .evacClear _ b => served clearEvac b
  | .playoutConfig _ b => served configurePlayout b
  | .channelRead _ b => served (reading readChannels) b
  | .modeSet _ b => served setModeRequest b
  | _ => fun s => (refuse .malformed, s)

/-- A request command leaves the part alone, or is handed and answered by its owner (R158). -/
theorem serve_eq {α : Type} (c : Instr) (body : Body α) (op : α → State → Result × State) (s : State) :
    serve c body op s = (takeRequest c s).elim s (fun s0 => reply (served op body s0)) := by
  unfold serve
  cases takeRequest c s with
  | none => rfl
  | some s0 => cases body <;> rfl

theorem serveRead_eq {α : Type} (c : Instr) (body : Body α) (op : α → State → Result) (s : State) :
    serveRead c body op s = (takeRequest c s).elim s (fun s0 => reply (served (reading op) body s0)) :=
  serve_eq c body (reading op) s

/-- A command that spells a request is that request's taking. -/
theorem exec_of_request {c : Instr} (h : (requestOf c).isSome = true) (s : State) :
    exec c s = .next ((takeRequest c s).elim s (fun s0 => reply (owner c s0))) := by
  cases c with
  | powerOn | resetAssert | resetRelease | frameReceived | interByteTimeout | frameTransmitted | secondOfStationTime |
      debounceExpiry | composeCheckCompletion | restEnd | ambientSample | phraseCompletion | gapEnd | lampPulseEnd |
      warmUpEnd | alertHoldExpiry | tenthOfRunTime | inputSampling => cases h
  | unknownKind | identify | statusRead | restart | linkConfig | clockRead | callRead | callList | inputRead |
      storeRead | zoneRead | channelRead => exact congrArg Host.Outcome.next (serveRead_eq _ _ _ s)
  | noticeMask | clockHold | clockSet | clockRelease | dayConfig | callLoad | callDelete | callDelay | callPlatform |
      callCancel | callReport | planSet | inputConfig | inputClear | phraseSet | templateSet | announce | composeBegin |
      composePart | composeEnd | withdraw | zoneConfig | groupSet | zoneState | evacStart | evacClear | playoutConfig |
      modeSet => exact congrArg Host.Outcome.next (serve_eq _ _ _ s)

theorem exec_of_handed {c : Instr} {s s0 : State} (hr : (requestOf c).isSome = true) (h : Handed c s s0) :
    exec c s = .next (answer (owner c s0).1 (owner c s0).2) := by
  rw [exec_of_request hr, show takeRequest c s = some s0 from h]; rfl

/-! ### Events -/

/-- What an event does out of reset. -/
def happens : Instr → State → State
  | .frameReceived bytes => forEach bytes receiveByte
  | .interByteTimeout => timeOut
  | .frameTransmitted => endFrame
  | .secondOfStationTime order => fun s =>
    if isSecond s.clock then secondTenth order (takeOverdue s) else s
  | .debounceExpiry n => takeExpiry n
  | .composeCheckCompletion => completeCheck
  | .restEnd z a => takeRestEnd z a
  | .ambientSample readings => takeReadings readings
  | .phraseCompletion c => takePhraseEnd c
  | .gapEnd c => takeGapEnd c
  | .lampPulseEnd z => takePulseEnd z
  | .warmUpEnd => takeWarmUpEnd
  | .alertHoldExpiry => takeHoldExpiry
  | .tenthOfRunTime => takeTenth
  | .inputSampling levels => fun s =>
    let s1 := takeExpiries s
    (s1.withPins { s1.pins with inputs := levels }).withFiu (sampledFiu levels s1.fiu)
  | _ => id

/-- What a command does while the part is in reset: the sampling commands state their levels (log entry 20). -/
def stated : Instr → State → State
  | .ambientSample readings, s => s.withPins { s.pins with noise := readings }
  | .inputSampling levels, s => s.withPins { s.pins with inputs := levels }
  | _, s => s

/-- What an event, or a change of the RESET line, leaves. -/
def eventAfter : Instr → State → State
  | .powerOn, s => coldReset s
  | .resetAssert, s => (s.withResetLine true).withLnk { s.lnk with tx := none }
  | .resetRelease, s => warmReset .resetLine s
  | c, s => if s.resetLine then stated c s else happens c s

theorem exec_of_event {c : Instr} (h : requestOf c = none) (s : State) : exec c s = .next (eventAfter c s) := by
  cases c with
  | secondOfStationTime order =>
    refine congrArg Host.Outcome.next ?_
    simp only [eventAfter, happens, stated]
    cases s.resetLine <;> simp
  | powerOn | resetAssert | resetRelease | frameReceived | interByteTimeout | frameTransmitted |
      debounceExpiry | composeCheckCompletion | restEnd | ambientSample | phraseCompletion | gapEnd | lampPulseEnd |
      warmUpEnd | alertHoldExpiry | tenthOfRunTime | inputSampling => rfl
  | unknownKind | identify | statusRead | restart | linkConfig | clockRead | callRead | callList | inputRead |
      storeRead | zoneRead | channelRead => cases h
  | noticeMask | clockHold | clockSet | clockRelease | dayConfig | callLoad | callDelete | callDelay | callPlatform |
      callCancel | callReport | planSet | inputConfig | inputClear | phraseSet | templateSet | announce | composeBegin |
      composePart | composeEnd | withdraw | zoneConfig | groupSet | zoneState | evacStart | evacClear | playoutConfig |
      modeSet => cases h

/-- A command leaves what its event does, or what the taking of its request does; no command stops the part. -/
theorem exec_cases (c : Instr) (s : State) :
    (requestOf c = none ∧ exec c s = .next (eventAfter c s)) ∨ exec c s = .next s ∨
      ∃ s0, (requestOf c).isSome = true ∧ takeRequest c s = some s0 ∧ exec c s = .next (reply (owner c s0)) := by
  cases hr : requestOf c with
  | none => exact .inl ⟨rfl, exec_of_event hr s⟩
  | some r =>
    have hreq : (requestOf c).isSome = true := by rw [hr]; rfl
    rw [exec_of_request hreq]
    cases ht : takeRequest c s with
    | none => exact .inr (.inl rfl)
    | some s0 => exact .inr (.inr ⟨s0, rfl, rfl, rfl⟩)

/-! ### The taking of a request (R158) -/

/-- The queue with the frame of a request added as the newest. -/
theorem takeRequest_eq_some {c : Instr} {s s0 : State} : takeRequest c s = some s0 ↔
    s.resetLine = false ∧
      ((∃ r, oldestUnanswered s.lnk = some r ∧ decodeRequest r = c ∧ s0 = s) ∨
        (oldestUnanswered s.lnk = none ∧ s.lnk.queue.length < 4 ∧
          ∃ r, requestOf c = some r ∧ decodeRequest r = c ∧ s0 = s.withLnk (enqueue r s.lnk))) := by
  unfold takeRequest handed
  cases s.resetLine with
  | true => simp
  | false =>
    cases oldestUnanswered s.lnk with
    | some r =>
      by_cases hd : decodeRequest r = c <;> simp [hd, eq_comm (a := s0)]
    | none =>
      cases requestOf c with
      | none => simp
      | some r =>
        by_cases hq : s.lnk.queue.length < 4 <;> by_cases hd : decodeRequest r = c <;>
        simp [hq, hd, eq_comm (a := s0)]

/-- A request that is handed spells itself: the commands of the events are not decoded from any frame. -/
theorem requestOf_decodeRequest_isSome (r : Request) : (requestOf (decodeRequest r)).isSome = true := by
  unfold decodeRequest
  simp only
  split <;> rfl

theorem isRequest_of_handed {c : Instr} {s s0 : State} (h : Handed c s s0) : (requestOf c).isSome = true := by
  obtain ⟨-, ⟨r, -, rfl, -⟩ | ⟨-, -, r, hr, -, -⟩⟩ := takeRequest_eq_some.mp h
  · exact requestOf_decodeRequest_isSome r
  · rw [hr]; rfl

/-- A handed request is answered with its owner's result, after its owner's effect. -/
theorem exec_eq_of_handed {c : Instr} {s s0 : State} (h : Handed c s s0) :
    exec c s = .next (answer (owner c s0).1 (owner c s0).2) :=
  exec_of_handed (isRequest_of_handed h) h

/-- The state a request is handed in differs from the state before it in the queue of requests alone. -/
theorem takeRequest_rest {c : Instr} {s s0 : State} (h : takeRequest c s = some s0) :
    ∃ q, s0 = s.withLnk { s.lnk with queue := q } := by
  obtain ⟨-, ⟨r, -, -, rfl⟩ | ⟨-, -, r, -, -, rfl⟩⟩ := takeRequest_eq_some.mp h
  · exact ⟨_, rfl⟩
  · exact ⟨_, rfl⟩

/-! ### The generation of a reply (R158 to R160) -/

theorem arbitrate_of_reply {l : Lnk} {r : Reply} {rs : List Reply} (htx : l.tx = none) (hr : l.replies = r :: rs) :
    arbitrate l = { l with tx := some (.reply r), replies := rs } := by
  unfold arbitrate; rw [htx, hr]

theorem arbitrate_of_notice {l : Lnk} {n : NoticeEntry} {ns : List NoticeEntry} (htx : l.tx = none)
    (hr : l.replies = []) (ho : l.outbox = n :: ns) :
    arbitrate l = { l with tx := some (.notice n), outbox := ns } := by
  unfold arbitrate; rw [htx, hr, ho]

theorem arbitrate_of_empty {l : Lnk} (hr : l.replies = []) (ho : l.outbox = []) : arbitrate l = l := by
  unfold arbitrate; rw [hr, ho]; cases l.tx <;> rfl

theorem find_unanswered {before after : List Request} {r : Request} (hb : ∀ q ∈ before, q.answered = true)
    (hr : r.answered = false) : (before ++ r :: after).find? (fun q => !q.answered) = some r := by
  rw [List.find?_append, List.find?_eq_none.mpr (by simpa using hb)]
  simp [hr]

theorem markAnswered_append {before after : List Request} {r : Request} (hb : ∀ q ∈ before, q.answered = true)
    (hr : r.answered = false) :
    markAnswered (before ++ r :: after) = before ++ { r with answered := true } :: after := by
  induction before with
  | nil => simp [markAnswered, hr]
  | cons q qs ih =>
    rw [List.forall_mem_cons] at hb
    simp only [List.cons_append, markAnswered, hb.1, if_true, ih hb.2]

/-- Settles O1. -/
theorem stepRunsTheFrontCommand : Obligations.StepRunsTheFrontCommand := by
  unfold Obligations.StepRunsTheFrontCommand
  refine ⟨fun c rest s h => ?_, fun s h => ?_⟩
  · unfold step; rw [h]
  · unfold step; rw [h]

/-- Settles O3: the taking of a request by its two ways (`takeRequest_eq_some`), and the arbiter on the queue with its
oldest unanswered request marked. -/
theorem requestsAreHandedAndAnsweredInOrder : Obligations.RequestsAreHandedAndAnsweredInOrder := by
  unfold Obligations.RequestsAreHandedAndAnsweredInOrder
  refine ⟨⟨fun c s s0 => takeRequest_eq_some, fun c r s hr ht => ?_⟩, fun res s before after r hq hb hr => ?_⟩
  · rw [exec_of_request (by rw [hr]; rfl), ht]; rfl
  · have hold : oldestUnanswered s.lnk = some r := by unfold oldestUnanswered; rw [hq, find_unanswered hb hr]
    have hans : answerLnk s.lnk res = arbitrate { s.lnk with
        queue := before ++ { r with answered := true } :: after
        replies := s.lnk.replies ++ [{ kind := r.kind, tag := r.tag, result := res }] } := by
      unfold answerLnk; rw [hold, hq, markAnswered_append hb hr]
    refine ⟨_, congrArg s.withLnk hans, ?_⟩
    cases htx : s.lnk.tx with
    | some f =>
      rw [arbitrate_of_busy (by simp [htx])]
      simp [htx]
    | none =>
      cases hreplies : s.lnk.replies with
      | nil =>
        rw [arbitrate_of_reply (r := { kind := r.kind, tag := r.tag, result := res }) (rs := []) (by exact htx) rfl]
        simp
      | cons x xs =>
        rw [arbitrate_of_reply (r := x) (rs := xs ++ [{ kind := r.kind, tag := r.tag, result := res }])
          (by exact htx) rfl]
        simp

end Sys2Proof.Machine


/-! PROOFS. What the owner of each request can make of it: a refusal that leaves the part as it was, or an acceptance
with its one effect (`Outcome`). -/

namespace Sys2Proof.Machine

/-- A request is refused and leaves the part as it was, or accepted with an effect, asking for no rate out of range. -/
inductive Outcome (E : State → Prop) (s : State) : Result × State → Prop where
  | refused (code : Code) (detail : Nat) : Outcome E s (.refused code detail, s)
  | accepted (clamped : Bool) (body : List Byte) (atEnd : AtEnd) (hrate : rateOk atEnd) {t : State} (h : E t) :
      Outcome E s (.accepted clamped body atEnd, t)

namespace Outcome

theorem accept {E : State → Prop} {s t : State} (clamped : Bool) (body : List Byte) (h : E t) :
    Outcome E s (accept clamped body, t) := .accepted clamped body .nothing trivial h

theorem mono {E F : State → Prop} {s : State} {r : Result × State} (h : Outcome E s r) (hEF : ∀ t, E t → F t) :
    Outcome F s r := by
  cases h with
  | refused code detail => exact .refused code detail
  | accepted clamped body atEnd hrate h => exact .accepted clamped body atEnd hrate (hEF _ h)

/-- What holds of the state before and after every effect holds of the state left. -/
theorem state {E : State → Prop} {s : State} {r : Result × State} (h : Outcome E s r) {P : State → Prop} (hs : P s)
    (hE : ∀ t, E t → P t) : P r.2 := by
  cases h with
  | refused code detail => exact hs
  | accepted clamped body atEnd hrate h => exact hE _ h

theorem rateOk_result {E : State → Prop} {s : State} {r : Result × State} (h : Outcome E s r) : rateOk (atEndOf r.1) := by
  cases h with
  | refused code detail => trivial
  | accepted clamped body atEnd hrate h => exact hrate

theorem of_refused {E : State → Prop} {s : State} {r : Result × State} (h : Outcome E s r) {code : Code} {d : Nat}
    (hr : r.1 = .refused code d) : r.2 = s := by
  cases h with
  | refused => rfl
  | accepted => cases hr

theorem served {α : Type} {op : α → State → Result × State} {E : α → State → Prop} {s : State}
    (h : ∀ a, Outcome (E a) s (op a s)) (b : Body α) :
    Outcome (fun t => ∃ a, b = .fields a ∧ E a t) s (served op b s) := by
  cases b with
  | malformed => exact .refused _ _
  | fields a => exact (h a).mono fun t ht => ⟨a, rfl, ht⟩

end Outcome

/-! ### The requests of LNK and CLK -/

theorem configureLink_outcome (r : LinkConfigReq) (s : State) : Outcome (· = s) s (reading configureLink r s) := by
  unfold reading configureLink
  split
  · exact .refused _ _
  next hrange =>
    have hrate : rateOk (.setRate r.n r.k) := ⟨by omega, by omega⟩
    exact .accepted _ _ _ hrate rfl

theorem setMask_outcome (m : BitVec 16) (s : State) :
    Outcome (· = s.withLnk { s.lnk with mask := maskOf m }) s (setMask m s) := .accept _ _ rfl

theorem holdClock_outcome (s : State) :
    Outcome (fun t => t = s ∨ t = generate (.clockEvent .held none) (s.withClock (heldClock s.clock))) s (holdClock s) := by
  unfold holdClock
  split
  · exact .accept _ _ (.inl rfl)
  · exact .accept _ _ (.inr rfl)

theorem setClock_outcome (v : Nat) (s : State) :
    Outcome (fun t => s.clock.held = true ∧ v < Config.daySeconds ∧
      t = generate (.clockEvent .set (some s.clock.service)) (s.withClock (clockAt v s.clock))) s (setClock v s) := by
  unfold setClock
  split
  · exact .refused _ _
  next hheld =>
    split
    · exact .refused _ _
    next hv => exact .accept _ _ ⟨by simpa using hheld, by omega, rfl⟩

theorem releaseClock_outcome (s : State) :
    Outcome (fun t => s.clock.unset = false ∧
      (t = s ∨ t = generate (.clockEvent .released none) (s.withClock { s.clock with held := false }))) s
      (releaseClock s) := by
  unfold releaseClock
  split
  · exact .refused _ _
  next hunset =>
    have hunset : s.clock.unset = false := by simpa using hunset
    split
    · exact .accept _ _ ⟨hunset, .inr rfl⟩
    · exact .accept _ _ ⟨hunset, .inl rfl⟩

theorem configureDay_outcome (r : DayConfigReq) (s : State) :
    Outcome (fun t => dayOutOfRange r = false ∧ t = s.withClock (withDay r s.clock)) s (configureDay r s) := by
  unfold configureDay
  split
  · exact .refused _ _
  next h => exact .accept _ _ ⟨by simpa using h, rfl⟩

/-! ### The requests of TTU -/

theorem loadCall_outcome (r : CallLoadReq) (s : State) :
    Outcome (fun t => ∃ k d, loadOutOfRange k r = false ∧
      ((∃ old, s.call? r.id = some old ∧ old.state = .planned ∧ t = replaceCall old (loadedCall k d r old.partner) s) ∨
        (s.call? r.id = none ∧ s.ttu.calls.length < Config.maxCalls ∧ t = addCall (loadedCall k d r none) s))) s
      (loadCall r s) := by
  unfold loadCall
  split
  next k d hk hd =>
    split
    · exact .refused _ _
    next hrange =>
      have hrange : loadOutOfRange k r = false := by simpa using hrange
      split
      · exact .refused _ _
      · split
        · exact .refused _ _
        · split
          next old hold =>
            split
            · exact .refused _ _
            next hplanned => exact .accept _ _ ⟨k, d, hrange, .inl ⟨old, hold, by simpa using hplanned, rfl⟩⟩
          next hnone =>
            split
            · exact .refused _ _
            next hroom => exact .accept _ _ ⟨k, d, hrange, .inr ⟨hnone, by omega, rfl⟩⟩
  · exact .refused _ _

theorem deleteCall_outcome (id : Nat) (s : State) :
    Outcome (fun t => ∃ c, s.call? id = some c ∧ c.state ≠ .atPlatform ∧ t = deleteFound c s) s (deleteCall id s) := by
  unfold deleteCall
  split
  · exact .refused _ _
  next c hc =>
    split
    · exact .refused _ _
    next hstate => exact .accept _ _ ⟨c, hc, hstate, rfl⟩

theorem delayCall_outcome (r : CallDelayReq) (s : State) :
    Outcome (fun t => ∃ c, s.call? r.id = some c ∧ isTerminal c = false ∧ t = delayFound c r s) s (delayCall r s) := by
  unfold delayCall
  split
  · exact .refused _ _
  · split
    · exact .refused _ _
    next c hc =>
      split
      · exact .refused _ _
      · split
        · exact .refused _ _
        next hlive =>
          split
          · exact .refused _ _
          · exact .accept _ _ ⟨c, hc, by simpa using hlive, rfl⟩

theorem platformCall_outcome (r : CallPlatformReq) (s : State) :
    Outcome (fun t => ∃ c, s.call? r.id = some c ∧ c.state = .planned ∧ t = changePlatform c r.zone s) s
      (platformCall r s) := by
  unfold platformCall
  split
  · exact .refused _ _
  next c hc =>
    split
    · exact .refused _ _
    · split
      · exact .refused _ _
      next hplanned =>
        split
        · exact .refused _ _
        · split
          · exact .refused _ _
          · exact .accept _ _ ⟨c, hc, by simpa using hplanned, rfl⟩

theorem cancelCall_outcome (id : Nat) (s : State) :
    Outcome (fun t => ∃ c, s.call? id = some c ∧ isTerminal c = false ∧ t = cancelFound c s) s (cancelCall id s) := by
  unfold cancelCall
  split
  · exact .refused _ _
  next c hc =>
    split
    · exact .refused _ _
    next hlive => exact .accept _ _ ⟨c, hc, by simpa using hlive, rfl⟩

theorem reportCall_outcome (r : CallReportReq) (s : State) :
    Outcome (fun t => ∃ c, s.call? r.id = some c ∧ c.day = .current ∧
      ((c.state = .planned ∧ otherAtPlatform s c = false ∧
          t = arrive c (reportedAt r.time) .reported .reported s) ∨
        (c.state = .atPlatform ∧ t = depart c (reportedAt r.time) .reported .reported s))) s (reportCall r s) := by
  unfold reportCall
  split
  · exact .refused _ _
  next c hc =>
    split
    · exact .refused _ _
    · split
      · exact .refused _ _
      · split
        · exact .refused _ _
        next hday =>
          have hday : c.day = .current := by cases h : c.day with
            | current => rfl
            | next => exact absurd h hday
          split
          · split
            · exact .refused _ _
            next hplanned =>
              split
              · exact .refused _ _
              next hother =>
                exact .accept _ _ ⟨c, hc, hday, .inl ⟨by simpa using hplanned, by simpa using hother, rfl⟩⟩
          · split
            · exact .refused _ _
            next hat =>
              split
              · exact .refused _ _
              · exact .accept _ _ ⟨c, hc, hday, .inr ⟨by simpa using hat, rfl⟩⟩

theorem storeCues_length : ∀ {qs : List RawCue} {cs : List Cue}, storeCues qs = some cs → cs.length = qs.length
  | [], _, h => by cases h; rfl
  | q :: qs, cs, h => by
    unfold storeCues at h
    split at h
    next hq hqs => cases h; simp [storeCues_length hqs]
    · cases h

theorem setPlan_outcome (r : PlanSetReq) (s : State) :
    Outcome (fun t => ∃ cues : List Cue, cues.length ≤ Config.maxCues ∧ t = s.withTtu { s.ttu with
      plans := s.ttu.plans.set r.plan { threshold := clampThreshold r.threshold, cues := cues } }) s (setPlan r s) := by
  unfold setPlan
  split
  · exact .refused _ _
  next hrange =>
    split
    · exact .refused _ _
    next cues hcues => exact .accept _ _ ⟨cues, by rw [storeCues_length hcues]; omega, rfl⟩

/-! ### The requests of FIU -/

theorem configureInput_outcome (r : InputConfigReq) (s : State) :
    Outcome (fun t => ∃ p e f, t = reportStatus r.input (statusInput (s.input r.input)) s.capture
      (s.modifyInput r.input (reconfigured r p e f))) s (configureInput r s) := by
  unfold configureInput
  split
  next p e f _ _ _ =>
    split
    · exact .refused _ _
    · split
      · exact .refused _ _
      · exact .accept _ _ ⟨p, e, f, rfl⟩
  · exact .refused _ _

theorem clearInputs_outcome (named : BitVec 32) (s : State) :
    Outcome (· = clearNamed named s) s (clearInputs named s) := by
  unfold clearInputs
  split
  · exact .refused _ _
  · split
    · exact .refused _ _
    · exact .accept _ _ rfl

/-! ### The requests of ASC -/

theorem setPhrases_outcome (ps : List PhraseReq) (s : State) :
    Outcome (fun t => (∀ p ∈ ps, p.id < Config.maxPhrases) ∧
      t = s.withAsc { s.asc with directory := ps.foldl (fun dir p => putPhrase p dir) s.asc.directory }) s
      (setPhrases ps s) := by
  unfold setPhrases
  split
  · exact .refused _ _
  · split
    · exact .refused _ _
    next hids =>
      split
      · exact .refused _ _
      · exact .accept _ _ ⟨by simpa using hids, rfl⟩

theorem storeTokens_length {f : RawToken → Option Token} :
    ∀ {ts : List RawToken} {xs : List Token}, storeTokens f ts = some xs → xs.length = ts.length
  | [], _, h => by cases h; rfl
  | t :: ts, xs, h => by
    unfold storeTokens at h
    split at h
    next ht hts => cases h; simp [storeTokens_length hts]
    · cases h

theorem setTemplate_outcome (r : TemplateSetReq) (s : State) :
    Outcome (fun t => ∃ ts : List Token, ts.length ≤ 32 ∧
      t = s.withAsc { s.asc with templates := s.asc.templates.set r.template ts }) s (setTemplate r s) := by
  unfold setTemplate
  split
  · exact .refused _ _
  next hrange =>
    split
    · exact .refused _ _
    next ts hts =>
      split
      · exact .accept _ _ ⟨ts, by rw [storeTokens_length hts]; omega, rfl⟩
      · exact .refused _ _

theorem composeBeginRequest_outcome (restart : Bool) (s : State) :
    Outcome (· = setComposer (.filling []) s) s (composeBeginRequest restart s) := by
  unfold composeBeginRequest
  split
  · exact .accept _ _ rfl
  · exact .refused _ _
  · split
    · exact .accept _ _ rfl
    · exact .refused _ _

theorem composePartRequest_outcome (raw : List RawToken) (s : State) :
    Outcome (fun t => ∃ c, (bufferOf c).length ≤ 64 ∧ t = setComposer c s) s (composePartRequest raw s) := by
  unfold composePartRequest
  split
  · exact .refused _ _
  · split
    · exact .refused _ _
    · exact .refused _ _
    · exact .refused _ _
    · split
      · exact .refused _ _
      next buffer _ _ ts _ =>
        split
        · exact .refused _ _
        next hroom =>
          have hlen : (buffer ++ ts).length ≤ 64 := by
            simp only [maxBuffer] at hroom
            simpa using hroom
          refine .accept _ _ ⟨_, ?_, rfl⟩
          split
          · exact hlen
          · exact hlen

theorem composeEndChecked_outcome (tag : Byte) (h : HeaderReq) (buffer : List Token) (s : State) :
    Outcome (· = setComposer (.checking buffer (storeHeader h) tag s.now) s) s (composeEndChecked tag h buffer s) := by
  unfold composeEndChecked
  split
  · exact .refused _ _
  · split
    · exact .refused _ _
    · exact .accept _ _ rfl

theorem composeEndRequest_outcome (tag : Byte) (h : HeaderReq) (s : State) :
    Outcome (· = setComposer (.checking (bufferOf s.asc.composer) (storeHeader h) tag s.now) s) s
      (composeEndRequest tag h s) := by
  unfold composeEndRequest
  split
  · exact .refused _ _
  · exact .refused _ _
  next hc => rw [hc]; exact composeEndChecked_outcome ..
  next hc => rw [hc]; exact composeEndChecked_outcome ..
  · exact .refused _ _

/-- ANNOUNCE is refused without an effect, or answers the outcome of its creation (R80). -/
theorem announceRequest_cases (tag : Byte) (r : AnnounceReq) (s : State) :
    (∃ code d, announceRequest tag r s = (.refused code d, s)) ∨
      ∃ ts clamped, announceRequest tag r s =
        (announceReply clamped (createWhole (hostProto (storeHeader r.header) tag ts) s).1,
          (createWhole (hostProto (storeHeader r.header) tag ts) s).2) := by
  unfold announceRequest
  split
  · exact .inl ⟨_, _, rfl⟩
  · split
    · exact .inl ⟨_, _, rfl⟩
    next ts _ =>
      split
      · exact .inl ⟨_, _, rfl⟩
      · split
        · exact .inl ⟨_, _, rfl⟩
        · split
          · exact .inl ⟨_, _, rfl⟩
          · exact .inr ⟨ts, _, rfl⟩

theorem withdrawRequest_outcome (a : Nat) (s : State) :
    Outcome (· = settle (withdrawAnnouncement a s)) s (withdrawRequest a s) := by
  unfold withdrawRequest
  split
  · exact .refused _ _
  · split
    · exact .refused _ _
    · exact .accept _ _ rfl

/-! ### The requests of ZRT -/

theorem configureZone_outcome (r : ZoneConfigReq) (s : State) :
    Outcome (fun t => ∃ k m, r.zone < Config.maxZones ∧ clampGain r.gmin ≤ clampGain r.gmax ∧
      t = settle (recomputeZone true r.zone (s.modifyZone r.zone (configured r k m)))) s (configureZone r s) := by
  unfold configureZone
  split
  next k m _ _ =>
    simp only
    split
    · exact .refused _ _
    next hrange =>
      split
      · exact .refused _ _
      next hgains =>
        split
        · exact .refused _ _
        · split
          · exact .refused _ _
          · simp only [zoneOutOfRange, Bool.or_eq_true, decide_eq_true_eq, not_or] at hrange
            exact .accept _ _ ⟨k, m, by omega, by omega, rfl⟩
  · exact .refused _ _

/-- GROUP_SET's effect before what follows it: the groups, the zones of the invalidated, those of the validated. -/
def regrouped (r : GroupSetReq) (s : State) : State :=
  let old := s.zrt.groups
  let new := groupsAfter old r
  forEach (allGroups.filter (fun g => !old.getLsbD g && new.getLsbD g))
    (fun g s => forEach (zonesOfGroup s g) (recomputeZone true) s)
    (forEach (allGroups.filter (fun g => old.getLsbD g && !new.getLsbD g))
      (fun g s => forEach (zonesOfGroup s g) invalidateZone s) (s.withZrt { s.zrt with groups := new }))

theorem setGroups_outcome (r : GroupSetReq) (s : State) : Outcome (· = settle (regrouped r s)) s (setGroups r s) := by
  unfold setGroups
  split
  · exact .refused _ _
  · exact .accept _ _ rfl

theorem zoneStateRequest_outcome (r : ZoneStateReq) (s : State) :
    Outcome (fun t => t = s ∨ ∃ b, r.zone < Config.maxZones ∧ (s.zone r.zone).base ≠ b ∧
      t = settle (changeBase r.zone b .request s)) s (zoneStateRequest r s) := by
  unfold zoneStateRequest
  split
  · exact .refused _ _
  next b _ =>
    split
    · exact .refused _ _
    next hzone =>
      split
      · exact .accept _ _ (.inl rfl)
      next hbase =>
        split
        · exact .refused _ _
        · exact .accept _ _ (.inr ⟨b, by omega, hbase, rfl⟩)

theorem startEvac_outcome (r : EvacStartReq) (s : State) :
    Outcome (fun t => t = s ∨ ∃ n, activeWithKey s (hostKey r) = none ∧ findEntry s (hostKey r) = some n ∧
      t = (activate n (hostKey r) false s).2) s (startEvac r s) := by
  unfold startEvac
  split
  · exact .refused _ _
  · simp only
    split
    · exact .accept _ _ (.inl rfl)
    next hactive =>
      split
      · exact .refused _ _
      next n hn => exact .accept _ _ (.inr ⟨n, hactive, hn, rfl⟩)

theorem clearEvac_outcome (n : Nat) (s : State) :
    Outcome (fun t => n < Config.maxSources ∧ (s.source n).state = .active ∧ t = clearSource n s) s (clearEvac n s) := by
  unfold clearEvac
  split
  · exact .refused _ _
  next hn =>
    split
    · exact .refused _ _
    next hactive =>
      split
      · exact .refused _ _
      · exact .accept _ _ ⟨by omega, by simpa using hactive, rfl⟩

/-! ### The requests of PLE and SMC -/

theorem configurePlayout_outcome (g : Nat) (s : State) :
    Outcome (· = s.withPle { s.ple with gap := clampGap g }) s (configurePlayout g s) := .accept _ _ rfl

theorem setModeRequest_outcome (r : ModeSetReq) (s : State) :
    Outcome (fun t => ∃ m, requestedMode r.mode = some m ∧
      t = settle (actOnMode m (s.withSmc { s.smc with warmUp := clampWarmUp r.warmUp }))) s (setModeRequest r s) := by
  unfold setModeRequest
  split
  · exact .refused _ _
  next m hm => exact .accept _ _ ⟨m, hm, rfl⟩

/-! ### The reads -/

/-- A read answers, asking for no new rate, and leaves the part as it was. -/
theorem reading_outcome {α : Type} {op : α → State → Result} {a : α} {s : State} (h : rateOk (atEndOf (op a s))) :
    Outcome (· = s) s (reading op a s) := by
  unfold reading
  cases hr : op a s with
  | refused code d => exact .refused code d
  | accepted clamped body atEnd =>
    rw [hr] at h
    exact .accepted clamped body atEnd h rfl

/-- A result that asks for nothing at its reply's end. -/
theorem rateOk_of_nothing {r : Result} (h : atEndOf r = .nothing) : rateOk (atEndOf r) := by rw [h]; trivial

theorem readCall_atEnd (id : Nat) (s : State) : atEndOf (readCall id s) = .nothing := by
  unfold readCall; split <;> rfl

theorem listCalls_atEnd (start : Nat) (s : State) : atEndOf (listCalls start s) = .nothing := by
  unfold listCalls; split <;> rfl

theorem readInputs_atEnd (n : Option Nat) (s : State) : atEndOf (readInputs n s) = .nothing := by
  unfold readInputs
  split
  · rfl
  · split <;> rfl

theorem readStore_atEnd (r : StoreReadReq) (s : State) : atEndOf (readStore r s) = .nothing := by
  unfold readStore
  split
  · split <;> rfl
  · split <;> rfl
  · rfl

theorem readZones_atEnd (z : Option Nat) (s : State) : atEndOf (readZones z s) = .nothing := by
  unfold readZones
  split
  · rfl
  · split <;> rfl

theorem channelSection_atEnd (c : Nat) (r : Option Run) (code start : Nat) :
    atEndOf (channelSection c r code start) = .nothing := by
  unfold channelSection; split <;> rfl

theorem readChannels_atEnd (q : ChannelReadReq) (s : State) : atEndOf (readChannels q s) = .nothing := by
  unfold readChannels
  split
  · rfl
  · split
    · rfl
    · exact channelSection_atEnd ..

end Sys2Proof.Machine


/-! PROOFS. What every step keeps (R2, R8, R10, R14, R144, R155, R158 to R162): the queue of commands, the clock's ranges,
the supply line, the capacities and the link (`Sound`), said once of each block's work and put together for every
command. -/

namespace Sys2Proof.Machine

open Sys2Proof.Claims

/-! ### The link's limits and its replies (R155, R158, R160 to R162) -/

/-- Every answered request has its reply waiting or in transmission. -/
def Replied (l : Lnk) : Prop := l.queue.countP Request.answered = l.replies.length + sendsReply l

theorem LinkLive.replied {l : Lnk} (h : LinkLive l) : Replied l := h.answered

/-- The arbiter moves a frame from where it waits to the line. -/
theorem arbitrate_ok {l : Lnk} (h : LinkOk l) : LinkOk (arbitrate l) := by
  cases htx : l.tx with
  | some f => rw [arbitrate_of_busy (by simp [htx])]; exact h
  | none =>
    cases hr : l.replies with
    | cons r rs =>
      rw [arbitrate_of_reply htx hr]
      refine { h with rates := ?_ }
      have hrates := h.rates
      simp only [sentResults, htx, hr, List.nil_append, List.map_cons] at hrates
      simpa only [sentResults, List.singleton_append] using hrates
    | nil =>
      cases ho : l.outbox with
      | cons n ns =>
        rw [arbitrate_of_notice htx hr ho]
        refine { h with outbox := ?_, carried := ?_, rates := by simp [sentResults, hr] }
        · have houtbox := h.outbox
          rw [ho] at houtbox
          simp only [List.length_cons] at houtbox ⊢
          omega
        · exact fun e he => h.carried e (by rw [ho]; exact .tail _ he)
      | nil => rw [arbitrate_of_empty hr ho]; exact h

/-- The arbiter leaves nothing waiting beside an idle transmitter. -/
theorem arbitrate_live {l : Lnk} (h : Replied l) : LinkLive (arbitrate l) := by
  cases htx : l.tx with
  | some f => rw [arbitrate_of_busy (by simp [htx])]; exact ⟨h, by simp [htx]⟩
  | none =>
    cases hr : l.replies with
    | cons r rs =>
      rw [arbitrate_of_reply htx hr]
      refine ⟨?_, by simp⟩
      simpa [Replied, sendsReply, htx, hr] using h
    | nil =>
      cases ho : l.outbox with
      | cons n ns =>
        rw [arbitrate_of_notice htx hr ho]
        refine ⟨?_, by simp⟩
        simpa [Replied, sendsReply, htx, hr] using h
      | nil => rw [arbitrate_of_empty hr ho]; exact ⟨h, fun _ => ⟨hr, ho⟩⟩

theorem raiseLost_le (count by' : Nat) : raiseLost count by' ≤ Config.maxLost := Nat.min_le_left ..

theorem pushNotice_ok {l : Lnk} (day : BitVec 16) (service : Nat) (n : Notice) (h : LinkOk l) :
    LinkOk (pushNotice l day service n) := by
  have hlen := pushNotice_outbox_length_le (n := n) day service h.outbox
  have hcarried : ∀ e ∈ (pushNotice l day service n).outbox, e.lost ≤ Config.maxLost := by
    unfold pushNotice
    split
    · simp only [List.mem_append, List.mem_singleton]
      rintro e (he | rfl)
      · exact h.carried e he
      · exact h.lost
    · split
      · split
        · exact h.carried
        next oldest rest ho =>
          simp only [List.mem_append, List.mem_singleton]
          rintro e (he | rfl)
          · exact h.carried e (by rw [ho]; exact .tail _ he)
          · exact raiseLost_le ..
      · exact h.carried
  have hlost : (pushNotice l day service n).lost ≤ Config.maxLost := by
    unfold pushNotice
    split
    · exact Nat.zero_le _
    · split
      · split
        · exact h.lost
        · exact Nat.zero_le _
      · exact raiseLost_le ..
  have hrest : ∃ o k, pushNotice l day service n = { l with outbox := o, lost := k } := by
    unfold pushNotice
    split
    · exact ⟨_, _, rfl⟩
    · split
      · split
        · exact ⟨l.outbox, l.lost, rfl⟩
        · exact ⟨_, _, rfl⟩
      · exact ⟨l.outbox, _, rfl⟩
  obtain ⟨o, k, heq⟩ := hrest
  rw [heq] at hlen hcarried hlost ⊢
  exact { h with outbox := hlen, carried := hcarried, lost := hlost }

/-- A notice meets the outbox alone: the requests, the replies and the frame on the line stay. -/
theorem pushNotice_replied {l : Lnk} (day : BitVec 16) (service : Nat) (n : Notice) (h : Replied l) :
    Replied (pushNotice l day service n) := by
  unfold pushNotice
  split
  · exact h
  · split
    · split
      · exact h
      · exact h
    · exact h

theorem notifyLnk_ok {l : Lnk} (day : BitVec 16) (service : Nat) (n : Notice) (h : LinkOk l) :
    LinkOk (notifyLnk l day service n) := by
  unfold notifyLnk
  split
  · exact arbitrate_ok (pushNotice_ok day service n h)
  · exact h

theorem notifyLnk_live {l : Lnk} (day : BitVec 16) (service : Nat) (n : Notice) (h : LinkLive l) :
    LinkLive (notifyLnk l day service n) := by
  unfold notifyLnk
  split
  · exact arbitrate_live (pushNotice_replied day service n h.replied)
  · exact h

theorem notified_ok {l m : Lnk} (h : Notified l m) (hl : LinkOk l) : LinkOk m := by
  induction h with
  | refl => exact hl
  | notify day service n _ ih => exact notifyLnk_ok day service n ih

theorem notified_live {l m : Lnk} (h : Notified l m) (hl : LinkLive l) : LinkLive m := by
  induction h with
  | refl => exact hl
  | notify day service n _ ih => exact notifyLnk_live day service n ih

/-- A notice leaves the requests, the rate, the mask and the receiver alone. -/
theorem notifyLnk_rest (l : Lnk) (day : BitVec 16) (service : Nat) (n : Notice) :
    (notifyLnk l day service n).queue = l.queue ∧ (notifyLnk l day service n).n = l.n ∧
      (notifyLnk l day service n).k = l.k ∧ (notifyLnk l day service n).mask = l.mask ∧
      (notifyLnk l day service n).receiver = l.receiver := by
  have harb : ∀ l : Lnk, (arbitrate l).queue = l.queue ∧ (arbitrate l).n = l.n ∧ (arbitrate l).k = l.k ∧
      (arbitrate l).mask = l.mask ∧ (arbitrate l).receiver = l.receiver := fun l => by
    unfold arbitrate
    split
    · exact ⟨rfl, rfl, rfl, rfl, rfl⟩
    · split
      · exact ⟨rfl, rfl, rfl, rfl, rfl⟩
      · split
        · exact ⟨rfl, rfl, rfl, rfl, rfl⟩
        · exact ⟨rfl, rfl, rfl, rfl, rfl⟩
  have hpush : (pushNotice l day service n).queue = l.queue ∧ (pushNotice l day service n).n = l.n ∧
      (pushNotice l day service n).k = l.k ∧ (pushNotice l day service n).mask = l.mask ∧
      (pushNotice l day service n).receiver = l.receiver := by
    unfold pushNotice
    split
    · exact ⟨rfl, rfl, rfl, rfl, rfl⟩
    · split
      · split
        · exact ⟨rfl, rfl, rfl, rfl, rfl⟩
        · exact ⟨rfl, rfl, rfl, rfl, rfl⟩
      · exact ⟨rfl, rfl, rfl, rfl, rfl⟩
  unfold notifyLnk
  split
  · have h := harb (pushNotice l day service n)
    rwa [hpush.1, hpush.2.1, hpush.2.2.1, hpush.2.2.2.1, hpush.2.2.2.2] at h
  · exact ⟨rfl, rfl, rfl, rfl, rfl⟩

theorem notified_queue {l m : Lnk} (h : Notified l m) : m.queue = l.queue := by
  induction h with
  | refl => rfl
  | notify day service n _ ih => exact (notifyLnk_rest ..).1.trans ih

theorem answeredFirst_append {q : List Request} {r : Request} (h : answeredFirst q) (hr : r.answered = false) :
    answeredFirst (q ++ [r]) := by
  induction q with
  | nil => exact ⟨by simp, trivial⟩
  | cons x xs ih =>
    refine ⟨fun hx y hy => ?_, ih h.2⟩
    obtain hy | hy := List.mem_append.mp hy
    · exact h.1 hx y hy
    · rw [List.mem_singleton.mp hy]; exact hr

theorem answeredFirst_markAnswered {q : List Request} (h : answeredFirst q) : answeredFirst (markAnswered q) := by
  induction q with
  | nil => exact h
  | cons x xs ih =>
    unfold markAnswered
    split
    next hx => exact ⟨by simp [hx], ih h.2⟩
    next => exact ⟨by simp, h.2⟩

theorem length_markAnswered : ∀ q : List Request, (markAnswered q).length = q.length
  | [] => rfl
  | x :: xs => by
    unfold markAnswered
    split
    · simp [length_markAnswered xs]
    · rfl

theorem countP_markAnswered : ∀ {q : List Request} {r : Request}, q.find? (fun r => !r.answered) = some r →
    (markAnswered q).countP Request.answered = q.countP Request.answered + 1
  | [], _, h => by cases h
  | x :: xs, r, h => by
    unfold markAnswered
    split
    next hx =>
      have hxs : xs.find? (fun r => !r.answered) = some r := by simpa [hx] using h
      simp [hx, countP_markAnswered hxs]
    next hx => simp [hx]

theorem enqueue_ok {l : Lnk} {r : Request} (h : LinkOk l) (hlen : l.queue.length < Config.maxRequests)
    (hr : r.answered = false) : LinkOk (enqueue r l) :=
  { h with queue := by simp [enqueue]; omega, order := answeredFirst_append h.order hr }

theorem enqueue_live {l : Lnk} {r : Request} (h : LinkLive l) (hr : r.answered = false) : LinkLive (enqueue r l) :=
  { h with answered := by simpa [enqueue, hr, sendsReply] using h.answered }

theorem answerLnk_ok {l : Lnk} {res : Result} (h : LinkOk l) (hres : rateOk (atEndOf res)) : LinkOk (answerLnk l res) := by
  unfold answerLnk
  split
  · exact h
  next r _ =>
    refine arbitrate_ok { h with queue := ?_, order := answeredFirst_markAnswered h.order, rates := ?_ }
    · simpa [length_markAnswered] using h.queue
    · have hrates := h.rates
      simp only [List.mem_append] at hrates
      simp only [List.map_append, List.map_cons, List.map_nil, List.mem_append, List.mem_singleton]
      rintro x (hx | hx | rfl)
      · exact hrates x (.inl hx)
      · exact hrates x (.inr hx)
      · exact hres

theorem answerLnk_live {l : Lnk} (res : Result) (h : LinkLive l) : LinkLive (answerLnk l res) := by
  unfold answerLnk
  split
  · exact h
  next r hr =>
    have hreplied : Replied
        { l with
          queue := markAnswered l.queue
          replies := l.replies ++ [{ kind := r.kind, tag := r.tag, result := res }] } := by
      have := h.answered
      have hcount := countP_markAnswered hr
      simp only [Replied, sendsReply, List.length_append, List.length_singleton] at this ⊢
      omega
    exact arbitrate_live hreplied

/-! ### What work on announcements, zones and calls keeps -/

/-- `t` is `s` after work on announcements, zones, sources and the call table, the plans unchanged. -/
structure Works (s t : State) : Prop where
  rest : Reroutes s (t.withTtu s.ttu)
  plans : t.ttu.plans = s.ttu.plans
  calls : t.ttu.calls.length ≤ s.ttu.calls.length

theorem Reroutes.works {s t : State} (h : Reroutes s t) : Works s t where
  rest := by rw [← h.ttu]; exact h
  plans := by rw [h.ttu]
  calls := by rw [h.ttu]

theorem Settles.works {s t : State} (h : Settles s t) : Works s t := h.reroutes.works

theorem Retimes.works {s t : State} (h : Retimes s t) : Works s t :=
  ⟨h.rest.reroutes, h.plans, h.calls⟩

theorem Reroutes.withTtu {s t : State} (h : Reroutes s t) (x : Ttu) : Reroutes (s.withTtu x) (t.withTtu x) :=
  { h with ttu := Eq.refl _ }

theorem Works.trans {s t u : State} (h : Works s t) (g : Works t u) : Works s u where
  rest := h.rest.trans (g.rest.withTtu s.ttu)
  plans := g.plans.trans h.plans
  calls := g.calls.trans h.calls

theorem forEach_works {α : Type} {xs : List α} {f : α → State → State} (h : ∀ x s, Works s (f x s)) (s : State) :
    Works s (forEach xs f s) := by
  unfold forEach
  induction xs generalizing s with
  | nil => exact (Settles.rfl s).works
  | cons x xs ih => exact (h x s).trans (ih (f x s))

/-- A zone's ranges are those of its configuration and its queue. -/
theorem zoneOk_of_configuration {y z : Zone} (h : configuration z = configuration y) (hy : ZoneOk y)
    (hq : QueueOk z.queue) : ZoneOk z := by
  have hgmin := congrArg Zone.gmin h
  have hgmax := congrArg Zone.gmax h
  have hg0 := congrArg Zone.g0 h
  have hnref := congrArg Zone.nref h
  have hslope := congrArg Zone.slope h
  have hlamp := congrArg Zone.lampThreshold h
  have hwindow := congrArg Zone.window h
  simp only [configuration] at hgmin hgmax hg0 hnref hslope hlamp hwindow
  exact
    { gains := by rw [hgmin, hgmax]; exact hy.gains
      base := by rw [hg0]; exact hy.base
      nref := by rw [hnref]; exact hy.nref
      slope := by rw [hslope]; exact hy.slope
      threshold := by rw [hlamp]; exact hy.threshold
      window := by rw [hwindow]; exact hy.window
      queue := hq }

theorem Works.capacity {s t : State} (h : Works s t) (hs : CapacityOk s) : CapacityOk t where
  calls := h.calls.trans hs.calls
  plans := by rw [h.plans]; exact hs.plans
  cues := by rw [h.plans]; exact hs.cues
  inputs := by rw [show t.fiu = s.fiu from h.rest.fiu]; exact hs.inputs
  directory := by rw [show t.asc.directory = _ from h.rest.directory]; exact hs.directory
  templates := by rw [show t.asc.templates = _ from h.rest.templates]; exact hs.templates
  tokens := by rw [show t.asc.templates = _ from h.rest.templates]; exact hs.tokens
  slots := h.rest.slots hs.slots
  buffer := by rw [show t.asc.composer = _ from h.rest.composer]; exact hs.buffer
  zones := by simpa using (congrArg List.length h.rest.zones).trans (by simpa using hs.zones)
  sources := (show t.zrt.sources.length = _ from h.rest.sources).trans hs.sources
  records := fun z hz => by
    have hz' : configuration z ∈ s.zrt.zones.map configuration := by
      rw [← h.rest.zones]; exact List.mem_map_of_mem hz
    obtain ⟨y, hy, hyz⟩ := List.mem_map.mp hz'
    exact zoneOk_of_configuration hyz.symm (hs.records y hy)
      (h.rest.queues (fun x hx => (hs.records x hx).queue) z hz)
  channels := (show t.ple.channels.length = _ from h.rest.channels).trans hs.channels
  gap := by rw [show t.ple.gap = _ from h.rest.gap]; exact hs.gap
  warmUp := by rw [show t.smc.warmUp = _ from h.rest.warmUp]; exact hs.warmUp

theorem Works.link {s t : State} (h : Works s t) (hs : LinkSound s) : LinkSound t := by
  have hlnk : Notified s.lnk t.lnk := h.rest.lnk
  refine ⟨notified_ok hlnk hs.1, fun ht => notified_live hlnk (hs.2 ?_)⟩
  rw [← ht]; exact h.rest.resetLine.symm

/-- What every command keeps. -/
structure Sound (s t : State) : Prop where
  pending : t.pending = s.pending
  clock : ClockOk s.clock → ClockOk t.clock
  supply : SupplyOk s.smc → SupplyOk t.smc
  capacity : CapacityOk s → CapacityOk t
  link : LinkSound s → LinkSound t

theorem Sound.rfl (s : State) : Sound s s := ⟨Eq.refl _, id, id, id, id⟩

theorem Sound.trans {s t u : State} (h : Sound s t) (g : Sound t u) : Sound s u :=
  ⟨g.pending.trans h.pending, g.clock ∘ h.clock, g.supply ∘ h.supply, g.capacity ∘ h.capacity, g.link ∘ h.link⟩

theorem forEach_sound {α : Type} {xs : List α} {f : α → State → State} (h : ∀ x s, Sound s (f x s)) (s : State) :
    Sound s (forEach xs f s) := by
  unfold forEach
  induction xs generalizing s with
  | nil => exact .rfl s
  | cons x xs ih => exact (h x s).trans (ih (f x s))

theorem Works.sound {s t : State} (h : Works s t) : Sound s t where
  pending := h.rest.pending
  clock := fun hs => by rw [show t.clock = s.clock from h.rest.clock]; exact hs
  supply := h.rest.supply
  capacity := h.capacity
  link := h.link

theorem Settles.sound {s t : State} (h : Settles s t) : Sound s t := h.works.sound
theorem Reroutes.sound {s t : State} (h : Reroutes s t) : Sound s t := h.works.sound
theorem Retimes.sound {s t : State} (h : Retimes s t) : Sound s t := h.works.sound
theorem generate_sound (n : Notice) (s : State) : Sound s (generate n s) := (generate_settles n s).sound

/-! ### What the replacement of one block keeps -/

theorem withPins_sound (x : Pins) (s : State) : Sound s (s.withPins x) :=
  ⟨rfl, id, id, fun h => { h with }, id⟩

theorem withClock_sound {c : Clock} {s : State} (h : ClockOk s.clock → ClockOk c) : Sound s (s.withClock c) :=
  ⟨rfl, h, id, fun h => { h with }, id⟩

theorem withFiu_sound {f : Fiu} {s : State} (h : f.inputs.length = s.fiu.inputs.length) : Sound s (s.withFiu f) :=
  ⟨rfl, id, id, fun hs => { hs with inputs := h.trans hs.inputs }, id⟩

theorem setComposer_sound {c : Composer} {s : State}
    (h : (bufferOf s.asc.composer).length ≤ 64 → (bufferOf c).length ≤ 64) : Sound s (setComposer c s) :=
  ⟨rfl, id, id, fun hs => { hs with buffer := h hs.buffer }, id⟩

theorem withLnk_sound {l : Lnk} {s : State} (h : LinkSound s → LinkSound (s.withLnk l)) : Sound s (s.withLnk l) :=
  ⟨rfl, id, id, fun h => { h with }, h⟩

theorem answer_sound {res : Result} (h : rateOk (atEndOf res)) (s : State) : Sound s (answer res s) :=
  withLnk_sound fun hs => ⟨answerLnk_ok hs.1 h, fun ht => answerLnk_live res (hs.2 ht)⟩

/-- The receiver's state is no part of what the link keeps. -/
theorem withReceiver_sound (x : Receiver) (s : State) : Sound s (s.withLnk { s.lnk with receiver := x }) :=
  withLnk_sound fun hs => ⟨{ hs.1 with }, fun ht => { hs.2 ht with }⟩

theorem enqueue_sound {r : Request} {s : State} (hlen : s.lnk.queue.length < Config.maxRequests)
    (hr : r.answered = false) : Sound s (s.withLnk (enqueue r s.lnk)) :=
  withLnk_sound fun hs => ⟨enqueue_ok hs.1 hlen hr, fun ht => enqueue_live (hs.2 ht) hr⟩

theorem requestOf_unanswered {c : Instr} {r : Request} (h : requestOf c = some r) : r.answered = false := by
  cases c <;> cases h <;> rfl

theorem takeRequest_sound {c : Instr} {s s0 : State} (h : takeRequest c s = some s0) : Sound s s0 := by
  obtain ⟨-, ⟨r, -, -, rfl⟩ | ⟨-, hlen, r, hr, -, rfl⟩⟩ := takeRequest_eq_some.mp h
  · exact .rfl _
  · exact enqueue_sound hlen (requestOf_unanswered hr)

end Sys2Proof.Machine


/-! PROOFS. What the owners of the requests do to the part, as one of a list of effects (`Effect`), and that every effect
keeps the queue of commands, the clock, the supply line, the capacities and the link (R2, R8, R10, R14, R144, R155, R158
to R162). -/

namespace Sys2Proof.Machine

open Sys2Proof.Claims

/-! ### The clock's requests and its seconds (R2, R6 to R11) -/

theorem heldClock_ok {c : Clock} (h : ClockOk c) : ClockOk (heldClock c) := { h with unset := fun _ => rfl }

theorem clockAt_ok {c : Clock} {v : Nat} (hv : v < Config.daySeconds) (h : ClockOk c) : ClockOk (clockAt v c) :=
  { h with service := hv, prescaler := Nat.zero_le 9, unset := fun h => by cases h }

theorem releasedClock_ok {c : Clock} (hset : c.unset = false) (h : ClockOk c) : ClockOk { c with held := false } :=
  { h with unset := fun h => by rw [hset] at h; cases h }

theorem timeOk_of_not_badTime {t : Option Nat} (h : badTime t = false) : timeOk t := by
  rintro x rfl
  simpa [badTime] using h

theorem clampWindow_range (w : Nat) : 60 ≤ clampWindow w ∧ clampWindow w ≤ 3600 := by
  unfold clampWindow
  rw [clampNat_eq (by omega)]
  omega

theorem withDay_ok {r : DayConfigReq} {c : Clock} (hr : dayOutOfRange r = false) (h : ClockOk c) :
    ClockOk (withDay r c) := by
  simp only [dayOutOfRange, Bool.or_eq_false_iff, Bool.and_eq_false_iff, decide_eq_false_iff_not] at hr
  obtain ⟨⟨⟨hoffset, hnight⟩, hopen⟩, hdistinct⟩ := hr
  exact { h with
    offset := Nat.lt_of_not_le hoffset
    window := clampWindow_range r.matchWindow
    nightStart := timeOk_of_not_badTime hnight
    openTime := timeOk_of_not_badTime hopen
    distinct := fun hsome => hdistinct.resolve_left fun hnone => Bool.noConfusion (hnone.symm.trans hsome) }

theorem tenthClock_ok {c : Clock} (h : ClockOk c) : ClockOk (tenthClock c) := by
  unfold tenthClock
  split
  · exact { h with }
  · refine { h with prescaler := ?_ }
    simp only [isSecond, Bool.and_eq_true, decide_eq_true_eq]
    split
    · omega
    · next hheld hsecond =>
      simp only [Bool.not_eq_true', not_and, hheld, true_implies] at hsecond
      omega

theorem advanceClock_ok {c : Clock} (h : ClockOk c) : ClockOk (advanceClock c) := by
  unfold advanceClock
  split
  next hday => exact { h with service := hday }
  · exact { h with service := (by decide : 0 < Config.daySeconds) }

/-! ### The phrase directory (R73, R74) -/

theorem mem_insertPhrase {e x : Phrase} : ∀ {d : List Phrase}, x ∈ insertPhrase e d ↔ x = e ∨ x ∈ d
  | [] => by simp [insertPhrase]
  | a :: d => by
    unfold insertPhrase
    split
    · simp
    · simp only [List.mem_cons, mem_insertPhrase (d := d)]
      tauto

/-- A phrase enters a directory that does not hold its id at its place in the order. -/
theorem pairwise_insertPhrase {e : Phrase} : ∀ {d : List Phrase}, d.Pairwise (fun a b => a.id < b.id) →
    (∀ x ∈ d, x.id ≠ e.id) → (insertPhrase e d).Pairwise (fun a b => a.id < b.id)
  | [], _, _ => by simp [insertPhrase]
  | a :: d, h, hne => by
    rw [List.pairwise_cons] at h
    rw [List.forall_mem_cons] at hne
    unfold insertPhrase
    split
    next hlt =>
      refine List.pairwise_cons.mpr ⟨fun b hb => ?_, List.pairwise_cons.mpr h⟩
      obtain rfl | hb := List.mem_cons.mp hb
      · exact hlt
      · exact hlt.trans (h.1 b hb)
    next hle =>
      refine List.pairwise_cons.mpr ⟨fun b hb => ?_, pairwise_insertPhrase h.2 hne.2⟩
      obtain rfl | hb := mem_insertPhrase.mp hb
      · have := hne.1
        omega
      · exact h.1 b hb

/-- A directory in order of ids below 2,048 has at most one entry for each. -/
theorem directory_length_le {d : List Phrase} (horder : d.Pairwise (fun a b => a.id < b.id))
    (hrange : ∀ e ∈ d, e.id < Config.maxPhrases) : d.length ≤ Config.maxPhrases := by
  have hnodup : (d.map Phrase.id).Nodup := by
    rw [List.Nodup, List.pairwise_map]
    exact horder.imp (fun h => Nat.ne_of_lt h)
  have hsub : d.map Phrase.id ⊆ List.range Config.maxPhrases := by
    intro i hi
    obtain ⟨e, he, rfl⟩ := List.mem_map.mp hi
    exact List.mem_range.mpr (hrange e he)
  simpa using (hnodup.subperm hsub).length_le

theorem putPhrase_ok {p : PhraseReq} {d : List Phrase} (hp : p.id < Config.maxPhrases) (h : DirectoryOk d) :
    DirectoryOk (putPhrase p d) := by
  have hsub := List.filter_sublist (p := fun e : Phrase => e.id != p.id) (l := d)
  have horder := h.order.sublist hsub
  have hrange : ∀ e ∈ d.filter (fun e => e.id != p.id), e.id < Config.maxPhrases ∧ 1 ≤ e.duration ∧ e.duration ≤ 600 :=
    fun e he => h.range e (hsub.subset he)
  unfold putPhrase
  simp only
  split
  · exact ⟨hsub.length_le.trans h.capacity, horder, hrange⟩
  next hduration =>
    have hins := pairwise_insertPhrase (e := { id := p.id, duration := min p.duration 600, location := p.location })
      horder (by simp)
    have hrange' : ∀ e ∈ insertPhrase { id := p.id, duration := min p.duration 600, location := p.location }
        (d.filter (fun e => e.id != p.id)), e.id < Config.maxPhrases ∧ 1 ≤ e.duration ∧ e.duration ≤ 600 := by
      intro e he
      obtain rfl | he := mem_insertPhrase.mp he
      · refine ⟨hp, ?_, ?_⟩
        · change 1 ≤ min p.duration 600
          omega
        · exact Nat.min_le_right ..
      · exact hrange e he
    exact ⟨directory_length_le hins fun e he => (hrange' e he).1, hins, hrange'⟩

theorem putPhrases_ok : ∀ {ps : List PhraseReq} {d : List Phrase}, (∀ p ∈ ps, p.id < Config.maxPhrases) →
    DirectoryOk d → DirectoryOk (ps.foldl (fun dir p => putPhrase p dir) d)
  | [], _, _, h => h
  | p :: ps, d, hps, h => by
    rw [List.forall_mem_cons] at hps
    exact putPhrases_ok (ps := ps) hps.2 (putPhrase_ok hps.1 h)

/-! ### What a replaced configuration keeps -/

theorem withMask_sound (m : BitVec 16) (s : State) : Sound s (s.withLnk { s.lnk with mask := maskOf m }) :=
  withLnk_sound fun hs => ⟨{ hs.1 with safety := by simp [maskOf] }, fun ht => { hs.2 ht with }⟩

theorem withWarmUp_sound (w : Nat) (s : State) : Sound s (s.withSmc { s.smc with warmUp := clampWarmUp w }) :=
  ⟨rfl, id, id, fun hs => { hs with
    warmUp := by
      simp only [State.withSmc_smc, clampWarmUp]
      rw [clampNat_eq (by omega)]
      omega }, id⟩

theorem withGap_sound (g : Nat) (s : State) : Sound s (s.withPle { s.ple with gap := clampGap g }) :=
  ⟨rfl, id, id, fun hs => { hs with gap := Nat.min_le_right .. }, id⟩

theorem withGroups_sound (g : BitVec 16) (s : State) : Sound s (s.withZrt { s.zrt with groups := g }) :=
  ⟨rfl, id, id, fun hs => { hs with }, id⟩

theorem withPlan_sound {cues : List Cue} (hlen : cues.length ≤ Config.maxCues) (n threshold : Nat) (s : State) :
    Sound s (s.withTtu { s.ttu with plans := s.ttu.plans.set n { threshold := threshold, cues := cues } }) :=
  ⟨rfl, id, id, fun hs => { hs with
    plans := by simpa using hs.plans
    cues := fun p hp => by
      obtain hp | rfl := List.mem_or_eq_of_mem_set hp
      · exact hs.cues p hp
      · exact hlen }, id⟩

theorem withTemplate_sound {ts : List Token} (hlen : ts.length ≤ 32) (n : Nat) (s : State) :
    Sound s (s.withAsc { s.asc with templates := s.asc.templates.set n ts }) :=
  ⟨rfl, id, id, fun hs => { hs with
    templates := by simpa using hs.templates
    tokens := fun t ht => by
      obtain ht | rfl := List.mem_or_eq_of_mem_set ht
      · exact hs.tokens t ht
      · exact hlen }, id⟩

theorem withDirectory_sound {d : List Phrase} {s : State} (h : DirectoryOk s.asc.directory → DirectoryOk d) :
    Sound s (s.withAsc { s.asc with directory := d }) :=
  ⟨rfl, id, id, fun hs => { hs with directory := h hs.directory }, id⟩

/-- A change of one zone's record that keeps its ranges. -/
theorem modifyZone_sound {f : Zone → Zone} (hf : ∀ z, ZoneOk z → ZoneOk (f z)) (z : Nat) (s : State) :
    Sound s (s.modifyZone z f) :=
  ⟨rfl, id, id, fun hs => { hs with
    zones := by simpa [State.modifyZone] using hs.zones
    records := fun x hx => by
      obtain hx | ⟨y, hy, rfl⟩ := mem_modify hx
      · exact hs.records x hx
      · exact hf y (hs.records y hy) }, id⟩

theorem clampGain_range (g : Int) : -120 ≤ clampGain g ∧ clampGain g ≤ 0 := by
  unfold clampGain
  rw [clampInt_eq (by omega)]
  omega

theorem configured_ok {r : ZoneConfigReq} (hgains : clampGain r.gmin ≤ clampGain r.gmax) (k : ZoneKind) (m : LampMode)
    {z : Zone} (h : ZoneOk z) : ZoneOk (configured r k m z) where
  gains := ⟨(clampGain_range _).1, hgains, (clampGain_range _).2⟩
  base := clampGain_range _
  nref := by
    simp only [configured]
    rw [clampNat_eq (by omega)]
    omega
  slope := Nat.min_le_right ..
  threshold := by
    simp only [configured]
    rw [clampNat_eq (by omega)]
    omega
  window := h.window
  queue := h.queue

/-! ### The effects of the requests -/

/-- `t` is what the owner of some request makes of `s`. -/
inductive Effect (s : State) : State → Prop where
  | nothing : Effect s s
  | mask (m : BitVec 16) : Effect s (s.withLnk { s.lnk with mask := maskOf m })
  | clock {c : Clock} (h : ClockOk s.clock → ClockOk c) : Effect s (s.withClock c)
  | clockEvent {c : Clock} (n : Notice) (h : ClockOk s.clock → ClockOk c) : Effect s (generate n (s.withClock c))
  | addCall {k : CallKind} {r : CallLoadReq} (d : DayTag) (hr : loadOutOfRange k r = false)
      (hnone : s.call? r.id = none) (hroom : s.ttu.calls.length < Config.maxCalls) :
      Effect s (addCall (loadedCall k d r none) s)
  | replaceCall {k : CallKind} {r : CallLoadReq} {old : Call} (d : DayTag) (hr : loadOutOfRange k r = false)
      (hold : s.call? r.id = some old) (hstate : old.state = .planned) :
      Effect s (replaceCall old (loadedCall k d r old.partner) s)
  | deleteCall {id : Nat} {c : Call} (hc : s.call? id = some c) (hstate : c.state ≠ .atPlatform) :
      Effect s (deleteFound c s)
  | delayCall {r : CallDelayReq} {c : Call} (hc : s.call? r.id = some c) : Effect s (delayFound c r s)
  | platformCall {id : Nat} {c : Call} (z : Nat) (hc : s.call? id = some c) (hstate : c.state = .planned) :
      Effect s (changePlatform c z s)
  | cancelCall {id : Nat} {c : Call} (hc : s.call? id = some c) (hlive : isTerminal c = false) :
      Effect s (cancelFound c s)
  | arrive {id : Nat} {c : Call} (t : Capture) (hc : s.call? id = some c) (hother : otherAtPlatform s c = false) :
      Effect s (arrive c t .reported .reported s)
  | depart {id : Nat} {c : Call} (t : Capture) (hc : s.call? id = some c) (hstate : c.state = .atPlatform) :
      Effect s (depart c t .reported .reported s)
  | plan {cues : List Cue} (n threshold : Nat) (hlen : cues.length ≤ Config.maxCues) :
      Effect s (s.withTtu { s.ttu with plans := s.ttu.plans.set n { threshold := threshold, cues := cues } })
  | configureInput (n : Nat) (f : Input → Input) (before : Bool) (t : Capture) :
      Effect s (reportStatus n before t (s.modifyInput n f))
  | clearInputs (named : BitVec 32) : Effect s (clearNamed named s)
  | directory {d : List Phrase} (h : DirectoryOk s.asc.directory → DirectoryOk d) :
      Effect s (s.withAsc { s.asc with directory := d })
  | template {ts : List Token} (n : Nat) (hlen : ts.length ≤ 32) :
      Effect s (s.withAsc { s.asc with templates := s.asc.templates.set n ts })
  | composer {c : Composer} (h : (bufferOf s.asc.composer).length ≤ 64 → (bufferOf c).length ≤ 64) :
      Effect s (setComposer c s)
  | announce (h : Header) (tag : Byte) (ts : List Token) : Effect s (createWhole (hostProto h tag ts) s).2
  | withdraw (a : Nat) : Effect s (settle (withdrawAnnouncement a s))
  | zone {r : ZoneConfigReq} (k : ZoneKind) (m : LampMode) (hzone : r.zone < Config.maxZones)
      (hgains : clampGain r.gmin ≤ clampGain r.gmax) :
      Effect s (settle (recomputeZone true r.zone (s.modifyZone r.zone (configured r k m))))
  | groups (r : GroupSetReq) : Effect s (settle (regrouped r s))
  | base {z : Nat} {b : Base} (hzone : z < Config.maxZones) (hb : (s.zone z).base ≠ b) :
      Effect s (settle (changeBase z b .request s))
  | activate {n : Nat} {key : SourceKey} (hkey : activeWithKey s key = none) (hn : findEntry s key = some n) :
      Effect s (activate n key false s).2
  | clear {n : Nat} (hn : n < Config.maxSources) (hactive : (s.source n).state = .active) : Effect s (clearSource n s)
  | gap (g : Nat) : Effect s (s.withPle { s.ple with gap := clampGap g })
  | mode (m : Option Target) (w : Nat) :
      Effect s (settle (actOnMode m (s.withSmc { s.smc with warmUp := clampWarmUp w })))

/-- An owner whose every request has an effect of the list has one for every body. -/
theorem served_effect {α : Type} {op : α → State → Result × State} {s : State}
    (h : ∀ a, Outcome (Effect s) s (op a s)) (b : Body α) : Outcome (Effect s) s (served op b s) :=
  (Outcome.served h b).mono fun _ ⟨_, _, ht⟩ => ht

theorem Outcome.effect_of_same {s : State} {r : Result × State} (h : Outcome (· = s) s r) : Outcome (Effect s) s r :=
  h.mono fun _ ht => ht ▸ .nothing

theorem reading_effect {α : Type} {op : α → State → Result} {a : α} {s : State} (h : atEndOf (op a s) = .nothing) :
    Outcome (Effect s) s (reading op a s) :=
  (reading_outcome (rateOk_of_nothing h)).effect_of_same

theorem holdClock_effect (s : State) : Outcome (Effect s) s (holdClock s) :=
  (holdClock_outcome s).mono <| by
    rintro t (rfl | rfl)
    · exact .nothing
    · exact .clockEvent _ heldClock_ok

theorem setClock_effect (v : Nat) (s : State) : Outcome (Effect s) s (setClock v s) :=
  (setClock_outcome v s).mono fun _ ⟨_, hv, ht⟩ => ht ▸ .clockEvent _ (clockAt_ok hv)

theorem releaseClock_effect (s : State) : Outcome (Effect s) s (releaseClock s) :=
  (releaseClock_outcome s).mono <| by
    rintro t ⟨hset, rfl | rfl⟩
    · exact .nothing
    · exact .clockEvent _ (releasedClock_ok hset)

theorem configureDay_effect (r : DayConfigReq) (s : State) : Outcome (Effect s) s (configureDay r s) :=
  (configureDay_outcome r s).mono fun _ ⟨hr, ht⟩ => ht ▸ .clock (withDay_ok hr)

theorem loadCall_effect (r : CallLoadReq) (s : State) : Outcome (Effect s) s (loadCall r s) :=
  (loadCall_outcome r s).mono <| by
    rintro t ⟨k, d, hr, ⟨old, hold, hstate, rfl⟩ | ⟨hnone, hroom, rfl⟩⟩
    · exact .replaceCall d hr hold hstate
    · exact .addCall d hr hnone hroom

theorem deleteCall_effect (id : Nat) (s : State) : Outcome (Effect s) s (deleteCall id s) :=
  (deleteCall_outcome id s).mono fun _ ⟨_, hc, hstate, ht⟩ => ht ▸ .deleteCall hc hstate

theorem delayCall_effect (r : CallDelayReq) (s : State) : Outcome (Effect s) s (delayCall r s) :=
  (delayCall_outcome r s).mono fun _ ⟨_, hc, _, ht⟩ => ht ▸ .delayCall hc

theorem platformCall_effect (r : CallPlatformReq) (s : State) : Outcome (Effect s) s (platformCall r s) :=
  (platformCall_outcome r s).mono fun _ ⟨_, hc, hstate, ht⟩ => ht ▸ .platformCall _ hc hstate

theorem cancelCall_effect (id : Nat) (s : State) : Outcome (Effect s) s (cancelCall id s) :=
  (cancelCall_outcome id s).mono fun _ ⟨_, hc, hlive, ht⟩ => ht ▸ .cancelCall hc hlive

theorem reportCall_effect (r : CallReportReq) (s : State) : Outcome (Effect s) s (reportCall r s) :=
  (reportCall_outcome r s).mono <| by
    rintro t ⟨c, hc, -, ⟨-, hother, rfl⟩ | ⟨hstate, rfl⟩⟩
    · exact .arrive _ hc hother
    · exact .depart _ hc hstate

theorem setPlan_effect (r : PlanSetReq) (s : State) : Outcome (Effect s) s (setPlan r s) :=
  (setPlan_outcome r s).mono fun _ ⟨_, hlen, ht⟩ => ht ▸ .plan _ _ hlen

theorem configureInput_effect (r : InputConfigReq) (s : State) : Outcome (Effect s) s (configureInput r s) :=
  (configureInput_outcome r s).mono fun _ ⟨_, _, _, ht⟩ => ht ▸ .configureInput _ _ _ _

theorem clearInputs_effect (named : BitVec 32) (s : State) : Outcome (Effect s) s (clearInputs named s) :=
  (clearInputs_outcome named s).mono fun _ ht => ht ▸ .clearInputs named

theorem setPhrases_effect (ps : List PhraseReq) (s : State) : Outcome (Effect s) s (setPhrases ps s) :=
  (setPhrases_outcome ps s).mono fun _ ⟨hids, ht⟩ => ht ▸ .directory (putPhrases_ok hids)

theorem setTemplate_effect (r : TemplateSetReq) (s : State) : Outcome (Effect s) s (setTemplate r s) :=
  (setTemplate_outcome r s).mono fun _ ⟨_, hlen, ht⟩ => ht ▸ .template _ hlen

theorem composeBeginRequest_effect (restart : Bool) (s : State) :
    Outcome (Effect s) s (composeBeginRequest restart s) :=
  (composeBeginRequest_outcome restart s).mono fun _ ht => ht ▸ .composer fun _ => Nat.zero_le 64

theorem composePartRequest_effect (raw : List RawToken) (s : State) :
    Outcome (Effect s) s (composePartRequest raw s) :=
  (composePartRequest_outcome raw s).mono fun _ ⟨_, hlen, ht⟩ => ht ▸ .composer fun _ => hlen

theorem composeEndRequest_effect (tag : Byte) (h : HeaderReq) (s : State) :
    Outcome (Effect s) s (composeEndRequest tag h s) :=
  (composeEndRequest_outcome tag h s).mono fun _ ht => ht ▸ .composer id

theorem withdrawRequest_effect (a : Nat) (s : State) : Outcome (Effect s) s (withdrawRequest a s) :=
  (withdrawRequest_outcome a s).mono fun _ ht => ht ▸ .withdraw a

theorem configureZone_effect (r : ZoneConfigReq) (s : State) : Outcome (Effect s) s (configureZone r s) :=
  (configureZone_outcome r s).mono fun _ ⟨k, m, hzone, hgains, ht⟩ => ht ▸ .zone k m hzone hgains

theorem setGroups_effect (r : GroupSetReq) (s : State) : Outcome (Effect s) s (setGroups r s) :=
  (setGroups_outcome r s).mono fun _ ht => ht ▸ .groups r

theorem zoneStateRequest_effect (r : ZoneStateReq) (s : State) : Outcome (Effect s) s (zoneStateRequest r s) :=
  (zoneStateRequest_outcome r s).mono <| by
    rintro t (rfl | ⟨b, hzone, hb, rfl⟩)
    · exact .nothing
    · exact .base hzone hb

theorem startEvac_effect (r : EvacStartReq) (s : State) : Outcome (Effect s) s (startEvac r s) :=
  (startEvac_outcome r s).mono <| by
    rintro t (rfl | ⟨n, hkey, hn, rfl⟩)
    · exact .nothing
    · exact .activate hkey hn

theorem clearEvac_effect (n : Nat) (s : State) : Outcome (Effect s) s (clearEvac n s) :=
  (clearEvac_outcome n s).mono fun _ ⟨hn, hactive, ht⟩ => ht ▸ .clear hn hactive

theorem setModeRequest_effect (r : ModeSetReq) (s : State) : Outcome (Effect s) s (setModeRequest r s) :=
  (setModeRequest_outcome r s).mono fun _ ⟨m, _, ht⟩ => ht ▸ .mode m _

/-- Every request but ANNOUNCE is refused without an effect, or accepted with one of the list. -/
theorem owner_outcome {c : Instr} (hc : ∀ tag b, c ≠ .announce tag b) (s : State) :
    Outcome (Effect s) s (owner c s) := by
  cases c with
  | powerOn | resetAssert | resetRelease | frameReceived | interByteTimeout | frameTransmitted | secondOfStationTime |
      debounceExpiry | composeCheckCompletion | restEnd | ambientSample | phraseCompletion | gapEnd | lampPulseEnd |
      warmUpEnd | alertHoldExpiry | tenthOfRunTime | inputSampling => exact .refused _ _
  | announce tag b => exact absurd rfl (hc tag b)
  | unknownKind => exact .refused _ _
  | identify _ b => exact served_effect (fun _ => reading_effect rfl) b
  | statusRead _ b => exact served_effect (fun _ => reading_effect rfl) b
  | restart _ b => exact served_effect (fun _ => .accepted false [] .warmReset trivial .nothing) b
  | linkConfig _ b => exact served_effect (fun r => (configureLink_outcome r s).effect_of_same) b
  | noticeMask _ b => exact served_effect (fun m => (setMask_outcome m s).mono fun _ ht => ht ▸ .mask m) b
  | clockHold _ b => exact served_effect (fun _ => holdClock_effect s) b
  | clockSet _ b => exact served_effect (fun v => setClock_effect v s) b
  | clockRelease _ b => exact served_effect (fun _ => releaseClock_effect s) b
  | clockRead _ b => exact served_effect (fun _ => reading_effect rfl) b
  | dayConfig _ b => exact served_effect (fun r => configureDay_effect r s) b
  | callLoad _ b => exact served_effect (fun r => loadCall_effect r s) b
  | callDelete _ b => exact served_effect (fun r => deleteCall_effect r s) b
  | callDelay _ b => exact served_effect (fun r => delayCall_effect r s) b
  | callPlatform _ b => exact served_effect (fun r => platformCall_effect r s) b
  | callCancel _ b => exact served_effect (fun r => cancelCall_effect r s) b
  | callReport _ b => exact served_effect (fun r => reportCall_effect r s) b
  | callRead _ b => exact served_effect (fun r => reading_effect (readCall_atEnd r s)) b
  | callList _ b => exact served_effect (fun r => reading_effect (listCalls_atEnd r s)) b
  | planSet _ b => exact served_effect (fun r => setPlan_effect r s) b
  | inputConfig _ b => exact served_effect (fun r => configureInput_effect r s) b
  | inputRead _ b => exact served_effect (fun r => reading_effect (readInputs_atEnd r s)) b
  | inputClear _ b => exact served_effect (fun m => clearInputs_effect m s) b
  | phraseSet _ b => exact served_effect (fun ps => setPhrases_effect ps s) b
  | templateSet _ b => exact served_effect (fun r => setTemplate_effect r s) b
  | composeBegin _ b => exact served_effect (fun r => composeBeginRequest_effect r s) b
  | composePart _ b => exact served_effect (fun r => composePartRequest_effect r s) b
  | composeEnd tag b => exact served_effect (fun r => composeEndRequest_effect tag r s) b
  | withdraw _ b => exact served_effect (fun a => withdrawRequest_effect a s) b
  | storeRead _ b => exact served_effect (fun r => reading_effect (readStore_atEnd r s)) b
  | zoneConfig _ b => exact served_effect (fun r => configureZone_effect r s) b
  | groupSet _ b => exact served_effect (fun r => setGroups_effect r s) b
  | zoneState _ b => exact served_effect (fun r => zoneStateRequest_effect r s) b
  | zoneRead _ b => exact served_effect (fun r => reading_effect (readZones_atEnd r s)) b
  | evacStart _ b => exact served_effect (fun r => startEvac_effect r s) b
  | evacClear _ b => exact served_effect (fun n => clearEvac_effect n s) b
  | playoutConfig _ b => exact served_effect (fun g => (configurePlayout_outcome g s).mono fun _ ht => ht ▸ .gap g) b
  | channelRead _ b => exact served_effect (fun r => reading_effect (readChannels_atEnd r s)) b
  | modeSet _ b => exact served_effect (fun r => setModeRequest_effect r s) b

theorem announceRequest_effect (tag : Byte) (r : AnnounceReq) (s : State) :
    Effect s (announceRequest tag r s).2 ∧ rateOk (atEndOf (announceRequest tag r s).1) := by
  obtain ⟨code, d, h⟩ | ⟨ts, clamped, h⟩ := announceRequest_cases tag r s
  · rw [h]; exact ⟨.nothing, trivial⟩
  · rw [h]
    refine ⟨.announce _ tag ts, rateOk_of_nothing ?_⟩
    unfold announceReply
    split <;> rfl

/-- The owner of a request has an effect of the list, and asks for no rate out of range. -/
theorem owner_effect (c : Instr) (s : State) : Effect s (owner c s).2 ∧ rateOk (atEndOf (owner c s).1) := by
  by_cases hc : ∃ tag b, c = .announce tag b
  · obtain ⟨tag, b, rfl⟩ := hc
    cases b with
    | malformed => exact ⟨.nothing, trivial⟩
    | fields r => exact announceRequest_effect tag r s
  · have h := owner_outcome (by simpa using hc) s
    exact ⟨h.state (P := Effect s) .nothing fun _ ht => ht, h.rateOk_result⟩

/-! ### What every effect keeps -/

theorem enterCall_sound {c : Call} {s : State} (h : s.ttu.calls.length < Config.maxCalls) : Sound s (enterCall c s) :=
  ⟨rfl, id, id, fun hs => { hs with
    calls := by
      simp only [enterCall, State.withTtu_ttu, length_insertCall]
      exact h }, id⟩

theorem reportStatus_sound (n : Nat) (before : Bool) (t : Capture) (s : State) :
    Sound s (reportStatus n before t s) := by
  unfold reportStatus
  split
  · exact generate_sound _ _
  · exact .rfl s

theorem modifyInput_sound (n : Nat) (f : Input → Input) (s : State) : Sound s (s.modifyInput n f) :=
  withFiu_sound (by simp)

theorem regrouped_sound (r : GroupSetReq) (s : State) : Sound s (regrouped r s) := by
  unfold regrouped
  simp only
  refine ((withGroups_sound _ s).trans (forEach_sound (fun g s => ?_) _)).trans (forEach_sound (fun g s => ?_) _)
  · exact forEach_sound (fun z s => (invalidateZone_reroutes z s).sound) s
  · exact forEach_sound (fun z s => (recomputeZone_reroutes true z s).sound) s

theorem settle_sound (s : State) : Sound s (settle s) := (settle_settles s).sound

theorem actOnMode_settles (m : Option Target) (s : State) : Settles s (actOnMode m s) := by
  unfold actOnMode
  split
  · exact requestOpen_settles _ _
  · exact requestNight_settles _ _
  · exact .rfl s

theorem Effect.sound {s t : State} (h : Effect s t) : Sound s t := by
  cases h with
  | nothing => exact .rfl s
  | mask m => exact withMask_sound m s
  | clock h => exact withClock_sound h
  | clockEvent n h => exact (withClock_sound h).trans (generate_sound _ _)
  | addCall d hr hnone hroom => exact (enterCall_sound hroom).trans (recomputeIfCurrent_retimes _ _).sound
  | replaceCall d hr hold hstate => exact (replaceCall_retimes hold).sound
  | deleteCall => exact (deleteFound_retimes _ s).sound
  | delayCall => exact (delayFound_retimes _ _ s).sound
  | platformCall => exact (changePlatform_retimes _ _ s).sound
  | cancelCall => exact (cancelFound_retimes _ s).sound
  | arrive => exact (arrive_retimes _ _ _ _ s).sound
  | depart => exact (depart_retimes _ _ _ _ s).sound
  | plan n threshold hlen => exact withPlan_sound hlen n threshold s
  | configureInput n f => exact (modifyInput_sound n f s).trans (reportStatus_sound _ _ _ _)
  | clearInputs named => exact withFiu_sound (List.length_mapIdx ..)
  | directory h => exact withDirectory_sound h
  | template n hlen => exact withTemplate_sound hlen n s
  | composer h => exact setComposer_sound h
  | announce => exact (createWhole_settles _ s).sound
  | withdraw a => exact ((withdrawAnnouncement_settles a s).trans (settle_settles _)).sound
  | zone k m hzone hgains =>
    exact ((modifyZone_sound (fun z hz => configured_ok hgains k m hz) _ s).trans
      (recomputeZone_reroutes _ _ _).sound).trans (settle_sound _)
  | groups r => exact (regrouped_sound r s).trans (settle_sound _)
  | base => exact (changeBase_reroutes _ _ _ s).sound.trans (settle_sound _)
  | activate => exact (activate_reroutes _ _ _ s).sound
  | clear => exact (clearSource_reroutes _ s).sound
  | gap g => exact withGap_sound g s
  | mode m w => exact ((withWarmUp_sound w s).trans (actOnMode_settles m _).sound).trans (settle_sound _)

end Sys2Proof.Machine


/-! PROOFS. What every event and every reset keeps, and the statements that follow for every step: the queue of commands,
the clock's ranges, the supply line, the link and the capacities. -/

namespace Sys2Proof.Machine

open Sys2Proof.Claims

/-! ### The events of the channels, the zones and the modes -/

theorem nextRun_sound (c : Nat) (r : Option Run) (s : State) : Sound s (s.setChannel c r) := (setChannel_settles c r s).sound

theorem continueRun_settles (c : Nat) (s : State) : Settles s (continueRun c s) := by
  unfold continueRun
  split
  · exact .rfl s
  · split
    · exact channelIdle_settles _ _ s
    · exact setChannel_settles _ _ s

theorem completePhrase_settles (c : Nat) (r : Run) (s : State) : Settles s (completePhrase c r s) := by
  unfold completePhrase
  split
  · exact endRun_settles _ _ s
  · exact (forEach_settles (fun z s => endPart_settles c .truncated false z s) s).trans (continueRun_settles _ _)

theorem takePhraseEnd_settles (c : Nat) (s : State) : Settles s (takePhraseEnd c s) := by
  unfold takePhraseEnd
  split
  · split
    · exact (completePhrase_settles _ _ s).trans (settle_settles _)
    · exact .rfl s
  · exact .rfl s

theorem takeGapEnd_settles (c : Nat) (s : State) : Settles s (takeGapEnd c s) := by
  unfold takeGapEnd
  split
  · split
    · exact setChannel_settles _ _ s
    · exact .rfl s
  · exact .rfl s

theorem takePulseEnd_settles (z : Nat) (s : State) : Settles s (takePulseEnd z s) := by
  unfold takePulseEnd
  split
  · split
    · exact modifyZone_settles (f := fun zn => { zn with pulseEnd := none }) (fun _ => rfl) (fun _ h => h) z s
    · exact .rfl s
  · exact .rfl s

theorem enterTarget_settles (t : Target) (s : State) : Settles s (enterTarget t s) := by
  cases t with
  | opn => exact setMode_settles _ _ s
  | nightAlert => exact enterNightAlert_settles _ s
  | night => exact enterNight_settles _ s

theorem takeWarmUpEnd_settles (s : State) : Settles s (takeWarmUpEnd s) := by
  unfold takeWarmUpEnd
  split
  · split
    · exact (enterTarget_settles _ s).trans (settle_settles _)
    · exact .rfl s
  · exact .rfl s

theorem takeHoldExpiry_settles (s : State) : Settles s (takeHoldExpiry s) := by
  unfold takeHoldExpiry
  split
  · split
    · exact (enterNight_settles _ s).trans (settle_settles _)
    · exact .rfl s
  · exact .rfl s

theorem endRest_settles (z : Nat) (p : Placement) (s : State) : Settles s (endRest z p s) := by
  unfold endRest
  split
  · exact dropPlacement_settles _ _ _ s
  · refine mapQueue_settles (g := fun q => if q.announcement == p.announcement then
      { q with condition := restoredCondition s z p } else q) (fun q => ?_) z s
    split <;> rfl

theorem endRests_settles (s : State) : Settles s (endRests s) :=
  (forEach_settles (fun z s => forEach_settles (fun p s => endRest_settles z p s) s) s).trans (settle_settles _)

theorem takeRestEnd_settles (z a : Nat) (s : State) : Settles s (takeRestEnd z a s) := by
  unfold takeRestEnd
  split
  · exact endRests_settles s
  · exact .rfl s

/-! ### The composer's check -/

theorem checkContent_settles (b : List Token) (h : Header) (tag : Byte) (s : State) :
    Settles s (checkContent b h tag s).2 := by
  unfold checkContent
  split
  · exact .rfl s
  · split
    · exact .rfl s
    · exact createWhole_settles _ s

theorem completeCheck_sound (s : State) : Sound s (completeCheck s) := by
  unfold completeCheck
  split
  · exact ((checkContent_settles _ _ _ s).sound.trans (setComposer_sound (c := .idle) fun _ => Nat.zero_le 64)).trans
      (generate_sound _ _)
  · exact .rfl s

theorem takeCheckEnd_sound (s : State) : Sound s (takeCheckEnd s) := by
  unfold takeCheckEnd
  split
  · exact completeCheck_sound s
  · exact .rfl s

/-! ### The ambient samples (R108) -/

theorem sampleOf_range (x : Int) : 30 ≤ sampleOf x ∧ sampleOf x ≤ 120 := by
  unfold sampleOf
  rw [clampInt_eq (by omega)]
  omega

theorem joinWindow_length_le (x : Nat) (w : List Nat) : (joinWindow x w).length ≤ 8 := by
  simp only [joinWindow, List.length_drop]
  omega

theorem mem_joinWindow {x y : Nat} {w : List Nat} (h : y ∈ joinWindow x w) : y ∈ w ∨ y = x := by
  simpa using List.mem_of_mem_drop h

theorem sampleZone_sound (readings : List Int) (z : Nat) (s : State) : Sound s (sampleZone readings z s) := by
  unfold sampleZone
  split
  · refine modifyZone_sound (f := fun zn =>
      { zn with window := joinWindow (sampleOf (readings.getD z 30)) zn.window }) (fun y hy => ?_) z s
    refine { hy with window := ⟨joinWindow_length_le _ _, fun x hx => ?_⟩ }
    obtain hx | rfl := mem_joinWindow hx
    · exact hy.window.2 x hx
    · exact sampleOf_range _
  · exact .rfl s

theorem withTick_sound (tick : Nat) (due : Bool) (s : State) :
    Sound s (s.withZrt { s.zrt with ambientTick := tick, ambientDue := due }) :=
  ⟨rfl, id, id, fun hs => { hs with }, id⟩

theorem takeSamples_sound (readings : List Int) (s : State) : Sound s (takeSamples readings s) := by
  unfold takeSamples
  split
  · exact (withTick_sound _ false s).trans (forEach_sound (sampleZone_sound readings) _)
  · exact .rfl s

theorem takeReadings_sound (readings : List Int) (s : State) : Sound s (takeReadings readings s) :=
  (withPins_sound _ s).trans (takeSamples_sound _ _)

/-! ### Debounce expiries (R56, R64) -/

theorem handEdge_sound (f : InputFunction) (active : Bool) (t : Capture) (input : Nat) (s : State) :
    Sound s (handEdge f active t input s) := by
  unfold handEdge
  split
  · exact (trainActive_retimes _ _ _ s).sound
  · exact (trainInactive_retimes _ _ _ s).sound
  · exact (dispatchActive_retimes _ _ _ s).sound
  · exact (closureActive_reroutes _ s).sound
  · exact (closureInactive_reroutes _ _ s).sound
  · exact (panelActive_reroutes _ _ s).sound
  · exact .rfl s

theorem expireTo_sound (n : Nat) (level : Bool) (s : State) : Sound s (expireTo n level s) := by
  unfold expireTo
  simp only
  have hinput := (modifyInput_sound n (transitioned level) s).trans
    (reportStatus_sound n (statusInput (s.input n)) s.capture _)
  refine Sound.trans ?_ (settle_sound _)
  have hwake : ∀ u, Sound s u → ∀ b : Prop, [Decidable b] → Sound s (if b then wakeRequest n u else u) := by
    intro u hu b _
    split
    · exact hu.trans (wakeRequest_settles _ _).sound
    · exact hu
  split
  · exact hwake _ hinput _
  · exact (hwake _ hinput _).trans (handEdge_sound _ _ _ _ _)

theorem takeExpiry_sound (n : Nat) (s : State) : Sound s (takeExpiry n s) := by
  unfold takeExpiry
  split
  · split
    · exact expireTo_sound _ _ s
    · exact .rfl s
  · exact .rfl s

theorem takeExpiries_sound (s : State) : Sound s (takeExpiries s) := forEach_sound takeExpiry_sound s

theorem sampledFiu_length (levels : BitVec 32) (f : Fiu) : (sampledFiu levels f).inputs.length = f.inputs.length := by
  simp [sampledFiu]

/-! ### Run time and station time (R1 to R3) -/

theorem takeOverdue_sound (s : State) : Sound s (takeOverdue s) := by
  unfold takeOverdue
  simp only
  have hruns := (takeCheckEnd_sound s).trans (forEach_sound (xs := allChannels) (fun c s =>
    ((takePhraseEnd_settles c s).trans (takeGapEnd_settles c _)).sound) _)
  have hrests : ∀ u, Sound s u → ∀ b : Prop, [Decidable b] → Sound s (if b then endRests u else u) := by
    intro u hu b _
    split
    · exact hu.trans (endRests_settles _).sound
    · exact hu
  exact ((((hrests _ hruns _).trans (forEach_sound (fun z s => (takePulseEnd_settles z s).sound) _)).trans
    ((takeWarmUpEnd_settles _).trans (takeHoldExpiry_settles _)).sound).trans (takeSamples_sound _ _)).trans
    (takeExpiries_sound _)

theorem takeTimed_sound (e : TimedEvent) (s : State) : Sound s (takeTimed e s) := by
  cases e with
  | composeCheck => exact takeCheckEnd_sound s
  | phraseEnd c => exact (takePhraseEnd_settles c s).sound
  | gapEnd c => exact (takeGapEnd_settles c s).sound
  | restEnd z a => exact (takeRestEnd_settles z a s).sound
  | pulseEnd z => exact (takePulseEnd_settles z s).sound
  | warmUpEnd => exact (takeWarmUpEnd_settles s).sound
  | holdExpiry => exact (takeHoldExpiry_settles s).sound
  | sample readings => exact takeReadings_sound readings s

theorem countTenth_sound (s : State) : Sound s (countTenth s) := by
  have hzrt : ∀ u : State, Sound u (u.withZrt (tenthZrt u.zrt)) := by
    intro u
    unfold tenthZrt
    split
    · exact withTick_sound _ u.zrt.ambientDue u
    · exact withTick_sound 0 true u
  exact (withClock_sound tenthClock_ok).trans (hzrt _)

theorem sweep_settles (which : State → Placement → Bool) (s : State) : Settles s (sweep which s) :=
  forEach_settles (fun z s => dropWhere_settles z .expired (which s) s) s

theorem reduceLatest_settles (limit : Nat) (s : State) : Settles s (reduceLatest limit s) :=
  withSlots_settles rfl rfl rfl fun h => h.map fun x => by split <;> rfl

theorem secondZrt_settles (rollover : Bool) (limit : Nat) (s : State) : Settles s (secondZrt rollover limit s) := by
  unfold secondZrt
  refine Settles.trans ?_ (settle_settles _)
  split
  · exact (sweep_settles _ s).trans (reduceLatest_settles limit _)
  · exact sweep_settles _ s

theorem secondSmc_settles (night opn : Bool) (s : State) : Settles s (secondSmc night opn s) := by
  unfold secondSmc
  refine Settles.trans ?_ (settle_settles _)
  split
  · exact requestNight_settles _ s
  · split
    · exact requestOpen_settles _ s
    · exact .rfl s

theorem deliver_sound {ttu zrt smc : State → State} (httu : ∀ s, Sound s (ttu s)) (hzrt : ∀ s, Sound s (zrt s))
    (hsmc : ∀ s, Sound s (smc s)) (order : DeliveryOrder) (s : State) : Sound s (deliver order ttu zrt smc s) := by
  cases order with
  | ttuZrtSmc => exact ((httu s).trans (hzrt _)).trans (hsmc _)
  | ttuSmcZrt => exact ((httu s).trans (hsmc _)).trans (hzrt _)
  | zrtTtuSmc => exact ((hzrt s).trans (httu _)).trans (hsmc _)
  | zrtSmcTtu => exact ((hzrt s).trans (hsmc _)).trans (httu _)
  | smcTtuZrt => exact ((hsmc s).trans (httu _)).trans (hzrt _)
  | smcZrtTtu => exact ((hsmc s).trans (hzrt _)).trans (httu _)

theorem takeSecond_sound (order : DeliveryOrder) (s : State) : Sound s (takeSecond order s) := by
  unfold takeSecond
  simp only
  refine Sound.trans ?_ (deliver_sound (fun s => (secondTtu_retimes _ s).sound)
    (fun s => (secondZrt_settles _ _ s).sound) (fun s => (secondSmc_settles _ _ s).sound) order _)
  have hclock : Sound s (s.withClock (advanceClock s.clock)) := withClock_sound advanceClock_ok
  split
  · exact hclock.trans (generate_sound _ _)
  · exact hclock

theorem secondTenth_sound (order : SecondOrder) (s : State) : Sound s (secondTenth order s) :=
  ((countTenth_sound s).trans (forEach_sound takeTimed_sound _)).trans (takeSecond_sound _ _)

theorem takeTenth_sound (s : State) : Sound s (takeTenth s) := by
  unfold takeTenth
  simp only
  split
  · exact (takeOverdue_sound s).trans (secondTenth_sound _ _)
  · exact (takeOverdue_sound s).trans (countTenth_sound _)

/-! ### The receiver (R156 to R158) -/

theorem discard_sound (f : LinkFault) (kind : Nat) (tag : Byte) (s : State) : Sound s (discard f kind tag s) :=
  (withReceiver_sound .hunting s).trans (generate_sound _ _)

theorem completeFrame_sound (bytes : List Byte) (s : State) : Sound s (completeFrame bytes s) := by
  unfold completeFrame
  simp only
  split
  · exact discard_sound _ _ _ s
  · split
    · exact discard_sound _ _ _ s
    · split
      · exact discard_sound _ _ _ s
      next hroom =>
        exact (withReceiver_sound .hunting s).trans (enqueue_sound (s := s.withLnk (hunt s.lnk)) (Nat.lt_of_not_le hroom) rfl)

theorem takeByte_sound (b : RxByte) (bytes : List Byte) (s : State) : Sound s (takeByte b bytes s) := by
  unfold takeByte
  simp only
  split
  · exact discard_sound _ _ _ s
  · split
    · exact discard_sound _ _ _ s
    · split
      · exact completeFrame_sound _ s
      · exact withReceiver_sound _ s

theorem receiveByte_sound (b : RxByte) (s : State) : Sound s (receiveByte b s) := by
  unfold receiveByte
  split
  · split
    · exact withReceiver_sound _ s
    · exact .rfl s
  · exact takeByte_sound _ _ s

theorem timeOut_sound (s : State) : Sound s (timeOut s) := by
  unfold timeOut
  split
  · exact .rfl s
  · exact discard_sound _ _ _ s

end Sys2Proof.Machine


/-! PROOFS. The resets and the end of a frame, and what follows for every step: the statements on the state after reset,
on the queue of commands, the clock, the supply line, the link and the capacities, and on the reply of every request. -/

namespace Sys2Proof.Machine

open Sys2Proof.Claims

/-! ### The state after reset (R13, R31, R54, R72, R91, R110, R111, R125, R153) -/

theorem getD_replicate_self {α : Type} (a : α) (n i : Nat) : (List.replicate n a).getD i a = a := by
  rw [List.getD_eq_getElem?_getD, List.getElem?_replicate]
  split <;> rfl

theorem reset_zone (z : Nat) : State.reset.zone z = coldZone := getD_replicate_self _ _ _

theorem reset_source (n : Nat) : State.reset.source n = coldSource := getD_replicate_self _ _ _

theorem reset_channel (c : Nat) : State.reset.channel c = none := getD_replicate_self _ _ _

theorem coldClock_ok : ClockOk coldClock where
  service := by decide
  prescaler := by decide
  unset := fun _ => rfl
  offset := by decide
  window := by decide
  nightStart := fun _ h => by cases h
  openTime := fun _ h => by cases h
  distinct := fun h => by cases h

theorem emptyLnk_ok {l : Lnk} (hrate : l.n ≤ 7 ∧ l.k ≤ 14) (hmask : l.mask.getLsbD 0 = true) : LinkOk (warmLnk l) where
  rate := hrate
  queue := Nat.zero_le _
  outbox := Nat.zero_le _
  lost := Nat.zero_le _
  carried := by simp [warmLnk]
  safety := hmask
  order := trivial
  rates := by simp [warmLnk, sentResults]

theorem emptyLnk_live (l : Lnk) : LinkLive (warmLnk l) := ⟨rfl, fun _ => ⟨rfl, rfl⟩⟩

theorem reset_link : LinkSound State.reset :=
  ⟨emptyLnk_ok (l := coldLnk) (by decide) (by decide), fun _ => emptyLnk_live coldLnk⟩

theorem coldZone_ok : ZoneOk coldZone where
  gains := by decide
  base := by decide
  nref := by decide
  slope := by decide
  threshold := by decide
  window := ⟨by decide, by simp [coldZone]⟩
  queue := ⟨by decide, by simp [coldZone]⟩

theorem reset_capacity : CapacityOk State.reset where
  calls := by decide
  plans := by simp [State.reset, coldTtu]
  cues := by
    intro p hp
    rw [List.eq_of_mem_replicate hp]
    decide
  inputs := by simp [State.reset, coldFiu]
  directory := ⟨by decide, by simp [State.reset, coldAsc], by simp [State.reset, coldAsc]⟩
  templates := by simp [State.reset, coldAsc]
  tokens := by
    intro t ht
    rw [List.eq_of_mem_replicate ht]
    decide
  slots := ⟨by decide, by simp [State.reset, coldAsc], by simp [State.reset, coldAsc]⟩
  buffer := by decide
  zones := by simp [State.reset, coldZrt]
  sources := by simp [State.reset, coldZrt]
  records := by
    intro z hz
    rw [List.eq_of_mem_replicate hz]
    exact coldZone_ok
  channels := by simp [State.reset, coldPle]
  gap := by decide
  warmUp := by decide

theorem reset_coverage : CoverageOk State.reset where
  zones := reset_capacity.zones
  sources := reset_capacity.sources
  covering := by
    intro z _
    have hnone : coveringOf State.reset z = none :=
      List.find?_eq_none.mpr fun n _ => by rw [covers, reset_source]; simp [coldSource]
    rw [reset_zone, hnone]
    rfl

theorem reset_attachedTo (z c : Nat) : attachedTo State.reset z c = false := by
  unfold attachedTo
  rw [reset_channel]

theorem reset_isolation : IsolationOk State.reset where
  channels := reset_capacity.channels
  alone := by
    intro z _ c _ d _ h
    rw [reset_attachedTo] at h
    cases h
  isolated := by
    intro z _ h
    rw [reset_zone] at h
    cases h

theorem reset_announcements : AnnouncementsOk State.reset where
  queued := by
    intro z hz p hp
    rw [List.eq_of_mem_replicate hz] at hp
    cases hp
  playing := by
    intro c r h
    rw [reset_channel] at h
    cases h
  voiced := by
    intro n a h
    rw [reset_source] at h
    cases h
  used := by
    intro x hx
    cases hx

theorem reset_mode : ModeOk State.reset where
  silent := fun _ c => reset_channel c
  alert := fun _ h => by cases h
  hold := fun _ h => by cases h
  queues := by
    intro _ z hz p hp
    rw [List.eq_of_mem_replicate hz] at hp
    cases hp
  winding := fun h => by cases h

/-- Settles O26. -/
theorem resetMeetsEveryInvariant : Obligations.ResetMeetsEveryInvariant := by
  unfold Obligations.ResetMeetsEveryInvariant
  exact ⟨coldClock_ok, reset_link, rfl, reset_capacity, ⟨.nil, List.nodup_nil, .nil⟩, reset_coverage, reset_isolation,
    reset_announcements, reset_mode⟩

/-! ### The resets -/

theorem coldReset_sound (s : State) : Sound s (coldReset s) := by
  have hcold : Sound s { State.reset with pending := s.pending, pins := s.pins } :=
    ⟨rfl, fun _ => coldClock_ok, fun _ => rfl, fun _ => { reset_capacity with }, fun _ => reset_link⟩
  exact hcold.trans (generate_sound _ _)

theorem warmZone_ok {z : Zone} (h : ZoneOk z) : ZoneOk (warmZone z) :=
  { h with window := ⟨Nat.zero_le 8, fun x hx => by cases hx⟩, queue := ⟨Nat.zero_le _, .nil⟩ }

theorem warmBlocks_capacity {s : State} (h : CapacityOk s) : CapacityOk (warmBlocks s) :=
  { h with
    inputs := by simpa [warmBlocks, warmFiu] using h.inputs
    slots := ⟨Nat.zero_le _, List.nodup_nil, fun _ hx => by cases hx⟩
    buffer := Nat.zero_le 64
    zones := by simpa [warmBlocks, warmZrt] using h.zones
    sources := by simpa [warmBlocks, warmZrt] using h.sources
    records := fun z hz => by
      obtain ⟨y, hy, rfl⟩ := List.mem_map.mp hz
      exact warmZone_ok (h.records y hy)
    channels := by simp [warmBlocks, warmPle] }

theorem warmBlocks_sound (s : State) : Sound s (warmBlocks s) :=
  ⟨rfl, fun h => { h with prescaler := Nat.zero_le 9 }, fun _ => rfl, warmBlocks_capacity, fun h =>
    ⟨emptyLnk_ok h.1.rate h.1.safety, fun _ => emptyLnk_live s.lnk⟩⟩

theorem warmReset_sound (cause : RestartCause) (s : State) : Sound s (warmReset cause s) :=
  (warmBlocks_sound s).trans (warmReset_reroutes cause s).sound

theorem resetAsserted_sound (s : State) : Sound s ((s.withResetLine true).withLnk { s.lnk with tx := none }) :=
  ⟨rfl, id, id, fun h => { h with }, fun h =>
    ⟨{ h.1 with rates := fun r hr => h.1.rates r (List.mem_append_right _ (by simpa [sentResults] using hr)) },
      fun ht => by cases ht⟩⟩

/-! ### The end of a frame (R158, R160, R165, R166) -/

/-- The link with its transmitter still to be run: every answered request has its reply on the way. -/
def LinkDue (s : State) : Prop := LinkOk s.lnk ∧ (s.resetLine = false → Replied s.lnk)

theorem LinkSound.due {s : State} (h : LinkSound s) : LinkDue s := ⟨h.1, fun ht => (h.2 ht).replied⟩

theorem runTransmit_link {s : State} (h : LinkDue s) : LinkSound (runTransmit s) :=
  ⟨arbitrate_ok h.1, fun ht => arbitrate_live (h.2 ht)⟩

theorem runTransmit_sound (s : State) : Sound s (runTransmit s) := withLnk_sound fun h => runTransmit_link h.due

theorem applyAtEnd_due {a : AtEnd} {s : State} (ha : rateOk a) (h : LinkDue s) : LinkDue (applyAtEnd a s) := by
  cases a with
  | nothing => exact h
  | setRate n k =>
    simp only [applyAtEnd]
    split
    · exact h
    · exact ⟨{ h.1 with rate := ha }, h.2⟩
  | warmReset =>
    have hblocks : LinkSound (warmBlocks s) :=
      ⟨emptyLnk_ok h.1.rate h.1.safety, fun _ => emptyLnk_live s.lnk⟩
    exact ((warmReset_reroutes .restartRequest s).sound.link hblocks).due

theorem applyAtEnd_sound {a : AtEnd} (ha : rateOk a) (s : State) : Sound s (applyAtEnd a s) := by
  cases a with
  | nothing => exact .rfl s
  | setRate n k =>
    simp only [applyAtEnd]
    split
    · exact .rfl s
    · exact withLnk_sound fun h => ⟨{ h.1 with rate := ha }, fun ht => { h.2 ht with }⟩
  | warmReset => exact warmReset_sound _ s

theorem answeredFirst_drop {q : List Request} (h : answeredFirst q) : answeredFirst (q.drop 1) := by
  cases q with
  | nil => trivial
  | cons r rs => exact h.2

/-- The answered requests stand first, so that the oldest request is one where any is. -/
theorem countP_drop {q : List Request} (h : answeredFirst q) (hpos : 0 < q.countP Request.answered) :
    (q.drop 1).countP Request.answered + 1 = q.countP Request.answered := by
  cases q with
  | nil => simp at hpos
  | cons r rs =>
    cases hr : r.answered with
    | true => simp [hr]
    | false =>
      have hrs : rs.countP Request.answered = 0 := by
        rw [List.countP_eq_zero]
        intro q hq
        simp [h.1 hr q hq]
      simp [hr, hrs] at hpos

/-- The end of a reply takes its request out of the queue. -/
theorem replyEnded_due {s : State} {r : Reply} (htx : s.lnk.tx = some (.reply r)) (h : LinkSound s) :
    LinkDue (s.withLnk { s.lnk with tx := none, queue := s.lnk.queue.drop 1 }) := by
  refine ⟨{ h.1 with queue := ?_, order := answeredFirst_drop h.1.order, rates := ?_ }, fun ht => ?_⟩
  · have hlen := h.1.queue
    change (s.lnk.queue.drop 1).length ≤ _
    rw [List.length_drop]
    omega
  · exact fun x hx => h.1.rates x (List.mem_append_right _ (by simpa [sentResults] using hx))
  · have hanswered := (h.2 ht).answered
    simp only [sendsReply, htx] at hanswered
    have hdrop := countP_drop h.1.order (by omega)
    simp only [Replied, sendsReply, State.withLnk_lnk]
    omega

theorem noticeEnded_due {s : State} {n : NoticeEntry} (htx : s.lnk.tx = some (.notice n)) (h : LinkSound s) :
    LinkDue (s.withLnk { s.lnk with tx := none }) := by
  refine ⟨{ h.1 with rates := ?_ }, fun ht => ?_⟩
  · exact fun x hx => h.1.rates x (List.mem_append_right _ (by simpa [sentResults] using hx))
  · simpa [Replied, sendsReply, htx] using (h.2 ht).answered

theorem endFrame_of_idle {s : State} (h : s.lnk.tx = none) : endFrame s = s := by unfold endFrame; rw [h]

theorem endFrame_of_notice {s : State} {n : NoticeEntry} (h : s.lnk.tx = some (.notice n)) :
    endFrame s = runTransmit (s.withLnk { s.lnk with tx := none }) := by unfold endFrame; rw [h]

theorem endFrame_of_reply {s : State} {r : Reply} (h : s.lnk.tx = some (.reply r)) :
    endFrame s = runTransmit (applyAtEnd (atEndOf r.result)
      (s.withLnk { s.lnk with tx := none, queue := s.lnk.queue.drop 1 })) := by unfold endFrame; rw [h]

/-- A reply in transmission asks for a rate in range. -/
theorem LinkOk.sentRate {l : Lnk} {r : Reply} (h : LinkOk l) (htx : l.tx = some (.reply r)) :
    rateOk (atEndOf r.result) := h.rates r.result (by simp [sentResults, htx])

/-- The link's part of a step that ends a frame; the rest follows from a sound link. -/
theorem endFrame_link {s : State} (h : LinkSound s) : LinkSound (endFrame s) := by
  cases htx : s.lnk.tx with
  | none => rwa [endFrame_of_idle htx]
  | some f =>
    cases f with
    | notice n => rw [endFrame_of_notice htx]; exact runTransmit_link (noticeEnded_due htx h)
    | reply r =>
      rw [endFrame_of_reply htx]
      exact runTransmit_link (applyAtEnd_due (h.1.sentRate htx) (replyEnded_due htx h))

/-- Beside the link, the end of a frame changes what the warm reset of a RESTART does. -/
theorem endFrame_cases (s : State) :
    (∃ l, endFrame s = s.withLnk l) ∨ ∃ l m, endFrame s = (warmReset .restartRequest (s.withLnk l)).withLnk m := by
  cases htx : s.lnk.tx with
  | none => exact .inl ⟨s.lnk, endFrame_of_idle htx⟩
  | some f =>
    cases f with
    | notice n => exact .inl ⟨_, endFrame_of_notice htx⟩
    | reply r =>
      rw [endFrame_of_reply htx]
      cases atEndOf r.result with
      | nothing => exact .inl ⟨_, rfl⟩
      | setRate n k =>
        simp only [applyAtEnd]
        split
        · exact .inl ⟨_, rfl⟩
        · exact .inl ⟨_, rfl⟩
      | warmReset => exact .inr ⟨_, _, rfl⟩

theorem endFrame_sound (s : State) : Sound s (endFrame s) := by
  obtain ⟨l, h⟩ | ⟨l, m, h⟩ := endFrame_cases s
  · exact ⟨by rw [h]; rfl, by rw [h]; exact id, by rw [h]; exact id, by rw [h]; exact fun hs => { hs with },
      endFrame_link⟩
  · have hwarm := warmReset_sound .restartRequest (s.withLnk l)
    exact ⟨by rw [h]; exact hwarm.pending, by rw [h]; exact hwarm.clock, by rw [h]; exact hwarm.supply,
      by rw [h]; exact fun hs => { hwarm.capacity { hs with } with }, endFrame_link⟩

/-! ### Every event, every command, every step -/

theorem sampled_sound (levels : BitVec 32) (s : State) :
    Sound s ((s.withPins { s.pins with inputs := levels }).withFiu (sampledFiu levels s.fiu)) :=
  (withPins_sound _ s).trans (withFiu_sound (by rw [State.withPins_fiu, sampledFiu_length]))

theorem happens_sound (c : Instr) (s : State) : Sound s (happens c s) := by
  cases c with
  | frameReceived bytes => exact forEach_sound receiveByte_sound s
  | interByteTimeout => exact timeOut_sound s
  | frameTransmitted => exact endFrame_sound s
  | secondOfStationTime order =>
    simp only [happens]
    split
    · exact (takeOverdue_sound s).trans (secondTenth_sound _ _)
    · exact .rfl s
  | debounceExpiry n => exact takeExpiry_sound n s
  | composeCheckCompletion => exact completeCheck_sound s
  | restEnd z a => exact (takeRestEnd_settles z a s).sound
  | ambientSample readings => exact takeReadings_sound readings s
  | phraseCompletion c => exact (takePhraseEnd_settles c s).sound
  | gapEnd c => exact (takeGapEnd_settles c s).sound
  | lampPulseEnd z => exact (takePulseEnd_settles z s).sound
  | warmUpEnd => exact (takeWarmUpEnd_settles s).sound
  | alertHoldExpiry => exact (takeHoldExpiry_settles s).sound
  | tenthOfRunTime => exact takeTenth_sound s
  | inputSampling levels =>
    exact (takeExpiries_sound s).trans (sampled_sound levels _)
  | powerOn | resetAssert | resetRelease | unknownKind | identify | statusRead | restart | linkConfig | noticeMask |
      clockHold | clockSet | clockRelease | clockRead | dayConfig | callLoad | callDelete | callDelay | callPlatform |
      callCancel | callReport | callRead | callList | planSet | inputConfig | inputRead | inputClear | phraseSet |
      templateSet | announce | composeBegin | composePart | composeEnd | withdraw | storeRead | zoneConfig | groupSet |
      zoneState | zoneRead | evacStart | evacClear | playoutConfig | channelRead | modeSet => exact .rfl s

theorem stated_cases (c : Instr) (s : State) : ∃ p, stated c s = s.withPins p := by
  unfold stated
  split
  · exact ⟨_, rfl⟩
  · exact ⟨_, rfl⟩
  · exact ⟨s.pins, rfl⟩

/-- What an event or a change of the RESET line leaves, by what brings it. -/
theorem eventAfter_cases (c : Instr) (s : State) :
    eventAfter c s = coldReset s ∨ eventAfter c s = (s.withResetLine true).withLnk { s.lnk with tx := none } ∨
      eventAfter c s = warmReset .resetLine s ∨ (∃ p, eventAfter c s = s.withPins p) ∨
      (s.resetLine = false ∧ eventAfter c s = happens c s) := by
  unfold eventAfter
  split
  · exact .inl rfl
  · exact .inr (.inl rfl)
  · exact .inr (.inr (.inl rfl))
  · split
    · exact .inr (.inr (.inr (.inl (stated_cases _ s))))
    next h => exact .inr (.inr (.inr (.inr ⟨by simpa using h, rfl⟩)))

theorem eventAfter_sound (c : Instr) (s : State) : Sound s (eventAfter c s) := by
  obtain h | h | h | ⟨p, h⟩ | ⟨-, h⟩ := eventAfter_cases c s <;> rw [h]
  · exact coldReset_sound s
  · exact resetAsserted_sound s
  · exact warmReset_sound _ s
  · exact withPins_sound p s
  · exact happens_sound c s

/-- Every command answers a next state with what the state before it had sound. -/
theorem exec_sound (c : Instr) (s : State) : ∃ t, exec c s = .next t ∧ Sound s t := by
  obtain ⟨-, h⟩ | h | ⟨s0, -, ht, h⟩ := exec_cases c s
  · exact ⟨_, h, eventAfter_sound c s⟩
  · exact ⟨_, h, .rfl s⟩
  · obtain ⟨heffect, hrate⟩ := owner_effect c s0
    exact ⟨_, h, ((takeRequest_sound ht).trans heffect.sound).trans (answer_sound hrate _)⟩

/-- A step idles, or takes the command at the front of the queue. -/
theorem step_cases {s t : State} (h : step s = .next t) :
    t = s ∨ ∃ c rest, s.pending = c :: rest ∧ exec c (s.withPending rest) = .next t := by
  cases hp : s.pending with
  | nil => rw [stepRunsTheFrontCommand.2 s hp] at h; cases h; exact .inl rfl
  | cons c rest => rw [stepRunsTheFrontCommand.1 c rest s hp] at h; exact .inr ⟨c, rest, rfl, h⟩

theorem step_sound {s t : State} (h : step s = .next t) : t = s ∨ ∃ rest, Sound (s.withPending rest) t := by
  obtain rfl | ⟨c, rest, -, hc⟩ := step_cases h
  · exact .inl rfl
  · obtain ⟨u, hu, hsound⟩ := exec_sound c (s.withPending rest)
    rw [hu] at hc
    cases hc
    exact .inr ⟨rest, hsound⟩

/-- Settles O2. -/
theorem everyCommandAnswersANextState : Obligations.EveryCommandAnswersANextState := by
  unfold Obligations.EveryCommandAnswersANextState
  intro c s
  obtain ⟨t, ht, hsound⟩ := exec_sound c s
  exact ⟨t, ht, hsound.pending⟩

/-- Settles O19. -/
theorem everyStepKeepsTheClockAndTheSupply : Obligations.EveryStepKeepsTheClockAndTheSupply := by
  unfold Obligations.EveryStepKeepsTheClockAndTheSupply
  refine ⟨fun s t hs h => ?_, fun s t hs h => ?_⟩
  · obtain rfl | ⟨rest, hsound⟩ := step_sound h
    · exact hs
    · exact hsound.clock hs
  · obtain rfl | ⟨rest, hsound⟩ := step_sound h
    · exact hs
    · exact hsound.supply hs

/-- Settles O21. -/
theorem everyStepKeepsTheLinkSound : Obligations.EveryStepKeepsTheLinkSound := by
  unfold Obligations.EveryStepKeepsTheLinkSound
  intro s t hs h
  obtain rfl | ⟨rest, hsound⟩ := step_sound h
  · exact hs
  · exact hsound.link hs

/-- Settles O22. -/
theorem everyStepKeepsTheCapacities : Obligations.EveryStepKeepsTheCapacities := by
  unfold Obligations.EveryStepKeepsTheCapacities
  intro s t hs h
  obtain rfl | ⟨rest, hsound⟩ := step_sound h
  · exact hs
  · exact hsound.capacity { hs with }

end Sys2Proof.Machine


/-! PROOFS. The reply of every request: each effect leaves the queue of requests alone, a refusal leaves the part, and a
malformed body is refused by every owner (R158, R159). -/

namespace Sys2Proof.Machine

open Sys2Proof.Claims

theorem Works.queue {s t : State} (h : Works s t) : t.lnk.queue = s.lnk.queue := notified_queue h.rest.lnk

theorem generate_queue (n : Notice) (s : State) : (generate n s).lnk.queue = s.lnk.queue :=
  (generate_settles n s).works.queue

theorem reportStatus_queue (n : Nat) (before : Bool) (t : Capture) (s : State) :
    (reportStatus n before t s).lnk.queue = s.lnk.queue := by
  unfold reportStatus
  split
  · exact generate_queue _ _
  · rfl

theorem regrouped_queue (r : GroupSetReq) (s : State) : (regrouped r s).lnk.queue = s.lnk.queue := by
  unfold regrouped
  simp only
  have hwork : ∀ gs : List Nat, ∀ f : State → Nat → List Nat, ∀ op : Nat → State → State, (∀ z u, Works u (op z u)) →
      ∀ u, Works u (forEach gs (fun g u => forEach (f u g) op u) u) := fun gs f op hop u =>
    forEach_works (fun g u => forEach_works hop u) u
  rw [(hwork _ zonesOfGroup _ (fun z u => (recomputeZone_reroutes true z u).works) _).queue,
    (hwork _ zonesOfGroup _ (fun z u => (invalidateZone_reroutes z u).works) _).queue]
  rfl

/-- No owner touches the queue of requests. -/
theorem Effect.queue {s t : State} (h : Effect s t) : t.lnk.queue = s.lnk.queue := by
  cases h with
  | nothing | mask | clock | plan | clearInputs | directory | template | composer | gap => rfl
  | clockEvent n => exact generate_queue n _
  | addCall => exact (recomputeIfCurrent_retimes _ _).works.queue
  | replaceCall d hr hold => exact (replaceCall_retimes hold).works.queue
  | deleteCall => exact (deleteFound_retimes _ s).works.queue
  | delayCall => exact (delayFound_retimes _ _ s).works.queue
  | platformCall => exact (changePlatform_retimes _ _ s).works.queue
  | cancelCall => exact (cancelFound_retimes _ s).works.queue
  | arrive => exact (arrive_retimes _ _ _ _ s).works.queue
  | depart => exact (depart_retimes _ _ _ _ s).works.queue
  | configureInput => exact reportStatus_queue _ _ _ _
  | announce => exact (createWhole_settles _ s).works.queue
  | withdraw a => exact ((withdrawAnnouncement_settles a s).trans (settle_settles _)).works.queue
  | zone => exact ((recomputeZone_reroutes _ _ _).works.trans (settle_settles _).works).queue
  | groups r => exact (settle_settles _).works.queue.trans (regrouped_queue r s)
  | base => exact ((changeBase_reroutes _ _ _ s).works.trans (settle_settles _).works).queue
  | activate => exact (activate_reroutes _ _ _ s).works.queue
  | clear => exact (clearSource_reroutes _ s).works.queue
  | mode m w => exact ((actOnMode_settles m _).trans (settle_settles _)).works.queue

/-- A refused request leaves the part as it was, ANNOUNCE apart. -/
theorem owner_of_refused {c : Instr} (hc : ∀ tag b, c ≠ .announce tag b) {s : State} {code : Code} {d : Nat}
    (h : (owner c s).1 = .refused code d) : (owner c s).2 = s := (owner_outcome hc s).of_refused h

/-- A malformed body is refused by its owner, whatever the request. -/
theorem owner_of_malformed {c : Instr} (h : malformed c = true) (s : State) : owner c s = (refuse .malformed, s) := by
  cases c with
  | powerOn | resetAssert | resetRelease | frameReceived | interByteTimeout | unknownKind | frameTransmitted |
      secondOfStationTime | debounceExpiry | composeCheckCompletion | restEnd | ambientSample | phraseCompletion | gapEnd |
      lampPulseEnd | warmUpEnd | alertHoldExpiry | tenthOfRunTime | inputSampling => cases h
  | identify | statusRead | restart | linkConfig | noticeMask | clockHold | clockSet |
      clockRelease | clockRead | dayConfig | callLoad | callDelete | callDelay |
      callPlatform | callCancel | callReport | callRead | callList | planSet | inputConfig |
      inputRead | inputClear | phraseSet | templateSet | announce | composeBegin |
      composePart | composeEnd | withdraw | storeRead | zoneConfig | groupSet | zoneState |
      zoneRead | evacStart | evacClear | playoutConfig | channelRead | modeSet =>
    rename_i b
    obtain rfl : b = .malformed := by simpa [malformed] using h
    rfl

/-- Settles O4. -/
theorem everyHandedRequestIsAnswered : Obligations.EveryHandedRequestIsAnswered := by
  unfold Obligations.EveryHandedRequestIsAnswered
  refine ⟨fun c s s0 h => ?_, fun c s s0 hbad h => ?_⟩
  · exact ⟨_, _, exec_eq_of_handed h, (owner_effect c s0).1.queue, fun code d hres hc => owner_of_refused hc hres⟩
  · unfold OnlyAnswers
    rw [exec_eq_of_handed h, owner_of_malformed hbad]
    rfl

end Sys2Proof.Machine


/-! PROOFS. A law of the part that looks at no line, no link, no clock and no input is kept by every step as soon as the
blocks' own work keeps it: the walk through the events and the requests, made once (`Keeper.step`). -/

namespace Sys2Proof.Machine

open Sys2Proof.Claims

/-- A relation from a state to what the blocks' work makes of it, blind to the lines, the link, the clock, the inputs, the
composer and the ambient windows. -/
structure Keeper (K : State → State → Prop) : Prop where
  rfl : ∀ s, K s s
  trans : ∀ {s t u}, K s t → K t u → K s u
  pending : ∀ s x, K s (s.withPending x)
  resetLine : ∀ s x, K s (s.withResetLine x)
  pins : ∀ s x, K s (s.withPins x)
  clock : ∀ s x, K s (s.withClock x)
  fiu : ∀ (s : State) (x : Fiu), x.inputs.length = s.fiu.inputs.length → K s (s.withFiu x)
  lnk : ∀ s x, K s (s.withLnk x)
  composer : ∀ s, K s (setComposer .idle s)
  tick : ∀ s n due, K s (s.withZrt { s.zrt with ambientTick := n, ambientDue := due })
  window : ∀ (s : State) (z : Nat) (x : Int),
    K s (s.modifyZone z (fun zn => { zn with window := joinWindow (sampleOf x) zn.window }))
  coldReset : ∀ s, K s (coldReset s)
  warmReset : ∀ cause s, K s (warmReset cause s)
  settle : ∀ s, K s (settle s)
  phraseEnd : ∀ c s, K s (takePhraseEnd c s)
  gapEnd : ∀ c s, K s (takeGapEnd c s)
  pulseEnd : ∀ z s, K s (takePulseEnd z s)
  endRests : ∀ s, K s (endRests s)
  warmUpEnd : ∀ s, K s (takeWarmUpEnd s)
  holdExpiry : ∀ s, K s (takeHoldExpiry s)
  create : ∀ h tag ts s, K s (createWhole (hostProto h tag ts) s).2
  wake : ∀ n s, K s (wakeRequest n s)
  edge : ∀ f active t n s, K s (handEdge f active t n s)
  secondTtu : ∀ rollover s, K s (secondTtu rollover s)
  secondZrt : ∀ rollover limit s, K s (secondZrt rollover limit s)
  secondSmc : ∀ night opn s, K s (secondSmc night opn s)
  effect : ∀ {s t}, Effect s t → K s t

namespace Keeper

variable {K : State → State → Prop} (k : Keeper K)
include k

theorem forEach {α : Type} {xs : List α} {f : α → State → State} (h : ∀ x s, K s (f x s)) (s : State) :
    K s (forEach xs f s) := by
  unfold Machine.forEach
  induction xs generalizing s with
  | nil => exact k.rfl s
  | cons x xs ih => exact k.trans (h x s) (ih (f x s))

theorem ite {p : Prop} [Decidable p] {s t : State} (h : K s t) : K s (if p then t else s) := by
  split
  · exact h
  · exact k.rfl s

theorem generate (n : Notice) (s : State) : K s (generate n s) := k.lnk s _

theorem completeCheck (s : State) : K s (completeCheck s) := by
  unfold Machine.completeCheck
  split
  next b h tag start _ =>
    have hcheck : K s (checkContent b h tag s).2 := by
      unfold checkContent
      split
      · exact k.rfl s
      · split
        · exact k.rfl s
        · exact k.create _ _ _ s
    exact k.trans (k.trans hcheck (k.composer _)) (k.generate _ _)
  · exact k.rfl s

theorem takeCheckEnd (s : State) : K s (takeCheckEnd s) := k.ite (k.completeCheck s)

theorem takeSamples (readings : List Int) (s : State) : K s (takeSamples readings s) :=
  k.ite (k.trans (k.tick s _ _) (k.forEach (fun z s =>
    k.ite (k.window s z (readings.getD z 30))) _))

theorem takeReadings (readings : List Int) (s : State) : K s (takeReadings readings s) :=
  k.trans (k.pins s { s.pins with noise := readings }) (k.takeSamples _ _)

theorem reportStatus (n : Nat) (before : Bool) (t : Capture) (s : State) : K s (reportStatus n before t s) :=
  k.ite (k.generate _ s)

theorem takeExpiry (n : Nat) (s : State) : K s (takeExpiry n s) := by
  have hexpire : ∀ level, K s (expireTo n level s) := by
    intro level
    unfold expireTo
    simp only
    have hinput := (k.trans (k.fiu s _ (List.length_modify ..) : K s (s.modifyInput n (transitioned level)))
      (k.reportStatus n (statusInput (s.input n)) s.capture _))
    have hpart : ∀ u, K s u → ∀ p : Prop, [Decidable p] → K s (if p then wakeRequest n u else u) :=
      fun u hu p _ => k.trans hu (k.ite (k.wake n u))
    refine k.trans ?_ (k.settle _)
    split
    · exact hpart _ hinput _
    · exact k.trans (hpart _ hinput _) (k.edge _ _ _ _ _)
  unfold Machine.takeExpiry
  split
  · exact k.ite (hexpire _)
  · exact k.rfl s

theorem takeExpiries (s : State) : K s (takeExpiries s) := k.forEach k.takeExpiry s

theorem takeOverdue (s : State) : K s (takeOverdue s) := by
  have hruns := k.trans (k.takeCheckEnd s) (k.forEach (xs := allChannels) (fun c s =>
    k.trans (k.phraseEnd c s) (k.gapEnd c _)) _)
  have hrests : ∀ u, K s u → ∀ p : Prop, [Decidable p] → K s (if p then Machine.endRests u else u) :=
    fun u hu p _ => k.trans hu (k.ite (k.endRests u))
  exact k.trans (k.trans (k.trans (hrests _ hruns _) (k.forEach (xs := allZones) k.pulseEnd _)) (k.trans (k.warmUpEnd _) (k.holdExpiry _)))
    (k.trans (k.takeSamples _ _) (k.takeExpiries _))

theorem takeTimed (e : TimedEvent) (s : State) : K s (takeTimed e s) := by
  cases e with
  | composeCheck => exact k.takeCheckEnd s
  | phraseEnd c => exact k.phraseEnd c s
  | gapEnd c => exact k.gapEnd c s
  | restEnd z a => exact k.ite (k.endRests s)
  | pulseEnd z => exact k.pulseEnd z s
  | warmUpEnd => exact k.warmUpEnd s
  | holdExpiry => exact k.holdExpiry s
  | sample readings => exact k.takeReadings readings s

theorem countTenth (s : State) : K s (countTenth s) := by
  refine k.trans (k.clock s (tenthClock s.clock)) ?_
  unfold Machine.countTenth tenthZrt
  split
  · exact k.tick (s.withClock (tenthClock s.clock)) _ s.zrt.ambientDue
  · exact k.tick (s.withClock (tenthClock s.clock)) 0 true

theorem takeSecond (order : DeliveryOrder) (s : State) : K s (takeSecond order s) := by
  unfold Machine.takeSecond
  simp only
  have hclock : K s (if isRollover s.clock then
      Machine.generate (.clockEvent .rollover none) (s.withClock (advanceClock s.clock))
      else s.withClock (advanceClock s.clock)) := k.trans (k.clock s _) (k.ite (k.generate _ _))
  refine k.trans hclock ?_
  cases order with
  | ttuZrtSmc => exact k.trans (k.trans (k.secondTtu _ _) (k.secondZrt _ _ _)) (k.secondSmc _ _ _)
  | ttuSmcZrt => exact k.trans (k.trans (k.secondTtu _ _) (k.secondSmc _ _ _)) (k.secondZrt _ _ _)
  | zrtTtuSmc => exact k.trans (k.trans (k.secondZrt _ _ _) (k.secondTtu _ _)) (k.secondSmc _ _ _)
  | zrtSmcTtu => exact k.trans (k.trans (k.secondZrt _ _ _) (k.secondSmc _ _ _)) (k.secondTtu _ _)
  | smcTtuZrt => exact k.trans (k.trans (k.secondSmc _ _ _) (k.secondTtu _ _)) (k.secondZrt _ _ _)
  | smcZrtTtu => exact k.trans (k.trans (k.secondSmc _ _ _) (k.secondZrt _ _ _)) (k.secondTtu _ _)

theorem secondTenth (order : SecondOrder) (s : State) : K s (secondTenth order s) :=
  k.trans (k.trans (k.countTenth s) (k.forEach k.takeTimed _)) (k.takeSecond _ _)

theorem takeTenth (s : State) : K s (takeTenth s) := by
  refine k.trans (k.takeOverdue s) ?_
  unfold Machine.takeTenth
  simp only
  split
  · exact k.secondTenth _ _
  · exact k.countTenth _

theorem discard (f : LinkFault) (kind : Nat) (tag : Byte) (s : State) : K s (discard f kind tag s) :=
  k.trans (k.lnk s _) (k.generate _ _)

theorem takeByte (b : RxByte) (bytes : List Byte) (s : State) : K s (takeByte b bytes s) := by
  have hframe : ∀ bytes, K s (completeFrame bytes s) := by
    intro bytes
    unfold completeFrame
    simp only
    split
    · exact k.discard _ _ _ s
    · split
      · exact k.discard _ _ _ s
      · split
        · exact k.discard _ _ _ s
        · exact k.lnk s _
  unfold Machine.takeByte
  simp only
  split
  · exact k.discard _ _ _ s
  · split
    · exact k.discard _ _ _ s
    · split
      · exact hframe _
      · exact k.lnk s _

theorem receiveByte (b : RxByte) (s : State) : K s (receiveByte b s) := by
  unfold Machine.receiveByte
  split
  · exact k.ite (k.lnk s _)
  · exact k.takeByte _ _ s

theorem endFrame (s : State) : K s (endFrame s) := by
  obtain ⟨l, h⟩ | ⟨l, m, h⟩ := endFrame_cases s <;> rw [h]
  · exact k.lnk s l
  · exact k.trans (k.trans (k.lnk s l) (k.warmReset _ _)) (k.lnk _ m)

theorem sampled (levels : BitVec 32) (s : State) :
    K s ((s.withPins { s.pins with inputs := levels }).withFiu (sampledFiu levels s.fiu)) :=
  k.trans (k.pins s _) (k.fiu _ _ (by rw [State.withPins_fiu, sampledFiu_length]))

theorem happens (c : Instr) (s : State) : K s (happens c s) := by
  cases c with
  | frameReceived bytes => exact k.forEach k.receiveByte s
  | interByteTimeout =>
    simp only [Machine.happens, timeOut]
    split
    · exact k.rfl s
    · exact k.discard _ _ _ s
  | frameTransmitted => exact k.endFrame s
  | secondOfStationTime order => exact k.ite (k.trans (k.takeOverdue s) (k.secondTenth _ _))
  | debounceExpiry n => exact k.takeExpiry n s
  | composeCheckCompletion => exact k.completeCheck s
  | restEnd z a => exact k.ite (k.endRests s)
  | ambientSample readings => exact k.takeReadings readings s
  | phraseCompletion c => exact k.phraseEnd c s
  | gapEnd c => exact k.gapEnd c s
  | lampPulseEnd z => exact k.pulseEnd z s
  | warmUpEnd => exact k.warmUpEnd s
  | alertHoldExpiry => exact k.holdExpiry s
  | tenthOfRunTime => exact k.takeTenth s
  | inputSampling levels => exact k.trans (k.takeExpiries s) (k.sampled levels _)
  | powerOn | resetAssert | resetRelease | unknownKind | identify | statusRead | restart | linkConfig | noticeMask |
      clockHold | clockSet | clockRelease | clockRead | dayConfig | callLoad | callDelete | callDelay | callPlatform |
      callCancel | callReport | callRead | callList | planSet | inputConfig | inputRead | inputClear | phraseSet |
      templateSet | announce | composeBegin | composePart | composeEnd | withdraw | storeRead | zoneConfig | groupSet |
      zoneState | zoneRead | evacStart | evacClear | playoutConfig | channelRead | modeSet => exact k.rfl s

theorem exec {c : Instr} {s t : State} (h : exec c s = .next t) : K s t := by
  obtain ⟨-, he⟩ | he | ⟨s0, -, htake, he⟩ := exec_cases c s <;> cases he.symm.trans h
  · obtain he | he | he | ⟨p, he⟩ | ⟨-, he⟩ := eventAfter_cases c s <;> rw [he]
    · exact k.coldReset s
    · exact k.trans (k.resetLine s true) (k.lnk _ _)
    · exact k.warmReset _ s
    · exact k.pins s p
    · exact k.happens c s
  · exact k.rfl s
  · obtain ⟨q, rfl⟩ := takeRequest_rest htake
    exact k.trans (k.trans (k.lnk s _) (k.effect (owner_effect c _).1)) (k.lnk _ _)

theorem step {s t : State} (h : step s = .next t) : K s t := by
  obtain rfl | ⟨c, rest, -, hc⟩ := step_cases h
  · exact k.rfl t
  · exact k.trans (k.pending s rest) (k.exec hc)

end Keeper

end Sys2Proof.Machine


/-! PROOFS. The call table: what each operation of TTU does to it, its place for a call, and that every step keeps it in
order with distinct ids and one train to a platform (R14, R16 to R18, R21 to R25, R30, R53). -/

namespace Sys2Proof.Machine

open Sys2Proof.Claims

/-! ### What the operations of TTU do to the table -/

/-- The computation of the times changes the arrival delay with its flag, and the times with theirs (R32 to R35). -/
theorem computeTimes_touches (c : Call) : ∃ da ca ea ed ec ceiling, computeTimes c =
    { c with da := da, clampArrival := ca, ea := ea, ed := ed, ec := ec, ceiling := ceiling } := by
  obtain ⟨da, ca, hd⟩ := deriveDelay_touches c
  unfold computeTimes
  rw [hd]
  unfold deriveTimes
  split
  · exact ⟨_, _, _, _, _, _, rfl⟩
  · exact ⟨_, _, _, _, _, _, rfl⟩
  · exact ⟨_, _, _, _, _, _, rfl⟩

theorem computeTimes_state (c : Call) : (computeTimes c).state = c.state := by
  obtain ⟨_, _, _, _, _, _, h⟩ := computeTimes_touches c
  rw [h]

theorem forEach_generate_ttu (ns : List Notice) (s : State) : (forEach ns generate s).ttu = s.ttu :=
  (forEach_settles (fun n s => generate_settles n s) s).ttu

/-- A recomputation of conflicts changes the partners of the calls it concerns (R40). -/
theorem recomputeConflicts_ttu (z : Nat) (leaver : Option Nat) (s : State) :
    (recomputeConflicts z leaver s).ttu = { s.ttu with calls := s.ttu.calls.map (fun c =>
      if concerned z leaver c then
        { c with partner := newPartner (conflictCalls s.ttu.calls z leaver) leaver c }
      else c) } := by
  unfold recomputeConflicts
  exact forEach_generate_ttu _ _

theorem recomputeConflicts_map (z : Nat) (leaver : Option Nat) (s : State) :
    ∃ f : Call → Option Nat, (recomputeConflicts z leaver s).ttu.calls =
      s.ttu.calls.map (fun c => { c with partner := f c }) := by
  refine ⟨fun c => if concerned z leaver c then newPartner (conflictCalls s.ttu.calls z leaver) leaver c
    else c.partner, ?_⟩
  rw [recomputeConflicts_ttu]
  refine List.map_congr_left fun c _ => ?_
  simp only
  split <;> rfl

theorem withdrawCall_ttu (id : Nat) (s : State) : (withdrawCall id s).ttu = s.ttu := (withdrawCall_settles id s).ttu

theorem settle_ttu (s : State) : (settle s).ttu = s.ttu := (settle_settles s).ttu

theorem call?_mem {s : State} {id : Nat} {c : Call} (h : s.call? id = some c) : c ∈ s.ttu.calls ∧ c.id = id :=
  ⟨List.mem_of_find?_eq_some h, by simpa using List.find?_some h⟩

/-! ### The order of the table (R14) -/

theorem comesBefore_iff (a b : Call) : comesBefore a b = true ↔ dayRank a.day < dayRank b.day ∨
    (dayRank a.day = dayRank b.day ∧ (earliest a < earliest b ∨ (earliest a = earliest b ∧ a.id < b.id))) := by
  have hday : a.day = b.day ↔ dayRank a.day = dayRank b.day := by
    cases a.day <;> cases b.day <;> decide
  simp only [comesBefore, Bool.or_eq_true, Bool.and_eq_true, decide_eq_true_eq, hday]

theorem comesBefore_trans {a b c : Call} (h : comesBefore a b = true) (g : comesBefore b c = true) :
    comesBefore a c = true := by
  rw [comesBefore_iff] at *
  omega

/-- Of two calls of distinct ids one comes before the other. -/
theorem comesBefore_total {a b : Call} (hid : a.id ≠ b.id) (h : comesBefore a b = false) : comesBefore b a = true := by
  rw [Bool.eq_false_iff, Ne, comesBefore_iff] at h
  rw [comesBefore_iff]
  omega

/-- A call enters the table behind the calls it does not come before, up to the first that it does (R14). -/
theorem insertCall_eq (c : Call) : ∀ cs : List Call, ∃ before after, cs = before ++ after ∧
    insertCall c cs = before ++ c :: after ∧ (∀ b ∈ before, comesBefore c b = false) ∧
    ∀ a, after.head? = some a → comesBefore c a = true
  | [] => ⟨[], [], rfl, rfl, by simp, by simp⟩
  | x :: xs => by
    unfold insertCall
    split
    next h => exact ⟨[], x :: xs, rfl, rfl, by simp, by simpa using h⟩
    next h =>
      obtain ⟨before, after, hcs, hins, hbefore, hafter⟩ := insertCall_eq c xs
      refine ⟨x :: before, after, by rw [hcs]; rfl, by rw [hins]; rfl, ?_, hafter⟩
      exact List.forall_mem_cons.mpr ⟨by simpa using h, hbefore⟩

/-! ### What keeps the table -/

theorem TableOk.sublist {cs ds : List Call} (h : TableOk cs) (hsub : ds.Sublist cs) : TableOk ds :=
  ⟨h.order.sublist hsub, h.ids.sublist (hsub.map _), h.platform.sublist hsub⟩

/-- In a table of distinct ids a call is found by its id. -/
theorem TableOk.eq_of_id {cs : List Call} (h : TableOk cs) {a b : Call} (ha : a ∈ cs) (hb : b ∈ cs)
    (hid : a.id = b.id) : a = b := List.inj_on_of_nodup_map h.ids ha hb hid

/-- `d` has the rank of `c` in the table. -/
structure SameRank (c d : Call) : Prop where
  day : d.day = c.day
  earliest : Machine.earliest d = Machine.earliest c
  id : d.id = c.id

/-- `d` takes the place of `c` in the table, and no train comes to a platform with it. -/
structure TakesPlace (c d : Call) : Prop extends SameRank c d where
  platform : d.state = .atPlatform → c.state = .atPlatform ∧ d.zone = c.zone

theorem TakesPlace.rfl (c : Call) : TakesPlace c c := ⟨⟨Eq.refl _, Eq.refl _, Eq.refl _⟩, fun h => ⟨h, Eq.refl _⟩⟩

theorem SameRank.trans {a b c : Call} (h : SameRank a b) (g : SameRank b c) : SameRank a c :=
  ⟨g.day.trans h.day, g.earliest.trans h.earliest, g.id.trans h.id⟩

theorem TakesPlace.trans {a b c : Call} (h : TakesPlace a b) (g : TakesPlace b c) : TakesPlace a c where
  toSameRank := h.toSameRank.trans g.toSameRank
  platform := fun hc => by
    obtain ⟨hb, hz⟩ := g.platform hc
    obtain ⟨ha, hy⟩ := h.platform hb
    exact ⟨ha, hz.trans hy⟩

theorem computeTimes_takesPlace (c : Call) : TakesPlace c (computeTimes c) := by
  obtain ⟨_, _, _, _, _, _, h⟩ := computeTimes_touches c
  rw [h]
  exact ⟨⟨rfl, rfl, rfl⟩, fun h => ⟨h, rfl⟩⟩

theorem comesBefore_congr {a b c d : Call} (hac : SameRank a c) (hbd : SameRank b d) :
    comesBefore c d = comesBefore a b := by
  unfold comesBefore
  rw [hac.day, hbd.day, hac.earliest, hbd.earliest, hac.id, hbd.id]

theorem order_map {cs : List Call} {f : Call → Call} (hf : ∀ c ∈ cs, SameRank c (f c)) (h : TableOk cs) :
    (cs.map f).Pairwise (fun a b => comesBefore a b = true) :=
  List.pairwise_map.mpr (h.order.imp_of_mem fun ha hb hab => by
    rw [comesBefore_congr (hf _ ha) (hf _ hb)]; exact hab)

theorem ids_map {cs : List Call} {f : Call → Call} (hf : ∀ c ∈ cs, (f c).id = c.id) :
    (cs.map f).map Call.id = cs.map Call.id := by
  rw [List.map_map]
  exact List.map_congr_left hf

theorem tableOk_map {cs : List Call} {f : Call → Call} (hf : ∀ c ∈ cs, TakesPlace c (f c)) (h : TableOk cs) :
    TableOk (cs.map f) where
  order := order_map (fun c hc => (hf c hc).toSameRank) h
  ids := by
    rw [ids_map fun c hc => (hf c hc).id]
    exact h.ids
  platform := List.pairwise_map.mpr (h.platform.imp_of_mem fun ha hb hab h1 h2 => by
    obtain ⟨hsa, hza⟩ := (hf _ ha).platform h1
    obtain ⟨hsb, hzb⟩ := (hf _ hb).platform h2
    rw [hza, hzb]
    exact hab hsa hsb)

/-- A call of a new id that is not at its platform enters the table. -/
theorem tableOk_insertCall {c : Call} {cs : List Call} (h : TableOk cs) (hid : ∀ x ∈ cs, x.id ≠ c.id)
    (hstate : c.state ≠ .atPlatform) : TableOk (insertCall c cs) := by
  obtain ⟨before, after, rfl, hins, hbefore, hafter⟩ := insertCall_eq c cs
  rw [hins]
  have hperm : (before ++ c :: after).Perm (c :: (before ++ after)) := List.perm_middle
  obtain ⟨horder, hids, hplatform⟩ := h
  rw [List.pairwise_append] at horder hplatform
  obtain ⟨hob, hoa, hcross⟩ := horder
  have hafter' : ∀ a ∈ after, comesBefore c a = true := by
    cases after with
    | nil => simp
    | cons x xs =>
      have hx := hafter x rfl
      exact List.forall_mem_cons.mpr ⟨hx, fun a ha => comesBefore_trans hx ((List.pairwise_cons.mp hoa).1 a ha)⟩
  have hbefore' : ∀ b ∈ before, comesBefore b c = true := fun b hb =>
    comesBefore_total (hid b (List.mem_append_left _ hb)).symm (hbefore b hb)
  refine ⟨List.pairwise_append.mpr ⟨hob, List.pairwise_cons.mpr ⟨hafter', hoa⟩, fun b hb a ha => ?_⟩, ?_,
    List.pairwise_append.mpr ⟨hplatform.1, List.pairwise_cons.mpr ⟨fun _ _ hc => absurd hc hstate, hplatform.2.1⟩,
      fun b hb a ha hsb hsa => ?_⟩⟩
  · obtain rfl | ha := List.mem_cons.mp ha
    · exact hbefore' b hb
    · exact hcross b hb a ha
  · rw [(hperm.map Call.id).nodup_iff, List.map_cons, List.nodup_cons]
    exact ⟨fun hmem => by
      obtain ⟨x, hx, hxid⟩ := List.mem_map.mp hmem
      exact hid x hx hxid, hids⟩
  · obtain rfl | ha := List.mem_cons.mp ha
    · exact absurd hsa hstate
    · exact hplatform.2.2 b hb a ha hsb hsa

/-- A call comes to a platform where no other stands. -/
theorem tableOk_arrival {cs : List Call} {c : Call} {f : Call → Call} (h : TableOk cs) (hc : c ∈ cs)
    (hfree : ∀ o ∈ cs, o.id ≠ c.id → o.state = .atPlatform → o.zone ≠ c.zone)
    (hrank : SameRank c (f c)) (hzone : (f c).zone = c.zone) :
    TableOk (cs.map (fun x => if x.id == c.id then f x else x)) := by
  have hsame : ∀ x ∈ cs, x.id = c.id → x = c := fun x hx => h.eq_of_id hx hc
  have hranks : ∀ x ∈ cs, SameRank x (if x.id == c.id then f x else x) := by
    intro x hx
    split
    next hid => obtain rfl := hsame x hx (by simpa using hid); exact hrank
    · exact ⟨rfl, rfl, rfl⟩
  refine ⟨order_map hranks h, by rw [ids_map fun x hx => (hranks x hx).id]; exact h.ids, ?_⟩
  refine List.pairwise_map.mpr ((h.platform.and (List.pairwise_map.mp h.ids)).imp_of_mem ?_)
  rintro a b ha hb ⟨hab, hne⟩ hsa hsb
  simp only [beq_iff_eq] at hsa hsb ⊢
  split at hsa <;> split at hsb
  · omega
  next hida hidb =>
    obtain rfl := hsame a ha hida
    rw [if_pos rfl, if_neg hidb, hzone]
    exact (hfree b hb hidb hsb).symm
  next hida hidb =>
    obtain rfl := hsame b hb hidb
    rw [if_pos rfl, if_neg hida, hzone]
    exact hfree a ha hida hsa
  next hida hidb =>
    rw [if_neg hida, if_neg hidb]
    exact hab hsa hsb

/-! ### The operations -/

/-- The table stays in order. -/
def KeepsTable (s t : State) : Prop := TableOk s.ttu.calls → TableOk t.ttu.calls

theorem KeepsTable.trans {s t u : State} (h : KeepsTable s t) (g : KeepsTable t u) : KeepsTable s u := g ∘ h

theorem keepsTable_of_ttu {s t : State} (h : t.ttu = s.ttu) : KeepsTable s t := fun hs => by rw [h]; exact hs

theorem Settles.keepsTable {s t : State} (h : Settles s t) : KeepsTable s t := keepsTable_of_ttu h.ttu

theorem Reroutes.keepsTable {s t : State} (h : Reroutes s t) : KeepsTable s t := keepsTable_of_ttu h.ttu

theorem generate_keepsTable (n : Notice) (s : State) : KeepsTable s (generate n s) := id

theorem forEach_keepsTable {α : Type} {xs : List α} {f : α → State → State} (h : ∀ x s, KeepsTable s (f x s))
    (s : State) : KeepsTable s (forEach xs f s) := by
  unfold forEach
  induction xs generalizing s with
  | nil => exact id
  | cons x xs ih => exact (h x s).trans (ih (f x s))

theorem modifyCall_keepsTable {id : Nat} {f : Call → Call} {s : State}
    (hf : TableOk s.ttu.calls → ∀ c ∈ s.ttu.calls, c.id = id → TakesPlace c (f c)) : KeepsTable s (s.modifyCall id f) :=
  fun hs => tableOk_map (fun c hc => by
    split
    next hid => exact hf hs c hc (by simpa using hid)
    · exact .rfl c) hs

theorem recomputeConflicts_keepsTable (z : Nat) (leaver : Option Nat) (s : State) :
    KeepsTable s (recomputeConflicts z leaver s) := by
  intro hs
  obtain ⟨f, hf⟩ := recomputeConflicts_map z leaver s
  rw [hf]
  exact tableOk_map (fun c _ => ⟨⟨rfl, rfl, rfl⟩, fun h => ⟨h, rfl⟩⟩) hs

theorem recomputeIfCurrent_keepsTable (c : Call) (s : State) : KeepsTable s (recomputeIfCurrent c s) := by
  unfold recomputeIfCurrent
  split
  · exact recomputeConflicts_keepsTable _ _ s
  · exact id

theorem removeCall_keepsTable (id : Nat) (s : State) : KeepsTable s (removeCall id s) :=
  fun hs => hs.sublist List.filter_sublist

/-- A call that leaves its platform, or its life, keeps its place. -/
theorem ends_keepsTable {id : Nat} {f : Call → Call}
    (hf : ∀ c, (f c).day = c.day ∧ earliest (f c) = earliest c ∧ (f c).id = c.id ∧ (f c).state ≠ .atPlatform)
    (s : State) : KeepsTable s (s.modifyCall id f) :=
  modifyCall_keepsTable fun _ c _ _ =>
    have ⟨hday, hearliest, hid, hstate⟩ := hf c
    ⟨⟨hday, hearliest, hid⟩, fun h => absurd h hstate⟩

theorem arrive_keepsTable {c : Call} {s : State} (hc : c ∈ s.ttu.calls)
    (hfree : ∀ o ∈ s.ttu.calls, o.id ≠ c.id → o.state = .atPlatform → o.zone ≠ c.zone) (t : Capture)
    (source : TimeSource) (cause : CallCause) : KeepsTable s (arrive c t source cause s) := by
  unfold arrive
  simp only
  refine KeepsTable.trans ?_ ((recomputeConflicts_keepsTable _ _ _).trans (generate_keepsTable _ _))
  refine KeepsTable.trans (fun hs => ?_) (modifyCall_keepsTable fun _ c _ _ => computeTimes_takesPlace c)
  exact tableOk_arrival hs hc hfree ⟨rfl, rfl, rfl⟩ rfl

theorem depart_keepsTable (c : Call) (t : Capture) (source : TimeSource) (cause : CallCause) (s : State) :
    KeepsTable s (depart c t source cause s) := by
  unfold depart
  simp only
  exact (ends_keepsTable (by simp [earliest]) s).trans ((generate_keepsTable _ _).trans (recomputeConflicts_keepsTable _ _ _))

theorem completions_keepsTable (s : State) : KeepsTable s (completions s) := by
  refine forEach_keepsTable (fun c s => ?_) s
  unfold completeUnconfirmed
  simp only
  exact (ends_keepsTable (by simp [earliest]) s).trans ((generate_keepsTable _ _).trans (recomputeConflicts_keepsTable _ _ _))

theorem setMark_keepsTable (id i : Nat) (m : Mark) (s : State) : KeepsTable s (setMark id i m s) :=
  modifyCall_keepsTable fun _ _ _ _ => ⟨⟨rfl, rfl, rfl⟩, fun h => ⟨h, rfl⟩⟩

theorem reportDropped_keepsTable (id i : Nat) (r : Created) (s : State) : KeepsTable s (reportDropped id i r s) := by
  unfold reportDropped
  split
  · exact fun h => h
  · exact generate_keepsTable _ s
  · exact generate_keepsTable _ s

theorem fireCue_keepsTable (c : Call) (i : Nat) (q : Cue) (t : Int) (s : State) : KeepsTable s (fireCue c i q t s) := by
  unfold fireCue
  simp only
  split
  · exact (setMark_keepsTable _ _ _ s).trans (generate_keepsTable _ _)
  · exact ((setMark_keepsTable _ _ _ s).trans (createWhole_settles _ _).keepsTable).trans
      ((reportDropped_keepsTable _ _ _ _).trans (generate_keepsTable _ _))

theorem evaluateCue_keepsTable (id i : Nat) (s : State) : KeepsTable s (evaluateCue id i s) := by
  unfold evaluateCue
  split
  · exact fun h => h
  · split
    · exact fun h => h
    · split
      · split
        · exact fun h => h
        · simp only
          split
          · exact fun h => h
          · split
            · exact fireCue_keepsTable _ _ _ _ s
            · exact (setMark_keepsTable _ _ _ s).trans (generate_keepsTable _ _)
      · exact fun h => h

theorem fireEventCue_keepsTable (id : Nat) (a : Anchor) (t i : Nat) (s : State) :
    KeepsTable s (fireEventCue id a t i s) := by
  unfold fireEventCue
  split
  · exact fun h => h
  · split
    · exact fun h => h
    · split
      · exact fireCue_keepsTable _ _ _ _ s
      · exact fun h => h

theorem fireEventCues_keepsTable (id : Nat) (a : Anchor) (t : Nat) (s : State) :
    KeepsTable s (fireEventCues id a t s) := forEach_keepsTable (fun i s => fireEventCue_keepsTable id a t i s) s

theorem settle_keepsTable (s : State) : KeepsTable s (settle s) := (settle_settles s).keepsTable

theorem withdrawCall_keepsTable (id : Nat) (s : State) : KeepsTable s (withdrawCall id s) :=
  (withdrawCall_settles id s).keepsTable

/-! ### Detection (R66, R67) -/

theorem callAtPlatform_eq_none {s : State} {z : Nat} :
    callAtPlatform s z = none ↔ ∀ o ∈ s.ttu.calls, o.state = .atPlatform → o.zone ≠ z := by
  simp [callAtPlatform]

theorem chooseCall_mem {s : State} {z now : Nat} {c : Call} (h : chooseCall s z now = some c) :
    c ∈ trainCandidates s z now := by
  obtain hmem | hnone := mem_of_foldl_best (fun b x => by
    cases b with
    | none => exact .inl rfl
    | some b =>
      simp only
      split
      · exact .inl rfl
      · exact .inr rfl) h
  · exact hmem
  · cases hnone

theorem mem_trainCandidates {s : State} {z now : Nat} {c : Call} : c ∈ trainCandidates s z now ↔
    c ∈ s.ttu.calls ∧ c.day = .current ∧ c.zone = z ∧ c.state = .planned ∧
      anchorDistance now c ≤ s.clock.matchWindow := by
  simp only [trainCandidates, List.mem_filter, Bool.and_eq_true, decide_eq_true_eq]
  tauto

theorem trainActive_keepsTable (z : Nat) (t : Capture) (input : Nat) (s : State) :
    KeepsTable s (trainActive z t input s) := by
  unfold trainActive
  split
  · exact generate_keepsTable _ s
  next hnone =>
    split
    next c hc =>
      obtain ⟨hmem, -, hzone, -, -⟩ := mem_trainCandidates.mp (chooseCall_mem hc)
      refine arrive_keepsTable hmem (fun o ho _ hstate => ?_) _ _ _
      rw [hzone]
      exact callAtPlatform_eq_none.mp hnone o ho hstate
    · exact generate_keepsTable _ s

theorem handEdge_keepsTable (f : InputFunction) (active : Bool) (t : Capture) (n : Nat) (s : State) :
    KeepsTable s (handEdge f active t n s) := by
  unfold handEdge
  split
  · exact trainActive_keepsTable _ _ _ s
  · unfold trainInactive
    split
    · exact depart_keepsTable _ _ _ _ s
    · exact generate_keepsTable _ s
  · unfold dispatchActive
    split
    · exact generate_keepsTable _ s
    · split
      · exact fireEventCues_keepsTable _ _ _ s
      · exact generate_keepsTable _ s
  · exact (closureActive_reroutes _ s).keepsTable
  · exact (closureInactive_reroutes _ _ s).keepsTable
  · exact (panelActive_reroutes _ _ s).keepsTable
  · exact id

/-! ### The rollover (R30) -/

/-- The purge takes the CURRENT calls out of the table, whose ids are read before it. -/
theorem purgeAll_calls (s : State) : (purgeAll s).ttu.calls = s.ttu.calls.filter
    (fun c => decide (c.id ∉ (s.ttu.calls.filter (fun c => decide (c.day = .current))).map Call.id)) := by
  have hpurge : ∀ (ids : List Nat) (u : State), (forEach ids (fun id u => removeCall id (withdrawCall id u)) u).ttu.calls =
      u.ttu.calls.filter (fun c => decide (c.id ∉ ids)) := by
    intro ids
    induction ids with
    | nil => intro u; exact (List.filter_eq_self.mpr (by simp)).symm
    | cons id ids ih =>
      intro u
      have hstep : (removeCall id (withdrawCall id u)).ttu.calls = u.ttu.calls.filter (fun c => c.id != id) := by
        unfold removeCall
        rw [withdrawCall_ttu]
        rfl
      refine (ih (removeCall id (withdrawCall id u))).trans ?_
      rw [hstep, List.filter_filter]
      refine List.filter_congr fun c _ => ?_
      rw [Bool.eq_iff_iff]
      simp only [Bool.and_eq_true, decide_eq_true_eq, bne_iff_ne, List.mem_cons, not_or]
      tauto
  exact hpurge _ s

theorem purgeAll_next {s : State} : ∀ c ∈ (purgeAll s).ttu.calls, c.day = .next := by
  intro c hc
  rw [purgeAll_calls, List.mem_filter, decide_eq_true_eq] at hc
  cases hday : c.day with
  | next => rfl
  | current => exact absurd (List.mem_map_of_mem (List.mem_filter.mpr ⟨hc.1, by simp [hday]⟩)) hc.2

theorem promoted_rank (c : Call) : earliest (promoted c) = earliest c ∧ (promoted c).id = c.id ∧
    (promoted c).day = .current ∧ (promoted c).state = c.state ∧ (promoted c).zone = c.zone := by
  obtain ⟨_, _, _, _, _, _, h⟩ := computeTimes_touches { c with day := .current }
  unfold promoted
  rw [h]
  exact ⟨rfl, rfl, rfl, rfl, rfl⟩

/-- A table of NEXT calls stays in order when all of them are promoted. -/
theorem promoteAll_tableOk {s : State} (hnext : ∀ c ∈ s.ttu.calls, c.day = .next) (h : TableOk s.ttu.calls) :
    TableOk (promoteAll s).ttu.calls := by
  refine ⟨List.pairwise_map.mpr (h.order.imp_of_mem fun {a b} ha hb hab => ?_), ?_,
    List.pairwise_map.mpr (h.platform.imp fun {a b} hab => ?_)⟩
  · obtain ⟨hea, hia, hda, -, -⟩ := promoted_rank a
    obtain ⟨heb, hib, hdb, -, -⟩ := promoted_rank b
    rw [comesBefore_iff] at hab ⊢
    rw [hea, heb, hia, hib, hda, hdb]
    rw [hnext a ha, hnext b hb] at hab
    exact .inr ⟨rfl, hab.elim (fun h => absurd h (lt_irrefl _)) And.right⟩
  · change ((s.ttu.calls.map promoted).map Call.id).Nodup
    rw [ids_map fun c _ => (promoted_rank c).2.1]
    exact h.ids
  · obtain ⟨-, -, -, hsa, hza⟩ := promoted_rank a
    obtain ⟨-, -, -, hsb, hzb⟩ := promoted_rank b
    rw [hsa, hsb, hza, hzb]
    exact hab

theorem rolloverTable_keepsTable (s : State) : KeepsTable s (rolloverTable s) := by
  intro hs
  have hlapse : KeepsTable s (lapseAll s) := by
    refine forEach_keepsTable (fun c s => ?_) s
    unfold lapse
    simp only
    exact (ends_keepsTable (by simp [earliest]) s).trans ((withdrawCall_keepsTable c.id _).trans
      ((generate_keepsTable _ _).trans (recomputeConflicts_keepsTable _ _ _)))
  have hpurge : KeepsTable (lapseAll s) (purgeAll (lapseAll s)) := forEach_keepsTable (fun id s =>
    (withdrawCall_keepsTable id s).trans (removeCall_keepsTable id _)) _
  have hconflicts : KeepsTable (promoteAll (purgeAll (lapseAll s))) (rolloverTable s) :=
    forEach_keepsTable (fun z s => recomputeConflicts_keepsTable z none s) _
  exact hconflicts (promoteAll_tableOk purgeAll_next (hpurge (hlapse hs)))

theorem secondTtu_keepsTable (rollover : Bool) (s : State) : KeepsTable s (secondTtu rollover s) := by
  have hrollover : KeepsTable s (if rollover then rolloverTable s else s) := by
    split
    · exact rolloverTable_keepsTable s
    · exact id
  exact ((hrollover.trans (forEach_keepsTable (fun id s =>
    forEach_keepsTable (fun i s => evaluateCue_keepsTable id i s) s) _)).trans (completions_keepsTable _)).trans
    (settle_keepsTable _)

/-! ### The requests -/

theorem loadedCall_rank (k : CallKind) (d : DayTag) (r : CallLoadReq) (partner : Option Nat) :
    (loadedCall k d r partner).id = r.id ∧ (loadedCall k d r partner).state = .planned := by
  unfold loadedCall
  exact ⟨(computeTimes_takesPlace _).id, computeTimes_state _⟩

/-- A loaded call enters a table that holds no call of its id. -/
theorem enterLoaded_tableOk {cs : List Call} {k : CallKind} {d : DayTag} {r : CallLoadReq} {partner : Option Nat}
    (hfree : ∀ x ∈ cs, x.id ≠ r.id) (h : TableOk cs) : TableOk (insertCall (loadedCall k d r partner) cs) := by
  obtain ⟨hid, hstate⟩ := loadedCall_rank k d r partner
  exact tableOk_insertCall h (by rw [hid]; exact hfree) (by rw [hstate]; simp)

theorem addCall_keepsTable {k : CallKind} {d : DayTag} {r : CallLoadReq} {s : State} (hnone : s.call? r.id = none) :
    KeepsTable s (addCall (loadedCall k d r none) s) := by
  have henter : KeepsTable s (enterCall (loadedCall k d r none) s) :=
    enterLoaded_tableOk fun x hx => by simpa using List.find?_eq_none.mp hnone x hx
  exact henter.trans (recomputeIfCurrent_keepsTable _ _)

theorem replaceCall_keepsTable {k : CallKind} {d : DayTag} {r : CallLoadReq} {old : Call} {s : State}
    (hold : s.call? r.id = some old) : KeepsTable s (replaceCall old (loadedCall k d r old.partner) s) := by
  have hid := (call?_mem hold).2
  have hremoved : KeepsTable s (removeCall old.id (withdrawCall old.id s)) :=
    (withdrawCall_keepsTable _ s).trans (removeCall_keepsTable _ _)
  have henter : KeepsTable (removeCall old.id (withdrawCall old.id s))
      (enterCall (loadedCall k d r old.partner) (removeCall old.id (withdrawCall old.id s))) :=
    enterLoaded_tableOk fun x hx => by
      obtain ⟨-, hne⟩ := List.mem_filter.mp hx
      rw [← hid]
      simpa using hne
  unfold replaceCall
  simp only
  refine KeepsTable.trans ((hremoved.trans henter).trans ?_) (settle_keepsTable _)
  split
  · exact recomputeConflicts_keepsTable _ _ _
  · exact (recomputeConflicts_keepsTable _ _ _).trans (recomputeConflicts_keepsTable _ _ _)

theorem deleteFound_keepsTable (c : Call) (s : State) : KeepsTable s (deleteFound c s) := by
  unfold deleteFound
  simp only
  refine KeepsTable.trans (KeepsTable.trans ?_ (removeCall_keepsTable _ _)) (settle_keepsTable _)
  split
  · exact (withdrawCall_keepsTable _ s).trans (recomputeConflicts_keepsTable _ _ _)
  · exact withdrawCall_keepsTable _ s

theorem withDelays_takesPlace (a d : Option Int) (c : Call) : TakesPlace c (withDelays a d c) := by
  unfold withDelays
  cases a with
  | none => cases d with
    | none => exact .rfl c
    | some y => exact ⟨⟨rfl, rfl, rfl⟩, fun h => ⟨h, rfl⟩⟩
  | some x => cases d with
    | none => exact ⟨⟨rfl, rfl, rfl⟩, fun h => ⟨h, rfl⟩⟩
    | some y => exact ⟨⟨rfl, rfl, rfl⟩, fun h => ⟨h, rfl⟩⟩

theorem delayFound_keepsTable (c : Call) (r : CallDelayReq) (s : State) : KeepsTable s (delayFound c r s) :=
  KeepsTable.trans (modifyCall_keepsTable fun _ x _ _ =>
    (withDelays_takesPlace r.arrival r.departure x).trans (computeTimes_takesPlace _))
    (recomputeIfCurrent_keepsTable c _)

theorem changePlatform_keepsTable {id : Nat} {c : Call} {s : State} (hc : s.call? id = some c)
    (hstate : c.state = .planned) (z : Nat) : KeepsTable s (changePlatform c z s) := by
  have hmove : KeepsTable (withdrawCall c.id s) ((withdrawCall c.id s).modifyCall c.id (movedTo z)) :=
    modifyCall_keepsTable fun hs x hx hid => by
      rw [withdrawCall_ttu] at hs hx
      obtain rfl := hs.eq_of_id hx (call?_mem hc).1 hid
      exact ⟨⟨rfl, rfl, rfl⟩, fun h => absurd (hstate.symm.trans h) (by simp)⟩
  unfold changePlatform
  simp only
  refine KeepsTable.trans ?_ (settle_keepsTable _)
  split
  · exact ((withdrawCall_keepsTable _ s).trans hmove).trans ((recomputeConflicts_keepsTable _ _ _).trans
      ((recomputeConflicts_keepsTable _ _ _).trans (fireEventCues_keepsTable _ _ _ _)))
  · exact (withdrawCall_keepsTable _ s).trans hmove

theorem cancelFound_keepsTable (c : Call) (s : State) : KeepsTable s (cancelFound c s) := by
  unfold cancelFound
  simp only
  refine KeepsTable.trans ?_ (settle_keepsTable _)
  have hcancel := (withdrawCall_keepsTable c.id s).trans ((ends_keepsTable (id := c.id)
    (f := fun c => { c with state := .cancelled }) (by simp [earliest]) _).trans
      ((generate_keepsTable (.callState c.id c.state .cancelled .cancelled none) _).trans
        (recomputeConflicts_keepsTable c.zone none _)))
  split
  · exact hcancel.trans (fireEventCues_keepsTable _ _ _ _)
  · exact hcancel

theorem Effect.keepsTable {s t : State} (h : Effect s t) : KeepsTable s t := by
  cases h with
  | nothing | mask | clock | clockEvent | plan | clearInputs | directory | template | composer | gap =>
    exact fun h => h
  | addCall d hr hnone hroom => exact addCall_keepsTable hnone
  | replaceCall d hr hold hstate => exact replaceCall_keepsTable hold
  | deleteCall => exact deleteFound_keepsTable _ s
  | delayCall => exact delayFound_keepsTable _ _ s
  | platformCall z hc hstate => exact changePlatform_keepsTable hc hstate z
  | cancelCall => exact cancelFound_keepsTable _ s
  | arrive t hc hother =>
    refine arrive_keepsTable (call?_mem hc).1 (fun o ho hne hstate hzone => ?_) _ _ _
    have := List.any_eq_false.mp hother o ho
    simp [hne, hstate, hzone] at this
  | depart => exact depart_keepsTable _ _ _ _ s
  | configureInput n f before t =>
    refine keepsTable_of_ttu ?_
    unfold reportStatus
    split <;> rfl
  | announce => exact (createWhole_settles _ s).keepsTable
  | withdraw a => exact ((withdrawAnnouncement_settles a s).trans (settle_settles _)).keepsTable
  | zone k m =>
    exact ((recomputeZone_reroutes true _ (s.modifyZone _ (configured _ k m))).keepsTable).trans (settle_keepsTable _)
  | groups r =>
    refine KeepsTable.trans (keepsTable_of_ttu ?_) (settle_keepsTable _)
    unfold regrouped
    simp only
    rw [(forEach_reroutes (fun g s => forEach_reroutes (recomputeZone_reroutes true) s) _).ttu,
      (forEach_reroutes (fun g s => forEach_reroutes invalidateZone_reroutes s) _).ttu]
    rfl
  | base => exact (changeBase_reroutes _ _ _ s).keepsTable.trans (settle_keepsTable _)
  | activate => exact (activate_reroutes _ _ _ s).keepsTable
  | clear => exact (clearSource_reroutes _ s).keepsTable
  | mode m w =>
    exact (actOnMode_settles m (s.withSmc { s.smc with warmUp := clampWarmUp w })).keepsTable.trans
      (settle_keepsTable _)

theorem keepsTable_keeper : Keeper KeepsTable where
  rfl _ := fun h => h
  trans h g := h.trans g
  pending _ _ := fun h => h
  resetLine _ _ := fun h => h
  pins _ _ := fun h => h
  clock _ _ := fun h => h
  fiu _ _ _ := fun h => h
  lnk _ _ := fun h => h
  composer _ := fun h => h
  tick _ _ _ := fun h => h
  window _ _ _ := fun h => h
  coldReset _ := fun _ => ⟨.nil, List.nodup_nil, .nil⟩
  warmReset cause s := keepsTable_of_ttu (warmReset_reroutes cause s).ttu
  settle := settle_keepsTable
  phraseEnd c s := (takePhraseEnd_settles c s).keepsTable
  gapEnd c s := (takeGapEnd_settles c s).keepsTable
  pulseEnd z s := (takePulseEnd_settles z s).keepsTable
  endRests s := (endRests_settles s).keepsTable
  warmUpEnd s := (takeWarmUpEnd_settles s).keepsTable
  holdExpiry s := (takeHoldExpiry_settles s).keepsTable
  create _ _ _ s := (createWhole_settles _ s).keepsTable
  wake n s := (wakeRequest_settles n s).keepsTable
  edge := handEdge_keepsTable
  secondTtu := secondTtu_keepsTable
  secondZrt rollover limit s := (secondZrt_settles rollover limit s).keepsTable
  secondSmc night opn s := (secondSmc_settles night opn s).keepsTable
  effect h := h.keepsTable

/-- Settles O23. -/
theorem everyStepKeepsTheTableInOrder : Obligations.EveryStepKeepsTheTableInOrder := by
  unfold Obligations.EveryStepKeepsTheTableInOrder
  exact fun s t hs h => keepsTable_keeper.step h hs

end Sys2Proof.Machine


/-! PROOFS. Coverage: which source a recomputation finds depends on the zone's place and base, the groups and the entries;
what each operation does to a zone's covering source; and that every step keeps every zone under the source of R115. -/

namespace Sys2Proof.Machine

open Sys2Proof.Claims

/-! ### Records read through a view -/

theorem getD_of_map_eq {α β : Type} {f : α → β} {xs ys : List α} (h : xs.map f = ys.map f) (d : α) (i : Nat) :
    f (xs.getD i d) = f (ys.getD i d) := by
  have hi : (xs[i]?).map f = (ys[i]?).map f := by rw [← List.getElem?_map, ← List.getElem?_map, h]
  rw [List.getD_eq_getElem?_getD, List.getD_eq_getElem?_getD]
  cases hx : xs[i]? with
  | none =>
    rw [hx] at hi
    rw [Option.map_eq_none_iff.mp hi.symm]
  | some x =>
    rw [hx] at hi
    obtain ⟨y, hy, hyx⟩ := Option.map_eq_some_iff.mp hi.symm
    rw [hy]
    exact hyx.symm

theorem Plays.zone_settings {s t : State} (h : Plays s t) (z : Nat) : settings (t.zone z) = settings (s.zone z) :=
  getD_of_map_eq h.zones coldZone z

theorem Plays.covering {s t : State} (h : Plays s t) (z : Nat) : (t.zone z).covering = (s.zone z).covering :=
  (congrArg Zone.covering (h.zone_settings z) :)

theorem Plays.base {s t : State} (h : Plays s t) (z : Nat) : (t.zone z).base = (s.zone z).base :=
  (congrArg Zone.base (h.zone_settings z) :)

theorem Plays.source_standing {s t : State} (h : Plays s t) (n : Nat) : standing (t.source n) = standing (s.source n) :=
  getD_of_map_eq h.sources coldSource n

theorem Routes.zone_configuration {s t : State} (h : Routes s t) (z : Nat) :
    configuration (t.zone z) = configuration (s.zone z) := getD_of_map_eq h.zones coldZone z

/-! ### The source that covers a zone (R115) -/

/-- What a source's coverage of zone `z` depends on is the same in `t` as in `s`. -/
structure SameSite (s t : State) (z : Nat) : Prop where
  enabled : (t.zone z).enabled = (s.zone z).enabled
  address : (t.zone z).address = (s.zone z).address
  base : (t.zone z).base = (s.zone z).base
  groups : t.zrt.groups = s.zrt.groups
  sources : ∀ n, (t.source n).state = (s.source n).state ∧ (t.source n).key = (s.source n).key

theorem reachableZone_congr {s t : State} {z : Nat} (henabled : (t.zone z).enabled = (s.zone z).enabled)
    (haddress : (t.zone z).address = (s.zone z).address) (hgroups : t.zrt.groups = s.zrt.groups) :
    reachableZone t z = reachableZone s z := by
  unfold reachableZone
  rw [henabled, haddress, hgroups]

theorem covers_congr {s t : State} {z n : Nat} (hreach : reachableZone t z = reachableZone s z)
    (haddress : (t.zone z).address = (s.zone z).address)
    (hbase : (t.zone z).base ≠ .isolated ↔ (s.zone z).base ≠ .isolated)
    (hstate : (t.source n).state = (s.source n).state) (hkey : (t.source n).key = (s.source n).key) :
    covers t n z = covers s n z := by
  unfold covers inTarget
  rw [hreach, haddress, hstate, hkey, decide_eq_decide.mpr hbase]

theorem SameSite.coveringOf {s t : State} {z : Nat} (h : SameSite s t z) :
    Machine.coveringOf t z = Machine.coveringOf s z := by
  unfold Machine.coveringOf
  congr 1
  funext n
  exact covers_congr (reachableZone_congr h.enabled h.address h.groups) h.address (by rw [h.base])
    (h.sources n).1 (h.sources n).2

theorem Plays.sameSite {s t : State} (h : Plays s t) (z : Nat) : SameSite s t z where
  enabled := (congrArg Zone.enabled (h.zone_settings z) :)
  address := (congrArg Zone.address (h.zone_settings z) :)
  base := h.base z
  groups := h.groups
  sources := fun n => ⟨(congrArg Source.state (h.source_standing n) :), (congrArg Source.key (h.source_standing n) :)⟩

/-- A source that covers no zone out of its reach. -/
theorem coveringOf_of_unreachable {s : State} {z : Nat} (h : reachableZone s z = false) : coveringOf s z = none :=
  List.find?_eq_none.mpr fun n _ => by simp [covers, inTarget, h]

theorem coveringOf_of_isolated {s : State} {z : Nat} (h : (s.zone z).base = .isolated) : coveringOf s z = none :=
  List.find?_eq_none.mpr fun n _ => by simp [covers, h]

theorem coveringOf_eq_some {s : State} {z n : Nat} (h : coveringOf s z = some n) :
    covers s n z = true ∧ n < Config.maxSources ∧ ∀ m < n, covers s m z = false := by
  obtain ⟨hcovers, before, after, hsplit, hbefore⟩ := List.find?_eq_some_iff_append.mp h
  have hmem : n ∈ allSources := by rw [hsplit]; simp
  refine ⟨hcovers, List.mem_range.mp hmem, fun m hm => ?_⟩
  have hsorted : (before ++ n :: after).Pairwise (· < ·) := by
    rw [← hsplit]
    exact List.pairwise_lt_range
  have hm' : m ∈ before := by
    have : m ∈ before ++ n :: after := by
      rw [← hsplit]
      exact List.mem_range.mpr (hm.trans (List.mem_range.mp hmem))
    obtain hmem | hmem := List.mem_append.mp this
    · exact hmem
    · obtain rfl | hmem := List.mem_cons.mp hmem
      · omega
      · have := (List.pairwise_cons.mp (List.pairwise_append.mp hsorted).2.1).1 m hmem
        omega
  simpa using hbefore m hm'

/-! ### A recomputation (R115 to R118) -/

/-- Zone `z` is covered by the source that a recomputation finds. -/
def Covered (s : State) (z : Nat) : Prop := (s.zone z).covering = coveringOf s z

theorem Plays.covered {s t : State} (h : Plays s t) {z : Nat} (hz : Covered s z) : Covered t z := by
  unfold Covered
  rw [h.covering, (h.sameSite z).coveringOf]
  exact hz

theorem Plays.recovers_of {s t : State} (h : Plays s t) {z : Nat} {n : Option Nat} (hn : (s.zone z).covering = n) :
    Recovers s t z n where
  rest := h.routes
  bases := by simpa [Function.comp_def, settings] using congrArg (List.map Zone.base) h.zones
  sources := h.sources
  covering := (h.covering z).trans hn
  others := fun y _ => h.covering y

end Sys2Proof.Machine

namespace Sys2Proof.Claims

open Sys2Proof.Machine

theorem Recovers.sameSite {s t : State} {z : Nat} {n : Option Nat} (h : Recovers s t z n) (y : Nat) : SameSite s t y where
  enabled := (congrArg Zone.enabled (h.rest.zone_configuration y) :)
  address := (congrArg Zone.address (h.rest.zone_configuration y) :)
  base := getD_of_map_eq h.bases coldZone y
  groups := h.rest.groups
  sources := fun n =>
    ⟨(congrArg Source.state (getD_of_map_eq h.sources coldSource n) :), (congrArg Source.key (getD_of_map_eq h.sources coldSource n) :)⟩

theorem Recovers.covered {s t : State} {z : Nat} (h : Recovers s t z (coveringOf s z)) : Covered t z :=
  h.covering.trans (h.sameSite z).coveringOf.symm

/-- A zone that was right stays right when another is recomputed. -/
theorem Recovers.keeps_covered {s t : State} {z : Nat} (h : Recovers s t z (coveringOf s z)) {y : Nat}
    (hy : Covered s y) : Covered t y := by
  by_cases hyz : y = z
  · subst hyz; exact h.covered
  · unfold Covered
    rw [h.others y hyz, (h.sameSite y).coveringOf]
    exact hy

theorem Recovers.plays {s t u : State} {z : Nat} {n : Option Nat} (h : Recovers s t z n) (g : Plays t u) :
    Recovers s u z n where
  rest := h.rest.trans g.routes
  bases := (g.recovers_of (z := z) rfl).bases.trans h.bases
  sources := g.sources.trans h.sources
  covering := (g.covering z).trans h.covering
  others := fun y hy => (g.covering y).trans (h.others y hy)

end Sys2Proof.Claims

namespace Sys2Proof.Machine

open Sys2Proof.Claims

theorem zone_modifyZone_of_lt {s : State} {z : Nat} (h : z < s.zrt.zones.length) (f : Zone → Zone) :
    (s.modifyZone z f).zone z = f (s.zone z) := by
  simp [State.zone, State.modifyZone, List.getD_eq_getElem?_getD, h]

theorem zone_modifyZone_of_ne {s : State} {z y : Nat} (h : y ≠ z) (f : Zone → Zone) :
    (s.modifyZone z f).zone y = s.zone y := by
  simp [State.zone, State.modifyZone, List.getD_eq_getElem?_getD, Ne.symm h]

theorem setCovering_recovers {s : State} {z : Nat} (h : z < s.zrt.zones.length) (n : Option Nat) :
    Recovers s (setCovering z n s) z n where
  rest := (setCovering_reroutes z n s).toRoutes
  bases := map_modify (f := fun zn : Zone => { zn with covering := n }) (fun _ => rfl) _ _
  sources := rfl
  covering := by unfold setCovering; rw [zone_modifyZone_of_lt h]
  others := fun y hy => by unfold setCovering; rw [zone_modifyZone_of_ne hy]

theorem mapQueue_plays {g : Placement → Placement} (z : Nat) (s : State) :
    Plays s (s.modifyZone z (fun zn => { zn with queue := zn.queue.map g })) :=
  { Plays.rfl s with zones := map_modify (f := fun zn : Zone => { zn with queue := zn.queue.map g }) (fun _ => rfl) _ _ }

theorem enterEvacuate_recovers {s : State} {z : Nat} (h : z < s.zrt.zones.length) (n : Nat) (before : Zone)
    (cause : ZoneCause) (place : Bool) : Recovers s (enterEvacuate z n before cause place s) z (some n) := by
  unfold enterEvacuate
  simp only
  have hheld := ((setCovering_recovers h (some n)).plays
    (generate_settles (zoneChange (setCovering z (some n) s) z before cause) _).toPlays).plays
    ((cutForEvacuation_settles z _).toPlays.trans (mapQueue_plays (g := holdPlacement) z _))
  split
  · exact hheld.plays (placeCoverage_settles _ _ _).toPlays
  · exact hheld

theorem handOver_recovers {s : State} {z : Nat} (h : z < s.zrt.zones.length) (a b : Nat) (place : Bool) :
    Recovers s (handOver z a b place s) z (some b) := by
  unfold handOver
  simp only
  have hshare := ((setCovering_recovers h (some b)).plays
    (generate_settles (zoneChange (setCovering z (some b) s) z (s.zone z) .evacuation) _).toPlays).plays
    (withdrawShare_settles a z _).toPlays
  split
  · exact hshare.plays (placeCoverage_settles _ _ _).toPlays
  · exact hshare

theorem leaveEvacuate_recovers {s : State} {z : Nat} (h : z < s.zrt.zones.length) (a : Nat) :
    Recovers s (leaveEvacuate z a s) z none := by
  unfold leaveEvacuate
  simp only
  have hreleased := ((setCovering_recovers h none).plays
    (generate_settles (zoneChange (setCovering z none s) z (s.zone z) .evacuation) _).toPlays).plays
    ((withdrawShare_settles a z _).toPlays.trans (mapQueue_plays (g := releasePlacement) z _))
  split
  · exact hreleased.plays (dropWhere_settles _ _ _ _).toPlays
  · exact hreleased

/-- A recomputation leaves the zone under the source it finds, and changes no other's coverage (R115). -/
theorem recomputeZone_recovers {s : State} {z : Nat} (h : z < s.zrt.zones.length) (place : Bool) :
    Recovers s (recomputeZone place z s) z (coveringOf s z) := by
  unfold recomputeZone
  split
  next hnone hfound => rw [hfound]; exact (Plays.rfl s).recovers_of hnone
  next b hnone hfound => rw [hfound]; exact enterEvacuate_recovers h b _ _ place
  next a b hcovering hfound =>
    rw [hfound]
    split
    next hab => subst hab; exact (Plays.rfl s).recovers_of hcovering
    · exact handOver_recovers h a b place
  next a hcovering hfound => rw [hfound]; exact leaveEvacuate_recovers h a

/-! ### Passes over zones -/

/-- Everything the coverage of the zones depends on is the same in `t` as in `s`. -/
structure SameSites (s t : State) : Prop where
  length : t.zrt.zones.length = s.zrt.zones.length
  sources : t.zrt.sources.length = s.zrt.sources.length
  site : ∀ z, SameSite s t z

theorem SameSites.rfl (s : State) : SameSites s s := ⟨Eq.refl _, Eq.refl _, (Plays.rfl s).sameSite⟩

theorem SameSites.trans {s t u : State} (h : SameSites s t) (g : SameSites t u) : SameSites s u where
  length := g.length.trans h.length
  sources := g.sources.trans h.sources
  site := fun z =>
    { enabled := (g.site z).enabled.trans (h.site z).enabled
      address := (g.site z).address.trans (h.site z).address
      base := (g.site z).base.trans (h.site z).base
      groups := (g.site z).groups.trans (h.site z).groups
      sources := fun n =>
        ⟨((g.site z).sources n).1.trans ((h.site z).sources n).1, ((g.site z).sources n).2.trans ((h.site z).sources n).2⟩ }

theorem Plays.sameSites {s t : State} (h : Plays s t) : SameSites s t where
  length := by simpa using congrArg List.length h.zones
  sources := by simpa using congrArg List.length h.sources
  site := h.sameSite

end Sys2Proof.Machine

namespace Sys2Proof.Claims

open Sys2Proof.Machine

theorem Recovers.sameSites {s t : State} {z : Nat} {n : Option Nat} (h : Recovers s t z n) : SameSites s t where
  length := by simpa using congrArg List.length h.rest.zones
  sources := h.rest.sources
  site := h.sameSite

end Sys2Proof.Claims

namespace Sys2Proof.Machine

open Sys2Proof.Claims

/-- A pass that makes each zone it takes right leaves right every zone that was so. -/
theorem forEach_covered {zs : List Nat} {f : Nat → State → State} {s : State}
    (h : ∀ z ∈ zs, ∀ u, SameSites s u → Recovers u (f z u) z (coveringOf u z)) :
    SameSites s (forEach zs f s) ∧ ∀ y, Covered s y ∨ y ∈ zs → Covered (forEach zs f s) y := by
  unfold forEach
  induction zs generalizing s with
  | nil => exact ⟨.rfl s, fun y hy => hy.resolve_right (by simp)⟩
  | cons z zs ih =>
    rw [List.forall_mem_cons] at h
    have hrec := h.1 s (.rfl s)
    obtain ⟨hsites, hcovered⟩ := ih (s := f z s) fun y hy u hu => h.2 y hy u (hrec.sameSites.trans hu)
    refine ⟨hrec.sameSites.trans hsites, fun y hy => hcovered y ?_⟩
    obtain hy | hy := hy
    · exact .inl (hrec.keeps_covered hy)
    · obtain rfl | hy := List.mem_cons.mp hy
      · exact .inl hrec.covered
      · exact .inr hy

theorem zonesOfGroup_congr {s t : State} (h : SameSites s t) (g : Nat) : zonesOfGroup t g = zonesOfGroup s g := by
  unfold zonesOfGroup
  exact List.filter_congr fun z _ => by rw [(h.site z).address]

theorem mem_zonesOfGroup {s : State} {g z : Nat} :
    z ∈ zonesOfGroup s g ↔ z < Config.maxZones ∧ groupOf (s.zone z).address = g := by
  simp [zonesOfGroup, allZones]

/-- The same for a pass over the zones of groups. -/
theorem forEach_groups_covered {gs : List Nat} {f : Nat → State → State} {s : State}
    (h : ∀ g ∈ gs, ∀ z ∈ zonesOfGroup s g, ∀ u, SameSites s u → Recovers u (f z u) z (coveringOf u z)) :
    SameSites s (forEach gs (fun g u => forEach (zonesOfGroup u g) f u) s) ∧
      ∀ y < Config.maxZones, Covered s y ∨ groupOf (s.zone y).address ∈ gs →
        Covered (forEach gs (fun g u => forEach (zonesOfGroup u g) f u) s) y := by
  conv => enter [1]; unfold forEach
  conv => enter [2]; unfold forEach
  induction gs generalizing s with
  | nil => exact ⟨.rfl s, fun y _ hy => hy.resolve_right (by simp)⟩
  | cons g gs ih =>
    rw [List.forall_mem_cons] at h
    obtain ⟨hsites, hcovered⟩ := forEach_covered h.1
    obtain ⟨hsites', hcovered'⟩ := ih (s := forEach (zonesOfGroup s g) f s) fun g' hg' z hz u hu =>
      h.2 g' hg' z (by rwa [← zonesOfGroup_congr hsites]) u (hsites.trans hu)
    refine ⟨hsites.trans hsites', fun y hlt hy => hcovered' y hlt ?_⟩
    obtain hy | hy := hy
    · exact .inl (hcovered y (.inl hy))
    · obtain hg | hg := List.mem_cons.mp hy
      · exact .inl (hcovered y (.inr (mem_zonesOfGroup.mpr ⟨hlt, hg⟩)))
      · exact .inr (by rwa [(hsites.site y).address])

end Sys2Proof.Machine


/-! PROOFS. Every step keeps every zone covered by the lowest-numbered source that covers it (R115): the operations that
change a zone's place or base, the groups or the entries recompute the zones they concern. -/

namespace Sys2Proof.Machine

open Sys2Proof.Claims

def KeepsCoverage (s t : State) : Prop := CoverageOk s → CoverageOk t

theorem KeepsCoverage.trans {s t u : State} (h : KeepsCoverage s t) (g : KeepsCoverage t u) : KeepsCoverage s u := g ∘ h

theorem Plays.keepsCoverage {s t : State} (h : Plays s t) : KeepsCoverage s t := fun hs =>
  { zones := by simpa using (congrArg List.length h.zones).trans (by simpa using hs.zones)
    sources := by simpa using (congrArg List.length h.sources).trans (by simpa using hs.sources)
    covering := fun z hz => h.covered (hs.covering z hz) }

theorem Settles.keepsCoverage {s t : State} (h : Settles s t) : KeepsCoverage s t := h.toPlays.keepsCoverage

theorem Retimes.keepsCoverage {s t : State} (h : Retimes s t) : KeepsCoverage s t := fun hs =>
  { h.rest.keepsCoverage hs with }

theorem settle_keepsCoverage (s : State) : KeepsCoverage s (settle s) := (settle_settles s).keepsCoverage

/-- A zone whose record a change does not touch stays right. -/
theorem modifyZone_covered {s : State} {y z : Nat} (hyz : y ≠ z) (f : Zone → Zone) (hy : Covered s y) :
    Covered (s.modifyZone z f) y := by
  have hzone := zone_modifyZone_of_ne (s := s) hyz f
  have hsite : SameSite s (s.modifyZone z f) y :=
    ⟨by rw [hzone], by rw [hzone], by rw [hzone], rfl, fun _ => ⟨rfl, rfl⟩⟩
  unfold Covered
  rw [hzone, hsite.coveringOf]
  exact hy

/-- Where every zone but one is right, its recomputation makes the whole coverage right. -/
theorem recovered_coverageOk {s t : State} {z : Nat} {n : Option Nat} (h : Recovers s t z n)
    (hn : coveringOf s z = n)
    (hzones : s.zrt.zones.length = Config.maxZones) (hsources : s.zrt.sources.length = Config.maxSources)
    (hothers : ∀ y < Config.maxZones, y ≠ z → Covered s y) : CoverageOk t where
  zones := h.sameSites.length.trans hzones
  sources := h.sameSites.sources.trans hsources
  covering := fun y hy => by
    subst hn
    by_cases hyz : y = z
    · subst hyz; exact h.covered
    · exact h.keeps_covered (hothers y hy hyz)

theorem recomputeModified_coverageOk {s : State} {z : Nat} (hz : z < Config.maxZones) (f : Zone → Zone)
    (hs : CoverageOk s) : CoverageOk (recomputeZone true z (s.modifyZone z f)) := by
  have hlen : (s.modifyZone z f).zrt.zones.length = Config.maxZones := by
    simpa [State.modifyZone] using hs.zones
  exact recovered_coverageOk (recomputeZone_recovers (by rw [hlen]; exact hz) true) rfl hlen hs.sources
    fun y hy hyz => modifyZone_covered hyz f (hs.covering y hy)

/-! ### Groups (R94, R95) -/

theorem recomputeZone_none {s : State} {z : Nat} (h : Covered s z) (place : Bool) : recomputeZone place z s = s := by
  unfold Covered at h
  unfold recomputeZone
  rw [h]
  cases coveringOf s z with
  | none => rfl
  | some a => exact if_pos rfl

/-- A zone of an invalidated group is left by every source. -/
theorem invalidateZone_recovers {s : State} {z : Nat} (h : z < s.zrt.zones.length) :
    Recovers s (invalidateZone z s) z none := by
  have hempty := (dropWhere_settles z .groupInvalid (fun _ => true) s).trans (cutZone_settles z .groupInvalid _)
  have hlen : (cutZone z .groupInvalid (dropWhere z .groupInvalid (fun _ => true) s)).zrt.zones.length =
      s.zrt.zones.length := by simpa using congrArg List.length hempty.zones
  unfold invalidateZone
  simp only
  split
  · have hset := (setCovering_recovers (hlen ▸ h) none).plays (generate_settles
      (zoneChange (setCovering z none (cutZone z .groupInvalid (dropWhere z .groupInvalid (fun _ => true) s))) z
        ((cutZone z .groupInvalid (dropWhere z .groupInvalid (fun _ => true) s)).zone z) .group) _).toPlays
    exact
      { rest := hempty.toPlays.routes.trans hset.rest
        bases := hset.bases.trans (hempty.toPlays.recovers_of (z := z) rfl).bases
        sources := hset.sources.trans hempty.sources
        covering := hset.covering
        others := fun y hy => (hset.others y hy).trans (hempty.covering y) }
  next hnone => exact hempty.toPlays.recovers_of (by
      rw [← hempty.covering]
      simpa using hnone)

theorem groupOf_lt (address : Address) : groupOf address < Config.maxGroups := by
  have := address.isLt
  unfold groupOf
  change _ < 16
  omega

/-- A zone whose group keeps its validity is covered as before. -/
theorem withGroups_covered {s : State} {y : Nat} {g : BitVec 16}
    (h : g.getLsbD (groupOf (s.zone y).address) = s.zrt.groups.getLsbD (groupOf (s.zone y).address))
    (hy : Covered s y) : Covered (s.withZrt { s.zrt with groups := g }) y := by
  have hreach : reachableZone (s.withZrt { s.zrt with groups := g }) y = reachableZone s y :=
    congrArg ((s.zone y).enabled && ·) h
  unfold Covered coveringOf
  rw [show (fun n => covers (s.withZrt { s.zrt with groups := g }) n y) = fun n => covers s n y from
    funext fun n => covers_congr hreach rfl Iff.rfl rfl rfl]
  exact hy

theorem regrouped_keepsCoverage (r : GroupSetReq) (s : State) : KeepsCoverage s (regrouped r s) := by
  intro hs
  unfold regrouped
  simp only
  generalize hnew : groupsAfter s.zrt.groups r = new
  set s1 := s.withZrt { s.zrt with groups := new } with hs1
  have hzones : s1.zrt.zones.length = Config.maxZones := hs.zones
  obtain ⟨hsites1, hcovered1⟩ := forEach_groups_covered (s := s1) (f := invalidateZone)
    (gs := allGroups.filter (fun g => s.zrt.groups.getLsbD g && !new.getLsbD g)) fun g hg z hz u hu => by
      obtain ⟨hlt, hgroup⟩ := mem_zonesOfGroup.mp hz
      have hinvalid : new.getLsbD g = false := by
        have hbits := (List.mem_filter.mp hg).2
        simp only [Bool.and_eq_true, Bool.not_eq_true'] at hbits
        exact hbits.2
      have hunreachable : reachableZone u z = false := by
        rw [reachableZone_congr (hu.site z).enabled (hu.site z).address (hu.site z).groups]
        unfold reachableZone
        rw [hgroup, show s1.zrt.groups.getLsbD g = false from hinvalid, Bool.and_false]
      rw [coveringOf_of_unreachable hunreachable]
      exact invalidateZone_recovers (by rw [hu.length, hzones]; exact hlt)
  set s2 := forEach (allGroups.filter (fun g => s.zrt.groups.getLsbD g && !new.getLsbD g))
    (fun g u => forEach (zonesOfGroup u g) invalidateZone u) s1
  obtain ⟨hsites2, hcovered2⟩ := forEach_groups_covered (s := s2) (f := recomputeZone true)
    (gs := allGroups.filter (fun g => !s.zrt.groups.getLsbD g && new.getLsbD g)) fun g hg z hz u hu =>
      recomputeZone_recovers (by
        rw [hu.length, hsites1.length, hzones]
        exact (mem_zonesOfGroup.mp hz).1) true
  refine ⟨(hsites1.trans hsites2).length.trans hzones, (hsites1.trans hsites2).sources.trans hs.sources, fun y hy => ?_⟩
  refine hcovered2 y hy ?_
  have hmem : groupOf (s.zone y).address ∈ allGroups := List.mem_range.mpr (groupOf_lt _)
  have haddress : (s2.zone y).address = (s.zone y).address := (hsites1.site y).address
  cases hold : s.zrt.groups.getLsbD (groupOf (s.zone y).address) with
  | true =>
    left
    refine hcovered1 y hy ?_
    cases hbit : new.getLsbD (groupOf (s.zone y).address) with
    | true => exact .inl (withGroups_covered (by rw [hbit, hold]) (hs.covering y hy))
    | false => exact .inr (List.mem_filter.mpr ⟨hmem, by simp only [hs1]; simpa using ⟨hold, hbit⟩⟩)
  | false =>
    cases hbit : new.getLsbD (groupOf (s.zone y).address) with
    | true =>
      right
      rw [haddress]
      exact List.mem_filter.mpr ⟨hmem, by simp [hold, hbit]⟩
    | false => exact .inl (hcovered1 y hy (.inl (withGroups_covered (by rw [hbit, hold]) (hs.covering y hy))))

/-! ### Base states (R107, R123) -/

theorem covers_base {s : State} {n z : Nat} (h : covers s n z = true) : (s.zone z).base ≠ .isolated := by
  simp only [covers, Bool.and_eq_true, decide_eq_true_eq] at h
  exact h.2

/-- A covered zone is not ISOLATED. -/
theorem Covered.base {s : State} {z : Nat} (h : Covered s z) (hcovered : (s.zone z).covering.isSome = true) :
    (s.zone z).base ≠ .isolated := by
  obtain ⟨n, hn⟩ := Option.isSome_iff_exists.mp hcovered
  exact covers_base (coveringOf_eq_some (h.symm.trans hn)).1

theorem baseEffects_plays (z : Nat) (b : Base) (s : State) : Plays s (baseEffects z b s) :=
  (baseEffects_settles z b s).toPlays

theorem changeBase_coverageOk {z : Nat} (hz : z < Config.maxZones) (b : Base) (cause : ZoneCause) {s : State}
    (hs : CoverageOk s) : CoverageOk (changeBase z b cause s) := by
  have hlen : (writeBase z b s).zrt.zones.length = Config.maxZones := by
    simpa [writeBase, State.modifyZone] using hs.zones
  have hzone : (writeBase z b s).zone z = { s.zone z with base := b } :=
    zone_modifyZone_of_lt (by rw [hs.zones]; exact hz) _
  have hothers : ∀ y < Config.maxZones, y ≠ z → Covered (writeBase z b s) y := fun y hy hyz =>
    modifyZone_covered hyz _ (hs.covering y hy)
  have hsources : (writeBase z b s).zrt.sources.length = Config.maxSources := hs.sources
  have hlt : z < (writeBase z b s).zrt.zones.length := by rw [hlen]; exact hz
  by_cases hb : b = .isolated
  · subst hb
    have hnone : coveringOf (writeBase z .isolated s) z = none := coveringOf_of_isolated (by rw [hzone])
    have hrec := ((setCovering_recovers hlt none).plays (baseEffects_plays z .isolated _)).plays
      (generate_settles (zoneChange (baseEffects z .isolated (setCovering z none (writeBase z .isolated s))) z (s.zone z)
        cause) _).toPlays
    exact recovered_coverageOk hrec hnone hlen hsources hothers
  · have hunfold : changeBase z b cause s =
        if (s.zone z).covering.isSome then generate (zoneChange (writeBase z b s) z (s.zone z) cause) (writeBase z b s)
        else
          match coveringOf (writeBase z b s) z with
          | some n => enterEvacuate z n (s.zone z) cause true (writeBase z b s)
          | none => generate (zoneChange (baseEffects z b (writeBase z b s)) z (s.zone z) cause)
              (baseEffects z b (writeBase z b s)) := by
      cases b with
      | isolated => exact absurd rfl hb
      | opn => rfl
      | closed => rfl
    rw [hunfold]
    split
    next hsome =>
      have hold := Covered.base (hs.covering z hz) hsome
      have hself : Covered (writeBase z b s) z := by
        unfold Covered coveringOf
        rw [show (fun n => covers (writeBase z b s) n z) = fun n => covers s n z from funext fun n =>
          covers_congr (reachableZone_congr (by rw [hzone]) (by rw [hzone]) rfl) (by rw [hzone])
            (by rw [hzone]; exact iff_of_true hb hold) rfl rfl, hzone]
        exact hs.covering z hz
      refine (generate_settles _ _).keepsCoverage ⟨hlen, hsources, fun y hy => ?_⟩
      by_cases hyz : y = z
      · subst hyz; exact hself
      · exact hothers y hy hyz
    next hnone =>
      split
      next n hfound =>
        exact recovered_coverageOk (enterEvacuate_recovers hlt n (s.zone z) cause true) hfound hlen hsources hothers
      next hfound =>
        have hrec := ((baseEffects_plays z b (writeBase z b s)).trans (generate_settles
          (zoneChange (baseEffects z b (writeBase z b s)) z (s.zone z) cause) _).toPlays).recovers_of
          (z := z) (n := none) (by rw [hzone]; simpa using hnone)
        exact recovered_coverageOk hrec hfound hlen hsources hothers

theorem modifyZone_of_le {s : State} {z : Nat} (h : s.zrt.zones.length ≤ z) (f : Zone → Zone) :
    s.modifyZone z f = s := by
  unfold State.modifyZone
  rw [List.modify_eq_self h]
  rfl

theorem zone_of_le {s : State} {z : Nat} (h : s.zrt.zones.length ≤ z) : s.zone z = coldZone :=
  List.getD_eq_default _ _ h

/-- Beyond the table there is no record to change: the change of base is work on announcements alone. -/
theorem changeBase_plays_of_le {s : State} {z : Nat} (h : s.zrt.zones.length ≤ z) (b : Base) (cause : ZoneCause) :
    Plays s (changeBase z b cause s) := by
  have hwrite : writeBase z b s = s := modifyZone_of_le h _
  have hset : ∀ n, setCovering z n s = s := fun n => modifyZone_of_le h _
  have hnone : coveringOf s z = none := coveringOf_of_unreachable (by simp [reachableZone, zone_of_le h, coldZone])
  have hcovering : (s.zone z).covering = none := by rw [zone_of_le h]; rfl
  unfold changeBase
  simp only [hwrite, hset]
  split
  · exact (baseEffects_plays z _ s).trans (generate_settles _ _).toPlays
  · rw [hcovering, hnone]
    exact (baseEffects_plays z b s).trans (generate_settles _ _).toPlays

theorem changeBase_keepsCoverage (z : Nat) (b : Base) (cause : ZoneCause) (s : State) :
    KeepsCoverage s (changeBase z b cause s) := by
  intro hs
  by_cases hz : z < Config.maxZones
  · exact changeBase_coverageOk hz b cause hs
  · exact (changeBase_plays_of_le (by rw [hs.zones]; omega) b cause).keepsCoverage hs

/-! ### Sources (R111, R112, R121) -/

theorem source_modifySource_of_lt {s : State} {n : Nat} (h : n < s.zrt.sources.length) (f : Source → Source) :
    (s.modifySource n f).source n = f (s.source n) := by
  simp [State.source, State.modifySource, List.getD_eq_getElem?_getD, h]

theorem source_modifySource_of_ne {s : State} {n m : Nat} (h : m ≠ n) (f : Source → Source) :
    (s.modifySource n f).source m = s.source m := by
  simp [State.source, State.modifySource, List.getD_eq_getElem?_getD, Ne.symm h]

/-- The entry an activation finds where its key is not ACTIVE is not ACTIVE (R111). -/
theorem findEntry_spec {s : State} {key : SourceKey} {n : Nat} (hkey : activeWithKey s key = none)
    (h : findEntry s key = some n) : n < Config.maxSources ∧ (s.source n).state ≠ .active := by
  have hactive : ∀ m < Config.maxSources, (s.source m).state = .active → (s.source m).key ≠ key := by
    intro m hm hstate hk
    have := List.find?_eq_none.mp hkey m (List.mem_range.mpr hm)
    simp [hstate, hk] at this
  have hlt : ∀ {p : Nat → Bool}, allSources.find? p = some n → n < Config.maxSources := fun hp =>
    List.mem_range.mp (List.mem_of_find?_eq_some hp)
  unfold findEntry at h
  simp only [Option.or_eq_some_iff] at h
  obtain h | ⟨-, h | ⟨-, h⟩⟩ := h
  · refine ⟨hlt h, fun hstate => hactive n (hlt h) hstate ?_⟩
    have := List.find?_some h
    simp only [Bool.and_eq_true, decide_eq_true_eq] at this
    exact this.2
  · have hfree : (s.source n).state = .free := by simpa using List.find?_some h
    exact ⟨hlt h, by rw [hfree]; simp⟩
  · have hinactive : (s.source n).state = .inactive := by simpa using List.find?_some h
    exact ⟨hlt h, by rw [hinactive]; simp⟩

theorem activateEntry_keepsCoverage {n : Nat} {key : SourceKey} {s : State} (hn : n < Config.maxSources)
    (hstate : (s.source n).state ≠ .active) (latched : Bool) : KeepsCoverage s (activateEntry n key latched s) := by
  intro hs
  unfold activateEntry
  simp only
  set s1 := s.modifySource n (fun _ => { state := .active, key := key, latched := latched, voice := .none }) with hs1
  have hself : (s1.source n).key = key := by
    rw [hs1, source_modifySource_of_lt (by rw [hs.sources]; exact hn)]
  have hsources : s1.zrt.sources.length = Config.maxSources := by simpa [hs1, State.modifySource] using hs.sources
  obtain ⟨hsites, hcovered⟩ := forEach_covered (s := s1) (f := recomputeZone false)
    (zs := allZones.filter (fun z => matchesPair (s1.zone z).address key.target)) fun z hz u hu =>
      recomputeZone_recovers (by
        rw [hu.length, show s1.zrt.zones.length = Config.maxZones from hs.zones]
        exact List.mem_range.mp (List.mem_filter.mp hz).1) false
  refine ⟨hsites.length.trans hs.zones, hsites.sources.trans hsources, fun y hy => hcovered y ?_⟩
  by_cases hmatch : matchesPair (s1.zone y).address key.target = true
  · exact .inr (List.mem_filter.mpr ⟨List.mem_range.mpr hy, hmatch⟩)
  · left
    have hcovers : ∀ m, covers s1 m y = covers s m y := by
      intro m
      by_cases hmn : m = n
      · subst hmn
        have hnew : covers s1 m y = false := by simp [covers, inTarget, hself, hmatch]
        have hold : covers s m y = false := by simp [covers, hstate]
        rw [hnew, hold]
      · exact covers_congr rfl rfl Iff.rfl (by rw [hs1, source_modifySource_of_ne hmn])
          (by rw [hs1, source_modifySource_of_ne hmn])
    unfold Covered coveringOf
    rw [funext hcovers]
    exact hs.covering y hy

theorem activate_keepsCoverage {n : Nat} {key : SourceKey} {s : State} (hn : n < Config.maxSources)
    (hstate : (s.source n).state ≠ .active) (latched : Bool) : KeepsCoverage s (activate n key latched s).2 :=
  (activateEntry_keepsCoverage hn hstate latched).trans
    (((createEvac_settles n _).trans (settle_settles _)).trans
      ((generate_settles _ _).trans ((emergencyEvent_settles _).trans (settle_settles _)))).keepsCoverage

/-- A search whose find is not the element left out finds the same without it. -/
theorem find?_eq_of_ne {p q : Nat → Bool} {n : Nat} (hpq : ∀ m, m ≠ n → q m = p m) (hq : q n = false) :
    ∀ {l : List Nat}, l.find? p ≠ some n → l.find? q = l.find? p
  | [], _ => rfl
  | m :: l, h => by
    rw [List.find?_cons] at h ⊢
    rw [List.find?_cons]
    by_cases hmn : m = n
    · subst hmn
      rw [hq]
      cases hp : p m with
      | true => rw [hp] at h; exact absurd rfl h
      | false => rw [hp] at h; exact find?_eq_of_ne hpq hq h
    · rw [hpq m hmn]
      cases hp : p m with
      | true => rfl
      | false => rw [hp] at h; exact find?_eq_of_ne hpq hq h

theorem clearSource_keepsCoverage {n : Nat} {s : State} (hn : n < Config.maxSources) :
    KeepsCoverage s (clearSource n s) := by
  intro hs
  set s1 := s.modifySource n releasedEntry with hs1
  have hsources : s1.zrt.sources.length = Config.maxSources := by simpa [hs1, State.modifySource] using hs.sources
  have hinactive : (s1.source n).state ≠ .active := by
    rw [hs1, source_modifySource_of_lt (by rw [hs.sources]; exact hn)]
    simp [releasedEntry]
  have hwithdrawn := (withdrawVoice_settles (s.source n).voice s1).toPlays
  obtain ⟨hsites, hcovered⟩ := forEach_covered (s := withdrawVoice (s.source n).voice s1) (f := recomputeZone true)
    (zs := coveredBy s n) fun z hz u hu => recomputeZone_recovers (by
      rw [hu.length, hwithdrawn.sameSites.length, show s1.zrt.zones.length = Config.maxZones from hs.zones]
      exact List.mem_range.mp (List.mem_filter.mp hz).1) true
  have hpass : CoverageOk (forEach (coveredBy s n) (recomputeZone true) (withdrawVoice (s.source n).voice s1)) := by
    have hall := hwithdrawn.sameSites.trans hsites
    refine ⟨hall.length.trans hs.zones, hall.sources.trans hsources, fun y hy => hcovered y ?_⟩
    by_cases hcovering : (s.zone y).covering = some n
    · exact .inr (List.mem_filter.mpr ⟨List.mem_range.mpr hy, by simpa using hcovering⟩)
    · left
      refine hwithdrawn.covered ?_
      have hold : coveringOf s y ≠ some n := fun h => hcovering ((hs.covering y hy).trans h)
      unfold Covered
      have hsame : coveringOf s1 y = coveringOf s y :=
        find?_eq_of_ne (p := fun m => covers s m y) (q := fun m => covers s1 m y) (fun m hm =>
          have hsource := source_modifySource_of_ne hm releasedEntry
          covers_congr rfl rfl Iff.rfl (congrArg Source.state hsource) (congrArg Source.key hsource))
          (by simp [covers, hinactive]) hold
      rw [hsame]
      exact hs.covering y hy
  exact ((judgeHold_settles _).trans ((generate_settles _ _).trans (settle_settles _))).keepsCoverage hpass

/-! ### Resets (R124) -/

theorem recoverZone_recovers {s : State} {z : Nat} (h : z < s.zrt.zones.length) :
    Recovers s (recoverZone z s) z (coveringOf s z) := setCovering_recovers h _

theorem warmReset_keepsCoverage (cause : RestartCause) (s : State) : KeepsCoverage s (warmReset cause s) := by
  intro hs
  have hblocks : (generate (.restarted cause) (warmBlocks s)).zrt.zones.length = Config.maxZones := by
    simpa [warmBlocks, warmZrt] using hs.zones
  have hsources : (generate (.restarted cause) (warmBlocks s)).zrt.sources.length = Config.maxSources := by
    simpa [warmBlocks, warmZrt] using hs.sources
  obtain ⟨hsites, hcovered⟩ := forEach_covered (s := generate (.restarted cause) (warmBlocks s)) (f := recoverZone)
    (zs := allZones) fun z hz u hu => recoverZone_recovers (by
      rw [hu.length, hblocks]
      exact List.mem_range.mp hz)
  have hpass : CoverageOk (forEach allZones recoverZone (generate (.restarted cause) (warmBlocks s))) :=
    ⟨hsites.length.trans hblocks, hsites.sources.trans hsources, fun y hy =>
      hcovered y (.inr (List.mem_range.mpr hy))⟩
  exact ((forEach_settles reissue_settles _).trans ((reportWarmMode_settles s.smc.mode _).trans
    ((informActive_settles _).trans (settle_settles _)))).keepsCoverage hpass

/-! ### Every step -/

theorem panelActive_keepsCoverage (key : SourceKey) (sense : Sense) (s : State) :
    KeepsCoverage s (panelActive key sense s) := by
  unfold panelActive
  split
  · exact fun h => h
  next hkey =>
    split
    · exact (generate_settles _ s).keepsCoverage
    next n hn =>
      obtain ⟨hlt, hstate⟩ := findEntry_spec hkey hn
      exact activate_keepsCoverage hlt hstate _

theorem handEdge_keepsCoverage (f : InputFunction) (active : Bool) (t : Capture) (n : Nat) (s : State) :
    KeepsCoverage s (handEdge f active t n s) := by
  unfold handEdge
  split
  · exact (trainActive_retimes _ _ _ s).keepsCoverage
  · exact (trainInactive_retimes _ _ _ s).keepsCoverage
  · exact (dispatchActive_retimes _ _ _ s).keepsCoverage
  · unfold closureActive
    split
    · exact changeBase_keepsCoverage _ _ _ s
    · exact fun h => h
  · unfold closureInactive
    split
    · exact changeBase_keepsCoverage _ _ _ s
    · exact fun h => h
  · exact panelActive_keepsCoverage _ _ s
  · exact fun h => h

theorem Effect.keepsCoverage {s t : State} (h : Effect s t) : KeepsCoverage s t := by
  cases h with
  | nothing | mask | clock | clockEvent | plan | clearInputs | directory | template | composer | gap =>
    exact fun hs => { hs with }
  | addCall =>
    exact fun hs => (recomputeIfCurrent_retimes _ (enterCall _ s)).keepsCoverage { hs with }
  | replaceCall d hr hold hstate => exact (replaceCall_retimes hold).keepsCoverage
  | deleteCall => exact (deleteFound_retimes _ s).keepsCoverage
  | delayCall => exact (delayFound_retimes _ _ s).keepsCoverage
  | platformCall => exact (changePlatform_retimes _ _ s).keepsCoverage
  | cancelCall => exact (cancelFound_retimes _ s).keepsCoverage
  | arrive => exact (arrive_retimes _ _ _ _ s).keepsCoverage
  | depart => exact (depart_retimes _ _ _ _ s).keepsCoverage
  | configureInput n f before t =>
    intro hs
    unfold reportStatus
    split <;> exact { hs with }
  | announce => exact (createWhole_settles _ s).keepsCoverage
  | withdraw a => exact ((withdrawAnnouncement_settles a s).trans (settle_settles _)).keepsCoverage
  | zone k m hzone hgains =>
    exact fun hs => settle_keepsCoverage _ (recomputeModified_coverageOk hzone _ hs)
  | groups r => exact (regrouped_keepsCoverage r s).trans (settle_keepsCoverage _)
  | base => exact (changeBase_keepsCoverage _ _ _ s).trans (settle_keepsCoverage _)
  | activate hkey hn =>
    obtain ⟨hlt, hstate⟩ := findEntry_spec hkey hn
    exact activate_keepsCoverage hlt hstate _
  | clear hn => exact clearSource_keepsCoverage hn
  | mode m w =>
    exact fun hs => ((actOnMode_settles m (s.withSmc { s.smc with warmUp := clampWarmUp w })).trans
      (settle_settles _)).keepsCoverage { hs with }

theorem window_keepsCoverage (s : State) (z : Nat) (f : List Nat → List Nat) :
    KeepsCoverage s (s.modifyZone z (fun zn => { zn with window := f zn.window })) := by
  intro hs
  have hzone : ∀ y, ∃ w, (s.modifyZone z (fun zn => { zn with window := f zn.window })).zone y =
      { s.zone y with window := w } := by
    intro y
    by_cases hyz : y = z
    · subst hyz
      by_cases hy : y < s.zrt.zones.length
      · exact ⟨_, zone_modifyZone_of_lt hy _⟩
      · rw [modifyZone_of_le (Nat.le_of_not_lt hy)]
        exact ⟨(s.zone y).window, rfl⟩
    · rw [zone_modifyZone_of_ne hyz]
      exact ⟨(s.zone y).window, rfl⟩
  refine ⟨by simpa [State.modifyZone] using hs.zones, hs.sources, fun y hy => ?_⟩
  obtain ⟨w, hw⟩ := hzone y
  have hsite : SameSite s (s.modifyZone z (fun zn => { zn with window := f zn.window })) y :=
    ⟨by rw [hw], by rw [hw], by rw [hw], rfl, fun _ => ⟨rfl, rfl⟩⟩
  rw [hsite.coveringOf, hw]
  exact hs.covering y hy

theorem keepsCoverage_keeper : Keeper KeepsCoverage where
  rfl _ := fun h => h
  trans h g := h.trans g
  pending _ _ := fun h => { h with }
  resetLine _ _ := fun h => { h with }
  pins _ _ := fun h => { h with }
  clock _ _ := fun h => { h with }
  fiu _ _ _ := fun h => { h with }
  lnk _ _ := fun h => { h with }
  composer _ := fun h => { h with }
  tick _ _ _ := fun h => { h with }
  window s z x := window_keepsCoverage s z (joinWindow (sampleOf x))
  coldReset _ := fun _ => { reset_coverage with }
  warmReset := warmReset_keepsCoverage
  settle := settle_keepsCoverage
  phraseEnd c s := (takePhraseEnd_settles c s).keepsCoverage
  gapEnd c s := (takeGapEnd_settles c s).keepsCoverage
  pulseEnd z s := (takePulseEnd_settles z s).keepsCoverage
  endRests s := (endRests_settles s).keepsCoverage
  warmUpEnd s := (takeWarmUpEnd_settles s).keepsCoverage
  holdExpiry s := (takeHoldExpiry_settles s).keepsCoverage
  create _ _ _ s := (createWhole_settles _ s).keepsCoverage
  wake n s := (wakeRequest_settles n s).keepsCoverage
  edge := handEdge_keepsCoverage
  secondTtu rollover s := (secondTtu_retimes rollover s).keepsCoverage
  secondZrt rollover limit s := (secondZrt_settles rollover limit s).keepsCoverage
  secondSmc night opn s := (secondSmc_settles night opn s).keepsCoverage
  effect h := h.keepsCoverage

/-- Settles O24. -/
theorem everyStepKeepsTheCoverage : Obligations.EveryStepKeepsTheCoverage := by
  unfold Obligations.EveryStepKeepsTheCoverage
  exact fun s t hs h => keepsCoverage_keeper.step h hs

end Sys2Proof.Machine


/-! PROOFS. The link's own requests, the reads, cold reset, the part in reset, and the settings of the clock. -/

namespace Sys2Proof.Machine

open Sys2Proof.Claims

/-! ### The link's own requests and the reads -/

/-- A handed request is answered with what its owner is known to answer and to leave. -/
theorem exec_of_owner_eq {c : Instr} {s s0 u : State} {res : Result} (h : Handed c s s0) (ho : owner c s0 = (res, u)) :
    exec c s = .next (answer res u) := by
  rw [exec_eq_of_handed h, ho]

/-- A read, or a request that is refused, is answered without another effect. -/
theorem onlyAnswers_of_owner_eq {c : Instr} {s s0 : State} {res : Result} (h : Handed c s s0)
    (ho : owner c s0 = (res, s0)) : OnlyAnswers c s s0 res := exec_of_owner_eq h ho

theorem maskOf_safety (m : BitVec 16) : (maskOf m).getLsbD 0 = true := by
  simp [maskOf]

theorem maskOf_getLsbD {m : BitVec 16} {i : Nat} (h : 1 ≤ i) (hi : i < 11) :
    (maskOf m).getLsbD i = m.getLsbD i := by
  simp [maskOf, hi, Nat.ne_of_gt h]

/-- Settles O10: the owner of each of the link's own requests. -/
theorem theLinksOwnRequestsAreAnswered : Obligations.TheLinksOwnRequestsAreAnswered := by
  unfold Obligations.TheLinksOwnRequestsAreAnswered
  refine ⟨fun tag s s0 => ⟨fun h => ?_, fun h => ?_, fun h => ?_, fun n k h => ?_, fun kind h => ?_⟩,
    fun tag m s s0 h => ⟨maskOf m, maskOf_safety m, fun i => maskOf_getLsbD, ?_⟩⟩
  · exact onlyAnswers_of_owner_eq h rfl
  · exact onlyAnswers_of_owner_eq h rfl
  · exact onlyAnswers_of_owner_eq h rfl
  · exact onlyAnswers_of_owner_eq h rfl
  · exact onlyAnswers_of_owner_eq h rfl
  · exact exec_of_owner_eq h rfl

/-- The sections of a channel, by the codes of the request. -/
theorem channelSection_eq (c : Nat) (r : Option Run) (code start : Nat) : channelSection c r code start =
    if code = 0 ∨ 3 < code then refused .outOfRange
    else match r with
      | none => accepted (headSection c none)
      | some r =>
        if code = 1 then accepted (headSection c (some r))
        else if code = 2 then accepted (phraseSection r) else accepted (zoneSection r start) := by
  match code with
  | 0 => rfl
  | 1 => cases r <;> rfl
  | 2 => cases r <;> rfl
  | 3 => cases r <;> rfl
  | n + 4 => rw [if_pos (by omega)]; rfl

theorem readChannels_eq (q : ChannelReadReq) (s : State) : readChannels q s =
    match q.channel with
    | none => accepted (u8 s.ple.gap ++ s.ple.channels.flatMap channelSummary)
    | some c =>
      if 7 < c ∨ q.sectionCode = 0 ∨ 3 < q.sectionCode then refused .outOfRange
      else match s.channel c with
        | none => accepted (headSection c none)
        | some r =>
          if q.sectionCode = 1 then accepted (headSection c (some r))
          else if q.sectionCode = 2 then accepted (phraseSection r) else accepted (zoneSection r q.start) := by
  unfold readChannels
  cases q.channel with
  | none => rfl
  | some c =>
    simp only [channelSection_eq]
    by_cases hc : 7 < c
    · rw [if_pos (show Config.maxChannels ≤ c from hc), if_pos (.inl hc)]; rfl
    · rw [if_neg (show ¬ Config.maxChannels ≤ c from hc)]
      simp only [hc, false_or]

/-- Settles O11: each read's owner, as it stands in the model. -/
theorem readsReportAndChangeNothing : Obligations.ReadsReportAndChangeNothing := by
  unfold Obligations.ReadsReportAndChangeNothing
  intro tag s s0
  refine ⟨fun h => ?_, fun id h => ?_, fun start h => ?_, fun n h => ?_, fun start h => ?_, fun a h => ?_, fun z h => ?_,
    fun q h => ?_⟩
  · exact onlyAnswers_of_owner_eq h rfl
  · refine onlyAnswers_of_owner_eq h (congrArg (·, s0) ?_)
    unfold readCall State.call?
    cases s0.ttu.calls.find? (fun c => c.id == id) <;> rfl
  · exact onlyAnswers_of_owner_eq h rfl
  · refine onlyAnswers_of_owner_eq h (congrArg (·, s0) ?_)
    cases n <;> rfl
  · exact onlyAnswers_of_owner_eq h rfl
  · refine onlyAnswers_of_owner_eq h (congrArg (·, s0) ?_)
    simp only [readStore, State.slot?]
    cases s0.asc.slots.find? (fun x => x.id == a) <;> rfl
  · refine onlyAnswers_of_owner_eq h (congrArg (·, s0) ?_)
    cases z <;> rfl
  · exact onlyAnswers_of_owner_eq h (congrArg (·, s0) (readChannels_eq q s0))

/-! ### Cold reset, and the part in reset -/

/-- Settles O12: the reset state's fields are its definition's, and POWER_ON's notice finds an empty outbox and an idle
transmitter. -/
theorem coldResetHoldsTheColdValues : Obligations.ColdResetHoldsTheColdValues := by
  unfold Obligations.ColdResetHoldsTheColdValues
  refine ⟨⟨⟨rfl, rfl, rfl, rfl, rfl, rfl, rfl, rfl, rfl, rfl⟩, rfl, ⟨rfl, fun i hi => ?_⟩, ⟨rfl, rfl, rfl, rfl, rfl⟩, rfl,
    ⟨rfl, rfl, rfl, fun e he => ?_⟩, rfl, rfl, rfl⟩, fun s => rfl⟩
  · rw [List.eq_of_mem_replicate hi]
    exact ⟨rfl, rfl, rfl, rfl, rfl, rfl, rfl, rfl⟩
  · rw [List.eq_of_mem_replicate he]; rfl

/-- A request is not handed while RESET is asserted. -/
theorem takeRequest_of_reset {s : State} (h : s.resetLine = true) (c : Instr) : takeRequest c s = none := by
  unfold takeRequest; rw [h]; rfl

theorem eventAfter_of_reset {s : State} (h : s.resetLine = true) (c : Instr) :
    c = .powerOn ∨ c = .resetAssert ∨ c = .resetRelease ∨ eventAfter c s = stated c s := by
  unfold eventAfter
  split
  · exact .inl rfl
  · exact .inr (.inl rfl)
  · exact .inr (.inr (.inl rfl))
  · exact .inr (.inr (.inr (if_pos h)))

/-- What a command states on the lines: the two sampling commands their levels, every other nothing. -/
theorem stated_eq_cases (c : Instr) (s : State) :
    (∃ rs, c = .ambientSample rs ∧ stated c s = s.withPins { s.pins with noise := rs }) ∨
      (∃ ls, c = .inputSampling ls ∧ stated c s = s.withPins { s.pins with inputs := ls }) ∨ stated c s = s := by
  unfold stated
  split
  · exact .inl ⟨_, rfl, rfl⟩
  · exact .inr (.inl ⟨_, rfl, rfl⟩)
  · exact .inr (.inr rfl)

/-- Settles O13: in reset no request is handed and an event only states its levels. -/
theorem resetHoldsThePartStill : Obligations.ResetHoldsThePartStill := by
  unfold Obligations.ResetHoldsThePartStill
  refine ⟨fun s => rfl, fun c s h => ?_⟩
  cases hr : requestOf c with
  | some r =>
    refine .inr (.inr (.inr (.inr (.inr ?_))))
    rw [exec_of_request (by rw [hr]; rfl), takeRequest_of_reset h]; rfl
  | none =>
    rw [exec_of_event hr]
    obtain hc | hc | hc | hstated := eventAfter_of_reset h c
    · exact .inl hc
    · exact .inr (.inl hc)
    · exact .inr (.inr (.inl hc))
    · rw [hstated]
      obtain ⟨rs, hc, he⟩ | ⟨ls, hc, he⟩ | he := stated_eq_cases c s
      · exact .inr (.inr (.inr (.inl ⟨rs, hc, congrArg _ he⟩)))
      · exact .inr (.inr (.inr (.inr (.inl ⟨ls, hc, congrArg _ he⟩))))
      · exact .inr (.inr (.inr (.inr (.inr (congrArg _ he)))))

/-! ### The clock and the day settings -/

theorem dayOutOfRange_iff (r : DayConfigReq) : dayOutOfRange r = true ↔
    86399 < r.offset ∨ (∃ t, r.nightStart = some t ∧ 86399 < t) ∨ (∃ t, r.openTime = some t ∧ 86399 < t) ∨
      (r.nightStart ≠ none ∧ r.nightStart = r.openTime) := by
  have hbad : ∀ t : Option Nat, badTime t = true ↔ ∃ x, t = some x ∧ 86399 < x := by
    intro t
    cases t with
    | none => simp [badTime]
    | some x => simp [badTime, Config.daySeconds, Nat.succ_le_iff]
  simp only [dayOutOfRange, Bool.or_eq_true, Bool.and_eq_true, decide_eq_true_eq, hbad, Option.isSome_iff_ne_none,
    Config.daySeconds, Nat.lt_iff_add_one_le, or_assoc]

theorem clampWindow_ne (w : Nat) : decide (clampWindow w ≠ w) = decide (w < 60 ∨ 3600 < w) :=
  decide_eq_decide.mpr (clampNat_ne (by decide) w)

theorem configureDay_eq (r : DayConfigReq) (s : State) : configureDay r s =
    if dayOutOfRange r then (refused .outOfRange, s)
    else (.accepted (decide (r.matchWindow < 60 ∨ 3600 < r.matchWindow)) [] .nothing,
      s.withClock { s.clock with
        offset := r.offset, nightStart := r.nightStart, openTime := r.openTime
        matchWindow := max 60 (min 3600 r.matchWindow) }) := by
  unfold configureDay withDay
  rw [clampWindow_ne, show clampWindow r.matchWindow = _ from clampNat_eq (by decide) r.matchWindow]; rfl

/-- Settles O15: the owners of the clock's requests, one equation for each state of the held and unset conditions. -/
theorem theClockAndTheDaySettingsAreSet : Obligations.TheClockAndTheDaySettingsAreSet := by
  unfold Obligations.TheClockAndTheDaySettingsAreSet
  refine ⟨⟨fun tag s s0 => ⟨fun h => ⟨fun hheld => ?_, fun hheld => ?_⟩,
    fun h => ⟨fun hunset => ?_, fun hunset hheld => ?_, fun hunset hheld => ?_⟩⟩,
    fun tag v s s0 h => ⟨fun hheld => ?_, fun hheld hv => ?_, fun hheld hv => ?_⟩⟩,
    fun tag r s s0 h => ⟨fun hbad => ?_, fun hoff hnight hopen hne => ?_⟩⟩
  · exact onlyAnswers_of_owner_eq h (by simp [owner, served, holdClock, hheld]; rfl)
  · exact exec_of_owner_eq h (by simp [owner, served, holdClock, hheld]; exact ⟨rfl, rfl⟩)
  · exact onlyAnswers_of_owner_eq h (by simp [owner, served, releaseClock, hunset]; rfl)
  · exact onlyAnswers_of_owner_eq h (by simp [owner, served, releaseClock, hunset, hheld]; rfl)
  · exact exec_of_owner_eq h (by simp [owner, served, releaseClock, hunset, hheld]; rfl)
  · exact onlyAnswers_of_owner_eq h (by simp [owner, served, setClock, hheld]; rfl)
  · exact onlyAnswers_of_owner_eq h (by
      simp only [owner, served, setClock, hheld]
      rw [if_neg (by decide), if_pos (show Config.daySeconds ≤ v from hv)]; rfl)
  · exact exec_of_owner_eq h (by
      show setClock v s0 = _
      unfold setClock
      rw [if_neg (by simp [hheld]), if_neg (show ¬ Config.daySeconds ≤ v from Nat.not_le.mpr (Nat.lt_succ_of_le hv))]; rfl)
  · exact onlyAnswers_of_owner_eq h ((configureDay_eq r s0).trans (if_pos ((dayOutOfRange_iff r).mpr hbad)))
  · refine exec_of_owner_eq h ((configureDay_eq r s0).trans (if_neg fun hout => ?_))
    obtain hbad | ⟨t, ht, hbad⟩ | ⟨t, ht, hbad⟩ | ⟨hsome, heq⟩ := (dayOutOfRange_iff r).mp hout
    · omega
    · have := hnight t ht; omega
    · have := hopen t ht; omega
    · exact hne hsome heq

/-! ### Spoken figures -/

theorem sayNumber_of_le {n : Nat} (h : n ≤ 99) : sayNumber n = n := Nat.min_eq_left h

theorem delayMinutes_of_nonneg {d : Int} (h : 0 ≤ d) : delayMinutes d = (d.toNat + 30) / 60 := if_neg (by omega)

theorem sayDelay_eq (d : Int) (m : Nat) (hm : delayMinutes d = m) :
    (m < 60 → sayDelay d = [m, 100]) ∧
      (60 ≤ m → m % 60 = 0 → m < 6000 → sayDelay d = [m / 60, 101]) ∧
      (60 ≤ m → 0 < m % 60 → m < 6000 → sayDelay d = [m / 60, 101, m % 60, 100]) := by
  simp only [sayDelay, hm]
  refine ⟨fun h => ?_, fun h h0 hlt => ?_, fun h h0 hlt => ?_⟩
  · rw [if_pos h, sayNumber_of_le (by omega)]
  · rw [if_neg (by omega), if_neg (by omega), sayNumber_of_le (by omega)]; rfl
  · rw [if_neg (by omega), if_pos h0, sayNumber_of_le (by omega), sayNumber_of_le (by omega)]; rfl

/-- A civil minute is spoken as its hour, then its minute or the on-the-hour word. -/
theorem sayMinute_of_lt {m : Nat} (h : m < 6000) :
    sayMinute m = [m / 60, if m % 60 = 0 then 102 else m % 60] := by
  unfold sayMinute
  rw [sayNumber_of_le (by omega), sayNumber_of_le (by omega)]

theorem speaksDeparture_eq (c : Call) (a : Option Anchor) : speaksDeparture c a = speaksDepartureOf c a := by
  cases a with
  | none => cases hk : c.kind <;> simp [speaksDeparture, speaksDepartureOf, hasDeparture, hk]
  | some a => cases a <;> cases hk : c.kind <;> simp [speaksDeparture, speaksDepartureOf, hasDeparture, hk]

theorem delayFor_eq (c : Call) (a : Option Anchor) : delayFor c a = spokenDelay c a := by
  unfold delayFor spokenDelay lateness; rw [speaksDeparture_eq]

/-- Settles O33: the minutes of a delay by `sayDelay_eq`, the civil minute by `sayMinute_of_lt`. -/
theorem delaysAndTimesAreSpoken : Obligations.DelaysAndTimesAreSpoken := by
  unfold Obligations.DelaysAndTimesAreSpoken
  refine ⟨fun d => ⟨fun hd => ?_, fun hd m hm => ?_⟩, fun t offset m hm => ?_, rfl, fun s c a => ⟨?_, ?_, ?_, ?_⟩⟩
  · refine (sayDelay_eq d 0 ?_).1 (by decide)
    unfold delayMinutes; split <;> omega
  · obtain ⟨hlt, hhour, hmin⟩ := sayDelay_eq d m ((delayMinutes_of_nonneg hd).trans hm.symm)
    exact ⟨hlt, hhour, hmin, fun h => by omega, fun h => by omega⟩
  · have hciv : civilMinute t offset = m := hm.symm
    rw [sayTime, hciv, sayMinute_of_lt (by omega)]
    split <;> rfl
  · simp only [scheduledFor, speaksDeparture_eq]
  · simp only [expectedFor, speaksDeparture_eq]
  · exact delayFor_eq c a
  · rw [isDelayed, delayFor_eq, decide_eq_true_eq]

end Sys2Proof.Machine


/-! PROOFS. The encoding of the requests: each field read back from the bytes written for it, each body from its layout, and
the frame of a request received byte by byte (R156 to R158, R167 to R169). -/

namespace Sys2Proof.Machine

open Sys2Proof.Claims

/-! ### Counts -/

theorem beValue_append (bs : List Byte) (b : Byte) : beValue (bs ++ [b]) = beValue bs * 256 + b.toNat := by
  simp [beValue]

theorem length_beBytes (w n : Nat) : (beBytes w n).length = w := by
  induction w with
  | zero => rfl
  | succ w ih => simp [beBytes, ih]

theorem beValue_cons (b : Byte) (bs : List Byte) : beValue (b :: bs) = b.toNat * 256 ^ bs.length + beValue bs := by
  induction bs using List.reverseRecOn with
  | nil => simp [beValue]
  | append_singleton bs c ih =>
    rw [← List.cons_append, beValue_append, beValue_append, ih, List.length_append, List.length_singleton, Nat.pow_succ]
    ring

/-- A count reads back modulo what its width holds. -/
theorem beValue_beBytes (w n : Nat) : beValue (beBytes w n) = n % 256 ^ w := by
  induction w with
  | zero => simp [beBytes, beValue, Nat.mod_one]
  | succ w ih =>
    rw [beBytes, beValue_cons, length_beBytes, ih, BitVec.toNat_ofNat, Nat.pow_succ (n := 256),
      Nat.mod_mul (x := n) (a := 256 ^ w) (b := 256), Nat.add_comm, Nat.mul_comm (256 ^ w)]

@[simp] theorem beValue_u8 {n : Nat} (h : byteOk n = true) : beValue (u8 n) = n :=
  (beValue_beBytes 1 n).trans (Nat.mod_eq_of_lt (of_decide_eq_true h))

@[simp] theorem beValue_u16 {n : Nat} (h : wordOk n = true) : beValue (u16 n) = n :=
  (beValue_beBytes 2 n).trans (Nat.mod_eq_of_lt (of_decide_eq_true h))

@[simp] theorem beValue_u32 {n : Nat} (h : longOk n = true) : beValue (u32 n) = n :=
  (beValue_beBytes 4 n).trans (Nat.mod_eq_of_lt (of_decide_eq_true h))

@[simp] theorem byteOk_toNat (v : BitVec 8) : byteOk v.toNat = true := decide_eq_true v.isLt
@[simp] theorem wordOk_toNat (v : BitVec 16) : wordOk v.toNat = true := decide_eq_true v.isLt
@[simp] theorem longOk_toNat (v : BitVec 32) : longOk v.toNat = true := decide_eq_true v.isLt
@[simp] theorem byteOk_bool (b : Bool) : byteOk b.toNat = true := by cases b <;> rfl

/-! ### Fields at their places: a reader passes over the fields before its own -/

@[simp] theorem fieldAt_u8 (n : Nat) : fieldAt (u8 n) 0 1 = beValue (u8 n) := rfl
@[simp] theorem fieldAt_u8_end (n : Nat) : fieldAt (u8 n) 1 1 = 0 := rfl
@[simp] theorem fieldAt_u16 (n : Nat) : fieldAt (u16 n) 0 2 = beValue (u16 n) := rfl
@[simp] theorem fieldAt_u32 (n : Nat) : fieldAt (u32 n) 0 4 = beValue (u32 n) := rfl
@[simp] theorem fieldAt_u8_append (n : Nat) (bs : List Byte) : fieldAt (u8 n ++ bs) 0 1 = beValue (u8 n) := rfl
@[simp] theorem fieldAt_u16_append (n : Nat) (bs : List Byte) : fieldAt (u16 n ++ bs) 0 2 = beValue (u16 n) := rfl
@[simp] theorem fieldAt_u32_append (n : Nat) (bs : List Byte) : fieldAt (u32 n ++ bs) 0 4 = beValue (u32 n) := rfl

@[simp] theorem fieldAt_past_u8 (n a w : Nat) (bs : List Byte) : fieldAt (u8 n ++ bs) (a + 1) w = fieldAt bs a w := rfl
@[simp] theorem fieldAt_past_u16 (n a w : Nat) (bs : List Byte) : fieldAt (u16 n ++ bs) (a + 2) w = fieldAt bs a w := rfl
@[simp] theorem fieldAt_past_u32 (n a w : Nat) (bs : List Byte) : fieldAt (u32 n ++ bs) (a + 4) w = fieldAt bs a w := rfl

/-- Items after a field are the items of what follows the field. -/
theorem itemsAt_append {α : Type} (pre bs : List Byte) (a size k : Nat) (read : List Byte → α) :
    itemsAt (pre ++ bs) (a + pre.length) size k read = itemsAt bs a size k read := by
  refine List.map_congr_left fun i _ => ?_
  rw [Nat.add_right_comm, Nat.add_comm, List.drop_length_add_append]

@[simp] theorem itemsAt_past_u8 {α : Type} (n a size k : Nat) (bs : List Byte) (read : List Byte → α) :
    itemsAt (u8 n ++ bs) (a + 1) size k read = itemsAt bs a size k read := itemsAt_append (u8 n) bs a size k read

@[simp] theorem itemsAt_past_u16 {α : Type} (n a size k : Nat) (bs : List Byte) (read : List Byte → α) :
    itemsAt (u16 n ++ bs) (a + 2) size k read = itemsAt bs a size k read := itemsAt_append (u16 n) bs a size k read

@[simp] theorem itemsAt_past_u32 {α : Type} (n a size k : Nat) (bs : List Byte) (read : List Byte → α) :
    itemsAt (u32 n ++ bs) (a + 4) size k read = itemsAt bs a size k read := itemsAt_append (u32 n) bs a size k read

/-- Items of one size read back one by one. -/
theorem itemsAt_flatMap {α : Type} {read : List Byte → α} {write : α → List Byte} {size : Nat} :
    ∀ {xs : List α}, (∀ x ∈ xs, (write x).length = size ∧ read (write x) = x) →
      itemsAt (xs.flatMap write) 0 size xs.length read = xs
  | [], _ => rfl
  | x :: xs, h => by
    obtain ⟨⟨hlen, hread⟩, hxs⟩ := List.forall_mem_cons.mp h
    have hrest : itemsAt (write x ++ xs.flatMap write) size size xs.length read = xs := by
      have := itemsAt_append (write x) (xs.flatMap write) 0 size xs.length read
      rw [Nat.zero_add, hlen] at this
      rw [this, itemsAt_flatMap hxs]
    simp only [itemsAt, List.length_cons, List.range_succ_eq_map, List.map_cons, List.map_map, Function.comp_def,
      List.flatMap_cons, Nat.mul_zero, Nat.zero_add, List.drop_zero] at hrest ⊢
    rw [← hlen, List.take_left, hread, hlen]
    refine congrArg (x :: ·) (Eq.trans (List.map_congr_left fun i _ => ?_) hrest)
    rw [Nat.mul_succ, Nat.add_comm]

/-! ### Absent values, flags and signed fields -/

/-- What `optAt` makes of the count that stands at its place. -/
def presentUnless (absent n : Nat) : Option Nat := if n = absent then none else some n

@[simp] theorem optAt_eq (bs : List Byte) (a w absent : Nat) :
    optAt bs a w absent = presentUnless absent (fieldAt bs a w) := rfl

theorem getD_ok {ok : Nat → Bool} {absent : Nat} {t : Option Nat} (h : optOk ok absent t = true)
    (habsent : ok absent = true) : ok (t.getD absent) = true := by
  cases t with
  | none => exact habsent
  | some n =>
    simp only [optOk, Bool.and_eq_true] at h
    exact h.1

theorem presentUnless_getD {ok : Nat → Bool} {absent : Nat} {t : Option Nat} (h : optOk ok absent t = true) :
    presentUnless absent (t.getD absent) = t := by
  cases t with
  | none => exact if_pos rfl
  | some n =>
    simp only [optOk, Bool.and_eq_true, decide_eq_true_eq] at h
    exact if_neg h.2

@[simp] theorem optPhrase_reads {p : Option Nat} (h : optOk wordOk 0xFFFF p = true) :
    presentUnless 0xFFFF (beValue (u16 (p.getD 0xFFFF))) = p := by
  rw [beValue_u16 (getD_ok h (by decide)), presentUnless_getD h]

@[simp] theorem optTime_reads {t : Option Nat} (h : optOk longOk 0xFFFFFFFF t = true) :
    presentUnless 0xFFFFFFFF (beValue (u32 (t.getD 0xFFFFFFFF))) = t := by
  rw [beValue_u32 (getD_ok h (by decide)), presentUnless_getD h]

@[simp] theorem optCall_reads {c : Option Nat} (h : optOk wordOk 0 c = true) :
    presentUnless 0 (beValue (u16 (c.getD 0))) = c := by
  rw [beValue_u16 (getD_ok h (by decide)), presentUnless_getD h]

@[simp] theorem optNumber_reads {n : Option Nat} (h : optOk byteOk 0xFF n = true) :
    presentUnless 0xFF (beValue (u8 (n.getD 0xFF))) = n := by
  rw [beValue_u8 (getD_ok h (by decide)), presentUnless_getD h]

@[simp] theorem flag_reads (b : Bool) : (b.toNat % 2 == 1) = b := by
  cases b <;> rfl

/-- A signed field reads back where its width holds it. -/
theorem toInt_ofInt {w : Nat} (hw : 0 < w) {n : Int} (h : signedOk w n = true) : (BitVec.ofInt w n).toInt = n := by
  simp only [signedOk, Bool.and_eq_true, decide_eq_true_eq] at h
  exact BitVec.toInt_ofInt_eq_self hw h.1 h.2

@[simp] theorem bmod_of_signed8 {n : Int} (h : signedOk 8 n = true) : n.bmod 256 = n :=
  (BitVec.toInt_ofInt (n := 8) n).symm.trans (toInt_ofInt (by decide) h)

@[simp] theorem bmod_of_signed16 {n : Int} (h : signedOk 16 n = true) : n.bmod 65536 = n :=
  (BitVec.toInt_ofInt (n := 16) n).symm.trans (toInt_ofInt (by decide) h)

theorem i32_reads {n : Int} (h : signedOk 32 n = true) :
    (BitVec.ofNat 32 (beValue (u32 (BitVec.ofInt 32 n).toNat))).toInt = n := by
  rw [beValue_u32 (longOk_toNat _), BitVec.ofNat_toNat, BitVec.setWidth_eq, toInt_ofInt (by decide) h]

/-! ### Lengths -/

@[simp] theorem length_u8 (n : Nat) : (u8 n).length = 1 := rfl
@[simp] theorem length_u16 (n : Nat) : (u16 n).length = 2 := rfl
@[simp] theorem length_u32 (n : Nat) : (u32 n).length = 4 := rfl

theorem length_flatMap_of_size {α : Type} {write : α → List Byte} {size : Nat} {xs : List α}
    (h : ∀ x, (write x).length = size) : (xs.flatMap write).length = size * xs.length := by
  simp [List.length_flatMap, h, Nat.mul_comm]

theorem sized_of_length {α : Type} {body : List Byte} {n : Nat} {a b : α} (h : body.length = n) (hab : a = b) :
    sized body n a = .fields b := by rw [← hab]; exact if_pos h

/-- A body whose count reads back as `k` has the length its layout gives `k` items. -/
theorem counted_of_length {α : Type} {body : List Byte} {min n : Nat} {a b : α} (h : body.length = n) (hmin : min ≤ n)
    (hab : a = b) : counted body min n a = .fields b := by rw [← hab]; exact if_pos ⟨h ▸ hmin, h⟩

/-! ### Layouts -/

theorem dayConfig_reads {r : DayConfigReq} (h : dayConfigOk r = true) :
    sized (dayConfigBytes r) 14
      { offset := fieldAt (dayConfigBytes r) 0 4, nightStart := optAt (dayConfigBytes r) 4 4 0xFFFFFFFF
        openTime := optAt (dayConfigBytes r) 8 4 0xFFFFFFFF, matchWindow := fieldAt (dayConfigBytes r) 12 2 } =
      .fields r := by
  simp only [dayConfigOk, Bool.and_eq_true] at h
  obtain ⟨⟨⟨hoff, hnight⟩, hopen⟩, hwin⟩ := h
  refine sized_of_length rfl ?_
  simp [dayConfigBytes, optTime, *]

theorem callLoad_reads {r : CallLoadReq} (h : callLoadOk r = true) :
    counted (callLoadBytes r) 23 (23 + 2 * fieldAt (callLoadBytes r) 22 1) (callLoadOf (callLoadBytes r)) = .fields r ∧
      (callLoadBytes r).length ≤ 248 := by
  simp only [callLoadOk, Bool.and_eq_true, decide_eq_true_eq] at h
  obtain ⟨⟨⟨⟨⟨⟨⟨⟨⟨⟨⟨⟨hid, hday⟩, hkind⟩, hzone⟩, hsa⟩, hsd⟩, hoa⟩, hdest⟩, horigin⟩, hcls⟩, hplan⟩, hlen⟩, hcalling⟩ := h
  have hcount : byteOk r.calling.length = true := decide_eq_true (by omega)
  have hcalls : itemsAt (r.calling.flatMap u16) 0 2 r.calling.length (fun bs => fieldAt bs 0 2) = r.calling :=
    itemsAt_flatMap fun p hp => ⟨rfl, beValue_u16 (List.all_eq_true.mp hcalling p hp)⟩
  have hlength : (r.calling.flatMap u16).length = 2 * r.calling.length := length_flatMap_of_size fun _ => rfl
  have htotal : (callLoadBytes r).length = 23 + 2 * r.calling.length := by
    simp [callLoadBytes, optPhrase, hlength]; omega
  refine ⟨counted_of_length ?_ (Nat.le_add_right _ _) ?_, by omega⟩
  · rw [htotal]; simp [callLoadBytes, optPhrase, hcount]
  · simp [callLoadOf, callLoadBytes, optPhrase, *]

/-- A delay after its presence byte; an absent one still takes its bytes. -/
theorem delay_reads {d : Option Int} (h : optSignedOk d = true) :
    (if d.isSome = true then some (BitVec.ofNat 32 (beValue (u32 (BitVec.ofInt 32 (d.getD 0)).toNat))).toInt else none) =
      d := by
  cases d with
  | none => rfl
  | some x => exact congrArg some (i32_reads h)

/-- The body of CALL_DELAY (R26). -/
def delayReqBytes (r : CallDelayReq) : List Byte := u16 r.id ++ delayBytes r.arrival ++ delayBytes r.departure

theorem callDelay_reads {r : CallDelayReq}
    (h : (wordOk r.id && optSignedOk r.arrival && optSignedOk r.departure) = true) :
    sized (delayReqBytes r) 12 { id := fieldAt (delayReqBytes r) 0 2, arrival := delayAt (delayReqBytes r) 2
                                 departure := delayAt (delayReqBytes r) 7 } = .fields r := by
  simp only [Bool.and_eq_true] at h
  obtain ⟨⟨hid, ha⟩, hd⟩ := h
  refine sized_of_length rfl ?_
  simp only [delayAt, flagAt, signedAt, delayReqBytes, delayBytes, flag, i32, List.append_assoc, fieldAt_past_u8,
    fieldAt_past_u16, fieldAt_past_u32, fieldAt_u8_append, fieldAt_u16_append, fieldAt_u32_append, fieldAt_u32,
    beValue_u8 (byteOk_bool _), flag_reads, Nat.reduceMul, delay_reads ha, delay_reads hd, beValue_u16 hid]

theorem cue_reads {q : RawCue} (h : cueOk q = true) : cueOf (cueBytes q) = q := by
  simp only [cueOk, Bool.and_eq_true, decide_eq_true_eq] at h
  obtain ⟨⟨⟨⟨⟨⟨⟨⟨⟨⟨hanchor, hoffset⟩, htemplate⟩, hpriority⟩, htarget⟩, haddress⟩, hmask⟩, hrepeats⟩, hinterval⟩, hexpiry⟩,
    hlate⟩ := h
  have ha : wordOk q.address = true := decide_eq_true (by omega)
  have hm : wordOk q.mask = true := decide_eq_true (by omega)
  simp [cueOf, cueBytes, signedAt, i16, -BitVec.toNat_ofInt, Nat.mod_eq_of_lt haddress, Nat.mod_eq_of_lt hmask, *]

theorem planSet_reads {r : PlanSetReq} (h : planSetOk r = true) :
    counted (planSetBytes r) 4 (4 + 17 * fieldAt (planSetBytes r) 3 1)
      { plan := fieldAt (planSetBytes r) 0 1, threshold := fieldAt (planSetBytes r) 1 2
        cues := itemsAt (planSetBytes r) 4 17 (fieldAt (planSetBytes r) 3 1) cueOf } = .fields r ∧
      (planSetBytes r).length ≤ 248 := by
  simp only [planSetOk, Bool.and_eq_true, decide_eq_true_eq] at h
  obtain ⟨⟨⟨hplan, hthreshold⟩, hlen⟩, hcues⟩ := h
  have hcount : byteOk r.cues.length = true := decide_eq_true (by omega)
  have hitems : itemsAt (r.cues.flatMap cueBytes) 0 17 r.cues.length cueOf = r.cues :=
    itemsAt_flatMap fun q hq => ⟨rfl, cue_reads (List.all_eq_true.mp hcues q hq)⟩
  have hlength : (r.cues.flatMap cueBytes).length = 17 * r.cues.length := length_flatMap_of_size fun _ => rfl
  have htotal : (planSetBytes r).length = 4 + 17 * r.cues.length := by
    simp [planSetBytes, hlength]; omega
  refine ⟨counted_of_length ?_ (Nat.le_add_right _ _) ?_, by omega⟩
  · rw [htotal]; simp [planSetBytes, hcount]
  · simp [planSetBytes, *]

/-- The body that INPUT_CONFIG's function leaves: its code with its parameters, and the two flags. -/
theorem functionOf_bytes {f : RawFunction} (h : functionOk f = true) (i p e d : Nat) (rest : List Byte) :
    functionOf (u8 i ++ (u8 p ++ (u8 e ++ (u16 d ++ (functionBytes f ++ rest))))) = f := by
  cases f with
  | general => simp [functionOf, functionBytes]; rfl
  | trainDetect z => simp [functionOf, functionBytes, beValue_u8 (n := z) h]; rfl
  | dispatch z => simp [functionOf, functionBytes, beValue_u8 (n := z) h]; rfl
  | platformClose z => simp [functionOf, functionBytes, beValue_u8 (n := z) h]; rfl
  | firePanel a m t i =>
    simp only [functionOk, Bool.and_eq_true] at h
    obtain ⟨⟨⟨ha, hm⟩, ht⟩, hi⟩ := h
    simp [functionOf, functionBytes, *]; rfl
  | unknown k =>
    simp only [functionOk, Bool.and_eq_true, Bool.or_eq_true, decide_eq_true_eq] at h
    simp only [functionOf, functionBytes, fieldAt_past_u8, fieldAt_past_u16, fieldAt_u8_append, beValue_u8 h.1]
    split
    · omega
    · omega
    · omega
    · omega
    · omega
    · rfl

theorem inputConfig_reads {r : InputConfigReq} (h : inputConfigOk r = true) :
    inputConfigOf (inputConfigBytes r) = .fields r := by
  obtain ⟨input, polarity, sense, debounce, f, notice, wake⟩ := r
  simp only [inputConfigOk, Bool.and_eq_true] at h
  obtain ⟨⟨⟨⟨hinput, hpolarity⟩, hsense⟩, hdebounce⟩, hfunction⟩ := h
  unfold inputConfigOf inputConfigBytes
  simp only [List.append_assoc, functionOf_bytes hfunction]
  have hlen : functionLength f (u8 input ++ (u8 polarity ++ (u8 sense ++ (u16 debounce ++ (functionBytes f ++
      (flag notice ++ flag wake)))))).length = true := by
    cases f <;> rfl
  rw [if_pos hlen]
  cases f <;> simp [functionBytes, functionWidth, flagAt, flag, hinput, hpolarity, hsense, hdebounce]

theorem inputConfigBytes_length_le (r : InputConfigReq) : (inputConfigBytes r).length ≤ 248 := by
  unfold inputConfigBytes
  cases r.function with
  | general | unknown => exact (by decide : 8 ≤ 248)
  | trainDetect | dispatch | platformClose => exact (by decide : 9 ≤ 248)
  | firePanel => exact (by decide : 15 ≤ 248)

theorem phrase_reads {p : PhraseReq} (h : phraseOk p = true) : phraseOf (phraseBytes p) = p := by
  simp only [phraseOk, Bool.and_eq_true] at h
  obtain ⟨⟨hid, hduration⟩, hlocation⟩ := h
  simp [phraseOf, phraseBytes, *]

theorem phraseSet_reads {ps : List PhraseReq} (h : (decide (ps.length ≤ 30) && ps.all phraseOk) = true) :
    counted (u8 ps.length ++ ps.flatMap phraseBytes) 1 (1 + 8 * fieldAt (u8 ps.length ++ ps.flatMap phraseBytes) 0 1)
      (itemsAt (u8 ps.length ++ ps.flatMap phraseBytes) 1 8 (fieldAt (u8 ps.length ++ ps.flatMap phraseBytes) 0 1)
        phraseOf) = .fields ps ∧ (u8 ps.length ++ ps.flatMap phraseBytes).length ≤ 248 := by
  simp only [Bool.and_eq_true, decide_eq_true_eq] at h
  have hcount : byteOk ps.length = true := decide_eq_true (by omega)
  have hitems : itemsAt (ps.flatMap phraseBytes) 0 8 ps.length phraseOf = ps :=
    itemsAt_flatMap fun p hp => ⟨rfl, phrase_reads (List.all_eq_true.mp h.2 p hp)⟩
  have hlength : (ps.flatMap phraseBytes).length = 8 * ps.length := length_flatMap_of_size fun _ => rfl
  refine ⟨counted_of_length ?_ (Nat.le_add_right _ _) ?_, by simp [hlength]; omega⟩
  · simp [hcount, hlength]
  · simp [hcount, hitems]

theorem token_reads {t : RawToken} (h : (byteOk t.code && wordOk t.param) = true) : tokenOf (tokenBytes t) = t := by
  simp only [Bool.and_eq_true] at h
  simp [tokenOf, tokenBytes, h.1, h.2]

/-- What a token list's count and tokens read back as, and the length it takes. -/
theorem tokens_read {limit : Nat} {ts : List RawToken} (h : tokensOk limit ts = true) (hlimit : limit < 256) :
    byteOk ts.length = true ∧ itemsAt (ts.flatMap tokenBytes) 0 3 ts.length tokenOf = ts ∧
      (ts.flatMap tokenBytes).length = 3 * ts.length := by
  simp only [tokensOk, Bool.and_eq_true, decide_eq_true_eq, List.all_eq_true] at h
  exact ⟨decide_eq_true (by omega), itemsAt_flatMap fun t ht => ⟨rfl, token_reads (by simpa using h.2 t ht)⟩,
    length_flatMap_of_size fun _ => rfl⟩

theorem header_reads {h : HeaderReq} (hok : headerOk h = true) (rest : List Byte) :
    headerOf (headerBytes h ++ rest) = h := by
  simp only [headerOk, Bool.and_eq_true] at hok
  obtain ⟨⟨⟨⟨⟨⟨⟨hpriority, haddress⟩, hmask⟩, hchime⟩, hrepeats⟩, hinterval⟩, hlatest⟩, hcall⟩ := hok
  have hl : latestAt (headerBytes h ++ rest) 10 = h.latestStart := by
    simp only [latestAt, signedAt, headerBytes, optLatest, optPhrase, optCall, i32, List.append_assoc, fieldAt_past_u8,
      fieldAt_past_u16, fieldAt_u32_append, Nat.reduceMul]
    cases hs : h.latestStart with
    | none => exact if_pos (beValue_u32 (longOk_toNat _))
    | some t =>
      rw [hs, latestOk, Bool.and_eq_true, decide_eq_true_eq] at hlatest
      rw [Option.getD_some, i32_reads hlatest.1, if_neg]
      rw [beValue_u32 (longOk_toNat _)]
      intro heq
      refine hlatest.2 ?_
      rw [← toInt_ofInt (w := 32) (by decide) hlatest.1, BitVec.toInt, heq]; rfl
  unfold headerOf
  rw [hl]
  simp [headerBytes, optPhrase, optLatest, i32, optCall, *]

theorem templateSet_reads {r : TemplateSetReq} (h : (byteOk r.template && tokensOk 82 r.tokens) = true) :
    counted (u8 r.template ++ tokenList r.tokens) 2 (tokensEnd (u8 r.template ++ tokenList r.tokens) 1)
      { template := fieldAt (u8 r.template ++ tokenList r.tokens) 0 1
        tokens := tokensAt (u8 r.template ++ tokenList r.tokens) 1 } = .fields r := by
  simp only [Bool.and_eq_true] at h
  obtain ⟨hcount, hitems, hlength⟩ := tokens_read h.2 (by decide)
  refine counted_of_length ?_ ?_ ?_
  · simp [tokensEnd, tokenList, *]; omega
  · simp [tokensEnd, tokenList, *]
  · simp [tokensAt, tokenList, *]

theorem announce_reads {r : AnnounceReq} (h : (headerOk r.header && tokensOk 77 r.tokens) = true) :
    counted (headerBytes r.header ++ tokenList r.tokens) 17 (tokensEnd (headerBytes r.header ++ tokenList r.tokens) 16)
      { header := headerOf (headerBytes r.header ++ tokenList r.tokens)
        tokens := tokensAt (headerBytes r.header ++ tokenList r.tokens) 16 } = .fields r := by
  simp only [Bool.and_eq_true] at h
  obtain ⟨hcount, hitems, hlength⟩ := tokens_read h.2 (by decide)
  rw [header_reads h.1]
  refine counted_of_length ?_ ?_ ?_
  · simp [tokensEnd, tokenList, headerBytes, optPhrase, optLatest, optCall, i32, *]; omega
  · simp [tokensEnd, tokenList, headerBytes, optPhrase, optLatest, optCall, i32, *]
  · simp [tokensAt, tokenList, headerBytes, optPhrase, optLatest, optCall, i32, *]

theorem composePart_reads {ts : List RawToken} (h : tokensOk 82 ts = true) :
    counted (tokenList ts) 1 (tokensEnd (tokenList ts) 0) (tokensAt (tokenList ts) 0) = .fields ts := by
  obtain ⟨hcount, hitems, hlength⟩ := tokens_read h (by decide)
  refine counted_of_length ?_ ?_ ?_
  · simp [tokensEnd, tokenList, *]
  · simp [tokensEnd, tokenList, *]
  · simp [tokensAt, tokenList, *]

theorem zoneConfig_reads {r : ZoneConfigReq} (h : zoneConfigOk r = true) :
    sized (zoneConfigBytes r) 14 (zoneConfigOf (zoneConfigBytes r)) = .fields r := by
  simp only [zoneConfigOk, Bool.and_eq_true] at h
  obtain ⟨⟨⟨⟨⟨⟨⟨⟨⟨⟨hzone, haddress⟩, hkind⟩, hname⟩, hg0⟩, hgmin⟩, hgmax⟩, hnref⟩, hslope⟩, hmode⟩, hthreshold⟩ := h
  refine sized_of_length rfl ?_
  simp [zoneConfigOf, zoneConfigBytes, flagAt, signedAt, flag, i8, optPhrase, -BitVec.toNat_ofInt, *]

theorem channelRead_reads {r : ChannelReadReq} (h : channelReadOk r = true) :
    channelReadOf (channelReadBytes r) = .fields r := by
  obtain ⟨channel, code, start⟩ := r
  simp only [channelReadOk, Bool.and_eq_true, Bool.or_eq_true, decide_eq_true_eq] at h
  obtain ⟨⟨⟨hchannel, hcode⟩, hstart⟩, hlong⟩ := h
  unfold channelReadOf channelReadBytes
  by_cases hs : code = 3 ∨ start ≠ 0
  · have hlength : code = 3 ∨ channel = none := by
      obtain (h3 | h0) | hnone := hlong
      · exact .inl h3
      · exact .inl (hs.resolve_right (absurd h0))
      · exact .inr hnone
    rw [if_pos hs]
    simp [optNumber, *]
  · obtain ⟨hshort, hzero⟩ := not_or.mp hs
    rw [if_neg hs]
    simp [optNumber, not_not.mp hzero, *]

/-! ### Every request reads back (R167) -/

/-- What a request frame can carry: a kind the host sends, and a body its LEN can count. -/
structure Framed (r : Request) : Prop where
  kind : 1 ≤ r.kind ∧ r.kind < 128
  body : r.body.length ≤ 248
  fresh : r.answered = false

/-- A request whose kind reads its layout back reads back as its command, and fits a frame. -/
theorem decodeRequest_of_reads {α : Type} {ok : α → Bool} {kind : Nat} {tag : Byte} {bad : List Byte} {f : α → List Byte}
    {b : Body α} {r : Request} {mk : Byte → Body α → Instr} {rd : List Byte → Body α}
    (hr : request kind tag (bodyBytes bad f b) = some r) (hb : bodyOk ok b = true)
    (hmk : ∀ body, decodeRequest { kind := kind, tag := tag, body := body, answered := false } = mk tag (rd body))
    (hkind : 1 ≤ kind ∧ kind < 128) (hbad : rd bad = .malformed ∧ bad.length ≤ 248)
    (hread : ∀ a, ok a = true → rd (f a) = .fields a) (hlen : ∀ a, ok a = true → (f a).length ≤ 248) :
    decodeRequest r = mk tag b ∧ Framed r := by
  cases hr
  cases b with
  | malformed => exact ⟨(hmk _).trans (congrArg (mk tag) hbad.1), hkind, hbad.2, rfl⟩
  | fields a => exact ⟨(hmk _).trans (congrArg (mk tag) (hread a hb)), hkind, hlen a hb, rfl⟩

theorem bodyOk_true {α : Type} (b : Body α) : bodyOk (fun _ => true) b = true := by
  cases b <;> rfl

/-- A request without fields. -/
theorem decodeRequest_of_empty {kind : Nat} {tag : Byte} {b : Body Unit} {r : Request} {mk : Byte → Body Unit → Instr}
    (hr : request kind tag (emptyBody b) = some r)
    (hmk : ∀ body, decodeRequest { kind := kind, tag := tag, body := body, answered := false } =
      mk tag (sized body 0 ()))
    (hkind : 1 ≤ kind ∧ kind < 128) : decodeRequest r = mk tag b ∧ Framed r :=
  decodeRequest_of_reads hr (bodyOk_true b) hmk hkind ⟨rfl, by decide⟩ (fun _ _ => rfl) (fun _ _ => by decide)

theorem decodeRequest_of_unknown {kind : Nat} (h : kind ∉ knownKinds) (tag : Byte) (body : List Byte) :
    decodeRequest { kind := kind, tag := tag, body := body, answered := false } = .unknownKind tag kind := by
  simp only [knownKinds, List.cons_append, List.nil_append, List.mem_cons, List.not_mem_nil, or_false, not_or] at h
  unfold decodeRequest
  split
  case h_40 => rfl
  all_goals exact absurd ‹kind = _› (by tauto)

theorem length_tokenList_le {limit : Nat} {ts : List RawToken} (h : tokensOk limit ts = true) :
    (tokenList ts).length ≤ 1 + 3 * limit := by
  simp only [tokensOk, Bool.and_eq_true, decide_eq_true_eq] at h
  have hlen : (ts.flatMap tokenBytes).length = 3 * ts.length := length_flatMap_of_size fun _ => rfl
  simp only [tokenList, List.length_append, length_u8, hlen]
  omega

/-- A well-formed request command reads back from its request, which fits a frame: each kind by its layout. -/
theorem requestOf_reads {c : Instr} {r : Request} (hc : wellFormed c = true) (hr : requestOf c = some r) :
    decodeRequest r = c ∧ Framed r := by
  cases c with
  | powerOn | resetAssert | resetRelease | frameReceived | interByteTimeout | frameTransmitted | secondOfStationTime |
      debounceExpiry | composeCheckCompletion | restEnd | ambientSample | phraseCompletion | gapEnd | lampPulseEnd |
      warmUpEnd | alertHoldExpiry | tenthOfRunTime | inputSampling => cases hr
  | unknownKind t k =>
    cases hr
    simp only [wellFormed, Bool.and_eq_true, decide_eq_true_eq] at hc
    exact ⟨decodeRequest_of_unknown hc.2 t [], ⟨hc.1.1, Nat.lt_succ_of_le hc.1.2⟩, Nat.zero_le _, rfl⟩
  | identify | statusRead | restart | clockHold | clockRelease | clockRead =>
    exact decodeRequest_of_empty hr (fun _ => rfl) (by decide)
  | linkConfig t b | storeRead t b | zoneState t b | modeSet t b =>
    refine decodeRequest_of_reads hr hc (fun _ => rfl) (by decide) ⟨rfl, by decide⟩ (fun a ha => ?_)
      (fun _ _ => (by decide : 2 ≤ 248))
    simp only [Bool.and_eq_true] at ha
    exact sized_of_length rfl (by simp [ha.1, ha.2])
  | callPlatform t b =>
    refine decodeRequest_of_reads hr hc (fun _ => rfl) (by decide) ⟨rfl, by decide⟩ (fun a ha => ?_)
      (fun _ _ => (by decide : 3 ≤ 248))
    simp only [Bool.and_eq_true] at ha
    exact sized_of_length rfl (by simp [ha.1, ha.2])
  | callReport t b =>
    refine decodeRequest_of_reads hr hc (fun _ => rfl) (by decide) ⟨rfl, by decide⟩ (fun a ha => ?_)
      (fun _ _ => (by decide : 7 ≤ 248))
    simp only [Bool.and_eq_true] at ha
    exact sized_of_length rfl (by simp [ha.1.1, ha.1.2, ha.2])
  | evacStart t b =>
    refine decodeRequest_of_reads hr hc (fun _ => rfl) (by decide) ⟨rfl, by decide⟩ (fun a ha => ?_)
      (fun _ _ => (by decide : 7 ≤ 248))
    simp only [Bool.and_eq_true] at ha
    exact sized_of_length rfl (by simp [ha.1.1.1, ha.1.1.2, ha.1.2, ha.2])
  | callDelete t b | callCancel t b | callRead t b | callList t b =>
    exact decodeRequest_of_reads hr hc (fun _ => rfl) (by decide) ⟨rfl, by decide⟩
      (fun a ha => sized_of_length rfl (by simp [ha])) (fun _ _ => (by decide : 2 ≤ 248))
  | clockSet t b =>
    exact decodeRequest_of_reads hr hc (fun _ => rfl) (by decide) ⟨rfl, by decide⟩
      (fun a ha => sized_of_length rfl (by simp [ha])) (fun _ _ => (by decide : 4 ≤ 248))
  | withdraw t b | evacClear t b | playoutConfig t b =>
    exact decodeRequest_of_reads hr hc (fun _ => rfl) (by decide) ⟨rfl, by decide⟩
      (fun a ha => sized_of_length rfl (by simp [ha])) (fun _ _ => (by decide : 1 ≤ 248))
  | inputRead t b | zoneRead t b =>
    exact decodeRequest_of_reads hr hc (fun _ => rfl) (by decide) ⟨rfl, by decide⟩
      (fun a ha => sized_of_length rfl (by simp [optNumber, ha])) (fun _ _ => (by decide : 1 ≤ 248))
  | noticeMask t b =>
    exact decodeRequest_of_reads hr (bodyOk_true b) (fun _ => rfl) (by decide) ⟨rfl, by decide⟩
      (fun a _ => sized_of_length rfl (by simp)) (fun _ _ => (by decide : 2 ≤ 248))
  | inputClear t b | groupSet t b =>
    exact decodeRequest_of_reads hr (bodyOk_true b) (fun _ => rfl) (by decide) ⟨rfl, by decide⟩
      (fun a _ => sized_of_length rfl (by simp)) (fun _ _ => (by decide : 4 ≤ 248))
  | composeBegin t b =>
    exact decodeRequest_of_reads hr (bodyOk_true b) (fun _ => rfl) (by decide) ⟨rfl, by decide⟩
      (fun a _ => sized_of_length rfl (by simp [flagAt, flag])) (fun _ _ => (by decide : 1 ≤ 248))
  | dayConfig t b =>
    exact decodeRequest_of_reads hr hc (fun _ => rfl) (by decide) ⟨rfl, by decide⟩ (fun a ha => dayConfig_reads ha)
      (fun _ _ => (by decide : 14 ≤ 248))
  | zoneConfig t b =>
    exact decodeRequest_of_reads hr hc (fun _ => rfl) (by decide) ⟨rfl, by decide⟩ (fun a ha => zoneConfig_reads ha)
      (fun _ _ => (by decide : 14 ≤ 248))
  | callDelay t b =>
    exact decodeRequest_of_reads hr hc (fun _ => rfl) (by decide) ⟨rfl, by decide⟩ (fun a ha => callDelay_reads ha)
      (fun _ _ => (by decide : 12 ≤ 248))
  | callLoad t b =>
    exact decodeRequest_of_reads hr hc (fun _ => rfl) (by decide) ⟨rfl, by decide⟩ (fun a ha => (callLoad_reads ha).1)
      (fun a ha => (callLoad_reads ha).2)
  | planSet t b =>
    exact decodeRequest_of_reads hr hc (fun _ => rfl) (by decide) ⟨rfl, by decide⟩ (fun a ha => (planSet_reads ha).1)
      (fun a ha => (planSet_reads ha).2)
  | inputConfig t b =>
    exact decodeRequest_of_reads hr hc (fun _ => rfl) (by decide) ⟨rfl, by decide⟩ (fun a ha => inputConfig_reads ha)
      (fun a _ => inputConfigBytes_length_le a)
  | phraseSet t b =>
    exact decodeRequest_of_reads hr hc (fun _ => rfl) (by decide) ⟨rfl, by decide⟩ (fun a ha => (phraseSet_reads ha).1)
      (fun a ha => (phraseSet_reads ha).2)
  | templateSet t b =>
    refine decodeRequest_of_reads hr hc (fun _ => rfl) (by decide) ⟨rfl, by decide⟩ (fun a ha => templateSet_reads ha)
      (fun a ha => ?_)
    simp only [Bool.and_eq_true] at ha
    have := length_tokenList_le ha.2
    simp only [List.length_append, length_u8]
    omega
  | announce t b =>
    refine decodeRequest_of_reads hr hc (fun _ => rfl) (by decide) ⟨rfl, by decide⟩ (fun a ha => announce_reads ha)
      (fun a ha => ?_)
    simp only [Bool.and_eq_true] at ha
    have := length_tokenList_le ha.2
    rw [List.length_append, show (headerBytes a.header).length = 16 from rfl]
    omega
  | composePart t b =>
    exact decodeRequest_of_reads hr hc (fun _ => rfl) (by decide) ⟨rfl, by decide⟩ (fun a ha => composePart_reads ha)
      (fun a ha => (length_tokenList_le ha).trans (by decide))
  | composeEnd t b =>
    refine decodeRequest_of_reads hr hc (fun _ => rfl) (by decide) ⟨rfl, by decide⟩
      (fun a ha => sized_of_length rfl ?_) (fun _ _ => (by decide : 16 ≤ 248))
    have := header_reads ha []
    rwa [List.append_nil] at this
  | channelRead t b =>
    refine decodeRequest_of_reads hr hc (fun _ => rfl) (by decide) ⟨rfl, by decide⟩ (fun a ha => channelRead_reads ha)
      (fun a _ => ?_)
    unfold channelReadBytes
    split
    · exact (by decide : 3 ≤ 248)
    · exact (by decide : 2 ≤ 248)

/-- Settles O5: every layout reads back (`requestOf_reads`). -/
theorem requestBodiesReadBack : Obligations.RequestBodiesReadBack := by
  unfold Obligations.RequestBodiesReadBack
  exact fun c r hc hr => (requestOf_reads hc hr).1

/-! ### A frame received byte by byte (R156, R157) -/

/-- A byte as it arrives without a framing error. -/
def arriving (b : Byte) : RxByte := { value := b, framingError := false }

/-- The part with a frame in reception, the bytes from LEN on being `bytes`. -/
def receiving (bytes : List Byte) (s : State) : State := s.withLnk { s.lnk with receiver := .inFrame bytes }

theorem receiveByte_of_inFrame {s : State} {bytes : List Byte} (h : s.lnk.receiver = .inFrame bytes) (b : RxByte) :
    receiveByte b s = takeByte b bytes s := by
  unfold receiveByte; rw [h]

/-- START opens a frame. -/
theorem receiveByte_of_start {s : State} (h : s.lnk.receiver = .hunting) :
    receiveByte (arriving startByte) s = receiving [] s := by
  unfold receiveByte; rw [h]; rfl

/-- A byte without a framing error is judged by LEN, and completes the frame at the place LEN gives CHECK. -/
theorem takeByte_of_sound {b : RxByte} (h : b.framingError = false) (bytes : List Byte) (s : State) :
    takeByte b bytes s =
      if fieldAt (bytes ++ [b.value]) 0 1 < 2 ∨ 250 < fieldAt (bytes ++ [b.value]) 0 1 then discard .length 0 0 s
      else if (bytes ++ [b.value]).length = fieldAt (bytes ++ [b.value]) 0 1 + 2 then completeFrame (bytes ++ [b.value]) s
      else receiving (bytes ++ [b.value]) s := by
  unfold takeByte; rw [h]; rfl

/-- A byte of a frame before its CHECK is kept. -/
theorem takeByte_of_middle {b : Byte} {bytes : List Byte} {len : Nat} {s : State}
    (hlen : fieldAt (bytes ++ [b]) 0 1 = len) (hrange : 2 ≤ len ∧ len ≤ 250) (hshort : bytes.length + 1 < len + 2) :
    takeByte (arriving b) bytes s = receiving (bytes ++ [b]) s := by
  rw [takeByte_of_sound rfl]
  simp only [arriving, hlen]
  rw [if_neg (by omega), if_neg (by rw [List.length_append, List.length_singleton]; omega)]

theorem fieldAt_first {b : Byte} (bs : List Byte) : fieldAt (b :: bs) 0 1 = b.toNat := by
  simp [fieldAt, beValue]

/-- The bytes of a frame after LEN and before its CHECK are kept, one after the other. -/
theorem receive_middle {l : Byte} (hrange : 2 ≤ l.toNat ∧ l.toNat ≤ 250) (s : State) :
    ∀ (bs pre : List Byte), pre.length + bs.length < l.toNat + 1 →
      forEach (bs.map arriving) receiveByte (receiving (l :: pre) s) = receiving (l :: (pre ++ bs)) s
  | [], pre, _ => by rw [List.append_nil]; rfl
  | b :: bs, pre, h => by
    rw [List.length_cons] at h
    have hbyte : receiveByte (arriving b) (receiving (l :: pre) s) = receiving (l :: (pre ++ [b])) s :=
      (receiveByte_of_inFrame rfl _).trans
        (takeByte_of_middle (fieldAt_first (pre ++ [b])) hrange (by rw [List.length_cons]; omega))
    have hrest := receive_middle hrange s bs (pre ++ [b])
      (by rw [List.length_append, List.length_singleton]; omega)
    rw [List.append_assoc, List.singleton_append] at hrest
    rw [← hrest, ← hbyte]; rfl

theorem checkByte_toNat (bytes : List Byte) :
    ((bytes.map BitVec.toNat).sum + (checkByte bytes).toNat) % 256 = 0 := by
  unfold checkByte
  rw [BitVec.toNat_ofNat]
  have : (256 - (bytes.map BitVec.toNat).sum % 256) % 2 ^ 8 = (256 - (bytes.map BitVec.toNat).sum % 256) % 256 := rfl
  omega

theorem frameBody_append (l k t : Byte) (body : List Byte) (b : Byte) : frameBody (l :: k :: t :: (body ++ [b])) = body := by
  simp [frameBody]

/-- The faults of a complete frame, in their order, and the request that one without fault leaves. -/
theorem completeFrame_eq (l k t c : Byte) (body : List Byte) (s : State) :
    completeFrame (l :: k :: t :: (body ++ [c])) s =
      if (l.toNat + k.toNat + t.toNat + (body.map BitVec.toNat).sum + c.toNat) % 256 ≠ 0 then discard .check k.toNat t s
      else if k.toNat = 0 ∨ 128 ≤ k.toNat then discard .direction k.toNat t s
      else if 4 ≤ s.lnk.queue.length then discard .overrun k.toNat t s
      else s.withLnk (enqueue { kind := k.toNat, tag := t, body := body, answered := false } (hunt s.lnk)) := by
  have hk : fieldAt (l :: k :: t :: (body ++ [c])) 1 1 = k.toNat := fieldAt_first (b := k) (t :: (body ++ [c]))
  have hsum : checkGood (l :: k :: t :: (body ++ [c])) =
      decide ((l.toNat + k.toNat + t.toNat + (body.map BitVec.toNat).sum + c.toNat) % 256 = 0) := by
    refine decide_eq_decide.mpr ?_
    simp only [List.map_cons, List.map_append, List.map_nil, List.sum_cons, List.sum_append, List.sum_nil, Nat.add_zero,
      Nat.add_assoc]
  unfold completeFrame
  simp only [hk, hsum, frameBody_append, decide_eq_false_iff_not]
  rfl

/-- A frame whose check is good, of a request's kind, enters the queue that has room for it. -/
theorem completeFrame_of_good {l k t c : Byte} {body : List Byte} {s : State}
    (hcheck : (l.toNat + k.toNat + t.toNat + (body.map BitVec.toNat).sum + c.toNat) % 256 = 0)
    (hkind : 1 ≤ k.toNat ∧ k.toNat < 128) (hroom : s.lnk.queue.length < 4) :
    completeFrame (l :: k :: t :: (body ++ [c])) s =
      s.withLnk (enqueue { kind := k.toNat, tag := t, body := body, answered := false } (hunt s.lnk)) := by
  rw [completeFrame_eq, if_neg (not_not.mpr hcheck), if_neg (by omega), if_neg (Nat.not_le.mpr hroom)]

/-- The whole frame of a request that fits one, received while HUNTING, leaves the request in the queue. -/
theorem receive_requestFrame {r : Request} (hr : Framed r) {s : State} (hhunt : s.lnk.receiver = .hunting)
    (hroom : s.lnk.queue.length < 4) :
    forEach (requestFrame r) receiveByte s = s.withLnk { s.lnk with queue := s.lnk.queue ++ [r] } := by
  obtain ⟨kind, tag, body, answered⟩ := r
  obtain ⟨hkind, hbody, rfl⟩ := hr
  dsimp only at hkind hbody
  set l : Byte := BitVec.ofNat 8 (body.length + 2) with hl
  set k : Byte := BitVec.ofNat 8 kind with hk
  have hlen : l.toNat = body.length + 2 := by rw [hl, BitVec.toNat_ofNat]; omega
  have hknat : k.toNat = kind := by rw [hk, BitVec.toNat_ofNat]; omega
  have hframe : requestFrame ⟨kind, tag, body, false⟩ =
      arriving startByte :: arriving l :: ((k :: tag :: body).map arriving ++
        [arriving (checkByte (l :: k :: tag :: body))]) := by
    have hu : ∀ n, u8 n = [BitVec.ofNat 8 n] := fun n => by simp [u8, beBytes]
    simp only [requestFrame, frameBytes, hu, ← hl, ← hk, List.cons_append, List.nil_append,
      List.map_cons, List.map_append, List.map_nil]
    rfl
  have hstart : receiveByte (arriving l) (receiveByte (arriving startByte) s) = receiving [l] s := by
    rw [receiveByte_of_start hhunt, receiveByte_of_inFrame rfl]
    exact takeByte_of_middle (fieldAt_first []) (by omega) (by simp)
  have hmiddle := receive_middle (l := l) (by omega) s (k :: tag :: body) [] (by simp; omega)
  have hcheck : receiveByte (arriving (checkByte (l :: k :: tag :: body))) (receiving (l :: k :: tag :: body) s) =
      s.withLnk { s.lnk with queue := s.lnk.queue ++ [⟨kind, tag, body, false⟩] } := by
    rw [receiveByte_of_inFrame rfl]
    rw [takeByte_of_sound rfl]
    simp only [arriving, List.cons_append, fieldAt_first, hlen]
    rw [if_neg (by omega), if_pos (by simp), completeFrame_of_good (s := receiving (l :: k :: tag :: body) s)
      (by simpa [Nat.add_assoc] using checkByte_toNat (l :: k :: tag :: body)) (by omega) hroom, hknat]
    show s.withLnk { s.lnk with receiver := .hunting, queue := s.lnk.queue ++ [⟨kind, tag, body, false⟩] } = _
    rw [← hhunt]
  rw [hframe]
  unfold forEach at hmiddle ⊢
  rw [List.foldl_cons, List.foldl_cons, hstart, List.foldl_append, hmiddle]
  exact hcheck

/-- Settles O6: the frame brings its request (`receive_requestFrame`), and the queue hands it, none before it being
unanswered. -/
theorem receivedFramesHandTheirRequests : Obligations.ReceivedFramesHandTheirRequests := by
  unfold Obligations.ReceivedFramesHandTheirRequests
  intro c r s hc hr hreset hhunt hroom hanswered
  obtain ⟨hdecode, hframed⟩ := requestOf_reads hc hr
  refine ⟨s.withLnk { s.lnk with queue := s.lnk.queue ++ [r] }, ?_, ?_, rfl⟩
  · rw [exec_of_event rfl]
    refine congrArg Host.Outcome.next ((if_neg (by simp [hreset])).trans ?_)
    exact receive_requestFrame hframed hhunt hroom
  · refine takeRequest_eq_some.mpr ⟨hreset, .inl ⟨r, ?_, hdecode, rfl⟩⟩
    exact find_unanswered hanswered hframed.fresh

end Sys2Proof.Machine


/-! PROOFS. Events of a part out of reset; the faults of the receiver (R157) and the ends of frames (R160, R165). -/

namespace Sys2Proof.Machine

open Sys2Proof.Claims

/-- An event that the part takes only out of reset does there what it does. -/
theorem exec_of_running {c : Instr} (hc : requestOf c = none)
    (hlive : ∀ s, eventAfter c s = if s.resetLine then stated c s else happens c s) {s : State}
    (hs : s.resetLine = false) : exec c s = .next (happens c s) := by
  rw [exec_of_event hc, hlive, hs]; rfl

/-! ### The receiver's faults -/

theorem receiveByte_of_hunting {b : RxByte} {s : State} (h : s.lnk.receiver = .hunting)
    (hb : b.value ≠ 0xA5 ∨ b.framingError = true) : receiveByte b s = s := by
  unfold receiveByte
  rw [h]
  refine if_neg fun hstart => ?_
  rcases hb with hb | hb
  · exact hb hstart.1
  · exact absurd (hstart.2.symm.trans hb) Bool.false_ne_true

theorem timeOut_of_hunting {s : State} (h : s.lnk.receiver = .hunting) : timeOut s = s := by
  unfold timeOut; rw [h]

theorem timeOut_of_inFrame {bs : List Byte} {s : State} (h : s.lnk.receiver = .inFrame bs) :
    timeOut s = discarded .timeout 0 0 s := by
  unfold timeOut; rw [h]; rfl

theorem takeByte_of_framing {b : RxByte} (h : b.framingError = true) (bytes : List Byte) (s : State) :
    takeByte b bytes s = discarded .framing 0 0 s := by
  unfold takeByte; rw [h]; rfl

/-- Settles O7: a byte or a timeout while HUNTING, and each fault in its place within the frame. -/
theorem faultyFramesAreDiscarded : Obligations.FaultyFramesAreDiscarded := by
  unfold Obligations.FaultyFramesAreDiscarded
  intro s hs
  have byte : ∀ b, exec (.frameReceived [b]) s = .next (receiveByte b s) :=
    fun b => exec_of_running rfl (fun _ => rfl) hs
  have timeout : exec .interByteTimeout s = .next (timeOut s) := exec_of_running rfl (fun _ => rfl) hs
  refine ⟨fun b hh hb => ?_, fun hh => ?_, fun bs hf => ⟨?_, fun b hb => ?_, fun b hbs hb hlen => ?_, ?_⟩⟩
  · rw [byte, receiveByte_of_hunting hh hb]
  · rw [timeout, timeOut_of_hunting hh]
  · rw [timeout, timeOut_of_inFrame hf]
  · rw [byte, receiveByte_of_inFrame hf, takeByte_of_framing hb]
  · subst hbs
    rw [byte, receiveByte_of_inFrame hf, takeByte_of_sound hb]
    exact congrArg Host.Outcome.next (if_pos (by rwa [List.nil_append, fieldAt_first]))
  · intro len kind tag body b hbs hb hlow hhigh hlength
    subst hbs
    rw [byte, receiveByte_of_inFrame hf, takeByte_of_sound hb]
    simp only [List.cons_append, fieldAt_first]
    rw [if_neg (by omega), if_pos (by simp; omega), completeFrame_eq]
    rfl

end Sys2Proof.Machine


/-! PROOFS. The stored forms of cues and inputs, and their requests: PLAN_SET (R42), INPUT_CONFIG and INPUT_CLEAR (R59,
R61, R62), and one sample of the inputs (R55, R72). -/

namespace Sys2Proof.Machine

open Sys2Proof.Claims

/-! ### The cues of a plan -/

theorem anchorOfCode_anchorCode (a : Anchor) : anchorOfCode (anchorCode a) = some a := by cases a <;> rfl

theorem anchorOfCode_eq_some {n : Nat} {a : Anchor} : anchorOfCode n = some a ↔ anchorCode a = n := by
  refine ⟨fun h => ?_, fun h => h ▸ anchorOfCode_anchorCode a⟩
  unfold anchorOfCode at h
  split at h <;> cases h <;> rfl

theorem anchorCode_range (a : Anchor) : 1 ≤ anchorCode a ∧ anchorCode a ≤ 5 := by cases a <;> decide

theorem exists_anchorCode {n : Nat} : (∃ a, anchorCode a = n) ↔ 1 ≤ n ∧ n ≤ 5 := by
  refine ⟨fun ⟨a, h⟩ => h ▸ anchorCode_range a, fun ⟨h1, h5⟩ => ?_⟩
  interval_cases n
  · exact ⟨.arrival, rfl⟩
  · exact ⟨.departure, rfl⟩
  · exact ⟨.dispatch, rfl⟩
  · exact ⟨.platformChange, rfl⟩
  · exact ⟨.cancel, rfl⟩

theorem targetKindOfCode_isSome {n : Nat} : (∃ k, targetKindOfCode n = some k) ↔ 1 ≤ n ∧ n ≤ 3 := by
  refine ⟨fun ⟨k, hk⟩ => ?_, fun ⟨h1, h3⟩ => ?_⟩
  · unfold targetKindOfCode at hk
    split at hk
    · decide
    · decide
    · decide
    · cases hk
  · interval_cases n
    · exact ⟨.platform, rfl⟩
    · exact ⟨.platformPlus, rfl⟩
    · exact ⟨.fixed, rfl⟩

theorem offsetBad_eq_false {a : Anchor} {q : RawCue} (ha : anchorCode a = q.anchor) :
    offsetBad a q.offset = false ↔ offsetFits q := by
  unfold offsetFits
  rw [← ha]
  cases a <;> simp [offsetBad, anchorCode]

theorem storedOffset_eq {a : Anchor} {q : RawCue} (ha : anchorCode a = q.anchor) :
    storedOffset a q.offset = if q.anchor ≤ 2 then q.offset else 0 := by
  rw [← ha]
  cases a <;> rfl

/-- A cue that fits is stored with its values clamped. -/
theorem storeCue_of_fits {q : RawCue} (h : CueFits q) : ∃ c, storeCue q = some c ∧ CueStored q c := by
  obtain ⟨a, ha⟩ := exists_anchorCode.mpr h.anchor
  obtain ⟨k, hk⟩ := targetKindOfCode_isSome.mpr h.target
  have hfits : ¬ (Config.maxTemplates ≤ q.template ∨ q.priority = 0 ∨ 7 < q.priority ∨ offsetBad a q.offset = true) := by
    have ht := h.template
    have hp := h.priority
    simp only [(offsetBad_eq_false ha).mpr h.offset, Config.maxTemplates, Bool.false_eq_true, or_false]
    omega
  unfold storeCue
  rw [anchorOfCode_eq_some.mpr ha, hk]
  dsimp only
  rw [if_neg hfits]
  exact ⟨_, rfl, { anchor := ha, offset := storedOffset_eq ha, template := rfl, priority := rfl, target := hk
                   address := ⟨rfl, rfl⟩, repeats := rfl, interval := clampNat_eq (by decide) _
                   expiry := clampNat_eq (by decide) _, late := Nat.min_comm _ _ }⟩

theorem fits_of_storeCue {q : RawCue} {c : Cue} (h : storeCue q = some c) : CueFits q := by
  unfold storeCue at h
  split at h
  next a k ha hk =>
    split at h
    · cases h
    next hrange =>
      simp only [Config.maxTemplates, not_or, Bool.not_eq_true] at hrange
      obtain ⟨ht, hp0, hp7, hoffset⟩ := hrange
      have ha := anchorOfCode_eq_some.mp ha
      exact { anchor := exists_anchorCode.mp ⟨a, ha⟩, target := targetKindOfCode_isSome.mp ⟨k, hk⟩
              template := by omega, priority := by omega, offset := (offsetBad_eq_false ha).mp hoffset }
  · cases h

theorem cueClamped_iff (q : RawCue) : cueClamped q = true ↔ CueClamps q := by
  simp only [cueClamped, CueClamps, Bool.or_eq_true, decide_eq_true_eq,
    clampNat_ne (show 10 ≤ 600 by decide), clampNat_ne (show 30 ≤ 1800 by decide)]
  omega

theorem storeCues_of_fits : ∀ {qs : List RawCue}, (∀ q ∈ qs, CueFits q) →
    ∃ cs, storeCues qs = some cs ∧ List.Forall₂ CueStored qs cs
  | [], _ => ⟨[], rfl, .nil⟩
  | q :: qs, h => by
    obtain ⟨hq, hqs⟩ := List.forall_mem_cons.mp h
    obtain ⟨c, hc, hstored⟩ := storeCue_of_fits hq
    obtain ⟨cs, hcs, hrest⟩ := storeCues_of_fits hqs
    exact ⟨c :: cs, by unfold storeCues; rw [hc, hcs], .cons hstored hrest⟩

theorem storeCues_of_unfit : ∀ {qs : List RawCue}, (∃ q ∈ qs, ¬ CueFits q) → storeCues qs = none
  | q :: qs, h => by
    unfold storeCues
    split
    next c cs hc hcs =>
      obtain ⟨x, hx, hunfit⟩ := h
      rcases List.mem_cons.mp hx with rfl | hx
      · exact absurd (fits_of_storeCue hc) hunfit
      · rw [storeCues_of_unfit ⟨x, hx, hunfit⟩] at hcs; cases hcs
    · rfl

/-- Settles O35. -/
theorem planSetReplacesThePlan : Obligations.PlanSetReplacesThePlan := by
  unfold Obligations.PlanSetReplacesThePlan
  intro tag r s s0 h
  refine ⟨fun hbad => onlyAnswers_of_owner_eq h ?_, fun hplan hlen hfits => ?_⟩
  · show setPlan r s0 = _
    unfold setPlan
    split
    · rfl
    next hrange =>
      simp only [Config.maxPlans, Config.maxCues] at hrange
      have hunfit : ∃ q ∈ r.cues, ¬ CueFits q := by
        rcases hbad with hbad | hbad | hbad
        · omega
        · omega
        · exact hbad
      rw [storeCues_of_unfit hunfit]
      rfl
  · obtain ⟨cues, hcues, hstored⟩ := storeCues_of_fits hfits
    have howner : setPlan r s0 = (accept (decide (clampThreshold r.threshold ≠ r.threshold) || r.cues.any cueClamped) [],
        s0.withTtu { s0.ttu with
          plans := s0.ttu.plans.set r.plan { threshold := clampThreshold r.threshold, cues := cues } }) := by
      unfold setPlan
      rw [if_neg (by simp only [Config.maxPlans, Config.maxCues]; omega), hcues]
    have hclamp : clampThreshold r.threshold = max 60 (min 900 r.threshold) := clampNat_eq (by decide) _
    refine ⟨cues, _, (exec_of_owner_eq h howner).trans (by rw [← hclamp]; rfl), hstored, ?_⟩
    simp only [Bool.or_eq_true, decide_eq_true_eq, List.any_eq_true, cueClamped_iff, clampThreshold,
      clampNat_ne (show 60 ≤ 900 by decide), or_assoc]

/-! ### The inputs -/

theorem input_modifyInput_of_lt {s : State} {n : Nat} (h : n < s.fiu.inputs.length) (f : Input → Input) :
    (s.modifyInput n f).input n = f (s.input n) := by
  simp [State.input, State.modifyInput, List.getD_eq_getElem?_getD, h]

theorem modifyInput_inputs (s : State) (n : Nat) (f : Input → Input) :
    (s.modifyInput n f).fiu.inputs = s.fiu.inputs.set n (f (s.input n)) := by
  refine List.ext_getElem? fun m => ?_
  simp only [State.modifyInput, State.withFiu_fiu, List.getElem?_modify, List.getElem?_set, State.input,
    List.getD_eq_getElem?_getD]
  by_cases hm : n = m
  · subst hm
    cases hn : s.fiu.inputs[n]? with
    | none => simp [List.getElem?_eq_none_iff.mp hn]
    | some i => simp [(List.getElem?_eq_some_iff.mp hn).1]
  · simp [hm]

/-- Where input `n` is not among the inputs, its configuration changes nothing. -/
theorem input_modifyInput_of_ge {s : State} {n : Nat} (h : s.fiu.inputs.length ≤ n) (f : Input → Input) :
    (s.modifyInput n f).input n = s.input n := by
  simp [State.input, modifyInput_inputs, List.set_eq_of_length_le h]

theorem reportStatus_of_kept {n : Nat} {before : Bool} {s : State}
    (h : before = true ∨ statusInput (s.input n) = false) (t : Capture) : reportStatus n before t s = s := by
  refine if_neg fun hchange => ?_
  rcases h with h | h
  · exact Bool.false_ne_true (hchange.1.symm.trans h)
  · exact Bool.false_ne_true (h.symm.trans hchange.2)

theorem reportStatus_of_set {n : Nat} {s : State} (h : statusInput (s.input n) = true) (t : Capture) :
    reportStatus n false t s = generate (.inputEvent n (s.input n).function (s.input n).stable t) s :=
  if_pos ⟨rfl, h⟩

theorem reportStatus_fiu (n : Nat) (before : Bool) (t : Capture) (s : State) : (reportStatus n before t s).fiu = s.fiu := by
  unfold reportStatus
  split <;> rfl

theorem clampDebounce_eq (ms : Nat) : clampDebounce ms = min 2550 (10 * ((ms + 9) / 10)) := by
  unfold clampDebounce; omega

theorem clampDebounce_ne (ms : Nat) : clampDebounce ms ≠ ms ↔ 2550 < ms ∨ ms % 10 ≠ 0 := by
  unfold clampDebounce; omega

theorem inputClamped_iff (r : InputConfigReq) : inputClamped r = true ↔ InputClamps r := by
  unfold inputClamped InputClamps
  rw [Bool.or_eq_true, decide_eq_true_eq, clampDebounce_ne, or_assoc]
  refine or_congr_right (or_congr_right ?_)
  cases r.function with
  | firePanel a m t i =>
    simp only [decide_eq_true_eq, clampInterval, clampNat_ne (show 10 ≤ 600 by decide)]
    exact ⟨fun h => ⟨a, m, t, i, rfl, h⟩, fun ⟨_, _, _, _, rfl, h⟩ => h⟩
  | general | trainDetect | dispatch | platformClose | unknown => simp

theorem polarityOfCode_isSome {n : Nat} : (∃ p, polarityOfCode n = some p) ↔ 1 ≤ n ∧ n ≤ 2 := by
  refine ⟨fun ⟨p, hp⟩ => ?_, fun ⟨h1, h2⟩ => ?_⟩
  · unfold polarityOfCode at hp
    split at hp
    · decide
    · decide
    · cases hp
  · interval_cases n
    · exact ⟨.activeHigh, rfl⟩
    · exact ⟨.activeLow, rfl⟩

theorem senseOfCode_isSome {n : Nat} : (∃ e, senseOfCode n = some e) ↔ 1 ≤ n ∧ n ≤ 2 := by
  refine ⟨fun ⟨e, he⟩ => ?_, fun ⟨h1, h2⟩ => ?_⟩
  · unfold senseOfCode at he
    split at he
    · decide
    · decide
    · cases he
  · interval_cases n
    · exact ⟨.edge, rfl⟩
    · exact ⟨.level, rfl⟩

theorem polarityCode_of_ofCode {n : Nat} {p : Polarity} (h : polarityOfCode n = some p) : polarityCode p = n := by
  unfold polarityOfCode at h
  split at h <;> cases h <;> rfl

theorem senseCode_of_ofCode {n : Nat} {e : Sense} (h : senseOfCode n = some e) : senseCode e = n := by
  unfold senseOfCode at h
  split at h <;> cases h <;> rfl

/-- A function whose parameters are in range is stored, its interval clamped, and names the platform it named. -/
theorem storeFunction_of_fits {f : RawFunction} (h : FunctionFits f) :
    ∃ g, storeFunction f = some g ∧ FunctionStored f g ∧
      ∀ s, wrongPlatform s g = true ↔ NamesNoPlatform s f := by
  cases f with
  | general => exact ⟨_, rfl, trivial, fun s => by simp [wrongPlatform, NamesNoPlatform]⟩
  | trainDetect z => exact ⟨_, if_pos (Nat.lt_succ_of_le h), rfl, fun s => by simp [wrongPlatform, NamesNoPlatform]⟩
  | dispatch z => exact ⟨_, if_pos (Nat.lt_succ_of_le h), rfl, fun s => by simp [wrongPlatform, NamesNoPlatform]⟩
  | platformClose z => exact ⟨_, if_pos (Nat.lt_succ_of_le h), rfl, fun s => by simp [wrongPlatform, NamesNoPlatform]⟩
  | firePanel a m t i =>
    obtain ⟨ha, hm, ht⟩ := h
    exact ⟨_, if_pos ⟨Nat.lt_succ_of_le ha, Nat.lt_succ_of_le hm, Nat.lt_succ_of_le ht⟩,
      ⟨rfl, rfl, rfl, clampNat_eq (by decide) _⟩, fun s => by simp [wrongPlatform, NamesNoPlatform]⟩
  | unknown c => cases h

theorem fits_of_storeFunction {f : RawFunction} {g : InputFunction} (h : storeFunction f = some g) : FunctionFits f := by
  cases f with
  | general => trivial
  | trainDetect z | dispatch z | platformClose z => exact Nat.le_of_lt_succ (Option.ite_none_right_eq_some.mp h).1
  | firePanel a m t i =>
    obtain ⟨ha, hm, ht⟩ := (Option.ite_none_right_eq_some.mp h).1
    exact ⟨Nat.le_of_lt_succ ha, Nat.le_of_lt_succ hm, Nat.le_of_lt_succ ht⟩
  | unknown c => cases h

theorem reconfigured_configured {r : InputConfigReq} {p : Polarity} {e : Sense} {f : InputFunction}
    (hp : polarityOfCode r.polarity = some p) (he : senseOfCode r.sense = some e) (hf : FunctionStored r.function f)
    (i : Input) : Configured r i (reconfigured r p e f i) := by
  have hdebounce : i.debounce.map (rejudged (clampDebounce r.debounce)) =
      i.debounce.map (fun d => { d with due := d.due && decide (clampDebounce r.debounce ≤ 10 * d.samples) }) := by
    simp only [Nat.mul_comm 10]; rfl
  cases e with
  | edge | level =>
    exact { polarity := polarityCode_of_ofCode hp, sense := senseCode_of_ofCode he, debounceMs := clampDebounce_eq _
            function := hf, notice := rfl, wake := rfl, stable := rfl, debounce := hdebounce
            pending := by cases p <;> rfl }

theorem configureInput_of_unfit {r : InputConfigReq} (h : ¬ InputFits r) (s : State) :
    configureInput r s = (refuse .outOfRange, s) := by
  unfold configureInput
  split
  next p e f hp he hf =>
    refine if_pos (Nat.not_lt.mp fun hn => h ?_)
    exact { input := Nat.le_of_lt_succ hn, polarity := polarityOfCode_isSome.mp ⟨p, hp⟩
            sense := senseOfCode_isSome.mp ⟨e, he⟩, function := fits_of_storeFunction hf }
  · rfl

/-- What INPUT_CONFIG does with a request in range (R61). -/
theorem configureInput_of_fits {r : InputConfigReq} (h : InputFits r) :
    ∃ p e f, polarityOfCode r.polarity = some p ∧ senseOfCode r.sense = some e ∧ FunctionStored r.function f ∧
      ∀ s, (NamesNoPlatform s r.function → configureInput r s = (refuse .notPlatform, s)) ∧
        (¬ NamesNoPlatform s r.function → configureInput r s = (accept (inputClamped r) [],
          reportStatus r.input (statusInput (s.input r.input)) s.capture
            (s.modifyInput r.input (reconfigured r p e f)))) := by
  obtain ⟨p, hp⟩ := polarityOfCode_isSome.mpr h.polarity
  obtain ⟨e, he⟩ := senseOfCode_isSome.mpr h.sense
  obtain ⟨f, hf, hstored, hplatform⟩ := storeFunction_of_fits h.function
  have hinput : ¬ Config.maxInputs ≤ r.input := Nat.not_le.mpr (Nat.lt_succ_of_le h.input)
  refine ⟨p, e, f, hp, he, hstored, fun s => ⟨fun hn => ?_, fun hn => ?_⟩⟩
  · unfold configureInput
    rw [hp, he, hf]
    exact (if_neg hinput).trans (if_pos ((hplatform s).mpr hn))
  · unfold configureInput
    rw [hp, he, hf]
    exact (if_neg hinput).trans (if_neg fun hw => hn ((hplatform s).mp hw))

/-- The event of a configuration: none where the status stays, one where it goes from clear to set. -/
theorem reportStatus_modifyInput {s : State} {n : Nat} (f : Input → Input) (t : Capture) :
    let u := reportStatus n (statusInput (s.input n)) t (s.modifyInput n f)
    ((statusInput (s.input n) = true ∨ statusInput (f (s.input n)) = false) → u = s.withFiu u.fiu) ∧
    (n < s.fiu.inputs.length → statusInput (s.input n) = false → statusInput (f (s.input n)) = true →
      u = generate (.inputEvent n (f (s.input n)).function (f (s.input n)).stable t) (s.withFiu u.fiu)) := by
  dsimp only
  rw [reportStatus_fiu]
  refine ⟨fun h => ?_, fun hn hb ha => ?_⟩
  · refine reportStatus_of_kept ?_ t
    rcases Nat.lt_or_ge n s.fiu.inputs.length with hn | hn
    · rwa [input_modifyInput_of_lt hn]
    · rw [input_modifyInput_of_ge hn]
      cases statusInput (s.input n) with
      | true => exact .inl rfl
      | false => exact .inr rfl
  · have hinput := input_modifyInput_of_lt hn f
    rw [hb, reportStatus_of_set (by rwa [hinput]), hinput]
    rfl

/-- The lowest named input that bars a clearing (R59). -/
theorem clearBar_eq_some {s : State} {named : BitVec 32} {n : Nat} :
    clearBar s named = some n ↔ n < 32 ∧ HoldsActive s named n ∧ ∀ m < n, ¬ HoldsActive s named m := by
  unfold clearBar allInputs HoldsActive
  rw [List.find?_range_eq_some]
  simp only [Bool.and_eq_true, decide_eq_true_eq, List.mem_range, Config.maxInputs, Bool.not_eq_true', Bool.and_eq_false_iff,
    decide_eq_false_iff_not, not_and, and_assoc]
  grind

theorem clearBar_eq_none {s : State} {named : BitVec 32} :
    clearBar s named = none ↔ ∀ n < 32, ¬ HoldsActive s named n := by
  unfold clearBar allInputs HoldsActive
  rw [List.find?_range_eq_none]
  simp [Config.maxInputs, or_iff_not_imp_left]

/-- Settles O36. -/
theorem inputsAreConfiguredAndCleared : Obligations.InputsAreConfiguredAndCleared := by
  unfold Obligations.InputsAreConfiguredAndCleared
  refine ⟨fun tag r s s0 h => ⟨fun hbad => ?_, fun hfits hplatform => ?_, fun hfits hplatform => ?_⟩,
    fun tag named s s0 h => ⟨fun h0 => ?_, fun n hn hholds hfirst => ?_, fun h0 hnone => ?_⟩⟩
  · exact onlyAnswers_of_owner_eq h (configureInput_of_unfit hbad s0)
  · obtain ⟨p, e, f, -, -, -, hcases⟩ := configureInput_of_fits hfits
    exact onlyAnswers_of_owner_eq h ((hcases s0).1 hplatform)
  · obtain ⟨p, e, f, hp, he, hf, hcases⟩ := configureInput_of_fits hfits
    have hu := reportStatus_modifyInput (s := s0) (n := r.input) (reconfigured r p e f) s0.capture
    refine ⟨_, _, reconfigured r p e f (s0.input r.input), exec_of_owner_eq h ((hcases s0).2 hplatform),
      inputClamped_iff r, reconfigured_configured hp he hf _, ?_, hu.1, hu.2⟩
    rw [reportStatus_fiu, ← modifyInput_inputs]
    rfl
  · exact onlyAnswers_of_owner_eq h (if_pos h0)
  · refine onlyAnswers_of_owner_eq h ?_
    have hnamed : named ≠ 0 := fun h0 => by simp [HoldsActive, h0] at hholds
    show clearInputs named s0 = _
    unfold clearInputs
    rw [if_neg hnamed, clearBar_eq_some.mpr ⟨hn, hholds, hfirst⟩]
  · refine exec_of_owner_eq h ?_
    show clearInputs named s0 = _
    unfold clearInputs
    rw [if_neg h0, clearBar_eq_none.mpr hnone]
    rfl

/-! ### One sample -/

theorem forEach_fixed {α : Type} {xs : List α} {f : α → State → State} {s : State} (h : ∀ x ∈ xs, f x s = s) :
    forEach xs f s = s := by
  induction xs with
  | nil => rfl
  | cons x xs ih =>
    obtain ⟨hx, hxs⟩ := List.forall_mem_cons.mp h
    refine Eq.trans ?_ (ih hxs)
    show forEach xs f (f x s) = forEach xs f s
    rw [hx]

/-- An expiry that is not due has no effect (log entry 7). -/
theorem takeExpiry_of_notDue {n : Nat} {s : State} (h : ∀ d, (s.input n).debounce = some d → d.due = false) :
    takeExpiry n s = s := by
  unfold takeExpiry
  split
  next d hd => simp [h d hd]
  · rfl

theorem takeExpiries_of_noneDue {s : State} (h : ∀ n d, (s.input n).debounce = some d → d.due = false) :
    takeExpiries s = s := by
  unfold takeExpiries
  exact forEach_fixed fun n _ => takeExpiry_of_notDue (h n)

theorem sampleInput_stable {raw : Bool} {i : Input} (h : raw = i.stable) : sampleInput raw i = { i with debounce := none } :=
  if_pos h

theorem sampleInput_start {raw : Bool} {i : Input} (h : raw ≠ i.stable) (hd : i.debounce = none) :
    sampleInput raw i = { i with
      debounce := some { candidate := raw, samples := 0, due := decide (i.debounceMs = 0) } } := by
  unfold sampleInput
  rw [if_neg h, hd]
  simp [continued]

theorem sampleInput_count {raw : Bool} {i : Input} {d : Debounce} (h : raw ≠ i.stable) (hd : i.debounce = some d) :
    sampleInput raw i = { i with
      debounce := some { candidate := raw, samples := d.samples + 1
                         due := decide (i.debounceMs ≤ 10 * (d.samples + 1)) } } := by
  unfold sampleInput
  rw [if_neg h, hd]
  simp [continued, Nat.mul_comm 10]

theorem iterate_sampleInput {i : Input} (h : i.debounce = none) (k : Nat) :
    ((fun x => sampleInput (!i.stable) x)^[k + 1] i) = { i with
      debounce := some { candidate := !i.stable, samples := k, due := decide (i.debounceMs ≤ 10 * k) } } := by
  induction k with
  | zero => exact (sampleInput_start (by simp) h).trans (by simp)
  | succ k ih =>
    rw [Function.iterate_succ_apply', ih]
    exact sampleInput_count (i := { i with debounce := _ }) (by simp) rfl

/-- Settles O37. -/
theorem samplesFollowTheDebounceTable : Obligations.SamplesFollowTheDebounceTable := by
  unfold Obligations.SamplesFollowTheDebounceTable
  refine ⟨fun levels s hs hdue => ?_, fun i k h => iterate_sampleInput h k⟩
  have hexec : exec (.inputSampling levels) s =
      .next ((s.withPins { s.pins with inputs := levels }).withFiu (sampledFiu levels s.fiu)) := by
    rw [exec_of_running rfl (fun _ => rfl) hs]
    simp only [happens, takeExpiries_of_noneDue hdue]
  refine ⟨_, hexec, rfl, rfl, sampledFiu_length levels s.fiu, fun n i hi => ?_⟩
  have hget : ∀ b, s.fiu.firstSample = b → (sampledFiu levels s.fiu).inputs[n]? =
      some ((if b then firstSampleInput else sampleInput) (levels.getLsbD n) i) := fun b hb => by
    simp [sampledFiu, hi, hb]
  refine ⟨fun hfirst => hget true hfirst, fun hfirst => ⟨fun h => ?_, fun h hd => ?_, fun h d hd => ?_⟩⟩
  · exact (hget false hfirst).trans (congrArg some (sampleInput_stable h))
  · exact (hget false hfirst).trans (congrArg some (sampleInput_start h hd))
  · exact (hget false hfirst).trans (congrArg some (sampleInput_count h hd))

end Sys2Proof.Machine


/-! PROOFS. Tokens and phrases: the directory after PHRASE_SET (R74), templates (R75) and the composer's buffer (R87,
R88). -/

namespace Sys2Proof.Machine

open Sys2Proof.Claims

/-! ### The directory -/

theorem find?_insertPhrase_of_ne {e : Phrase} {id : Nat} (h : e.id ≠ id) :
    ∀ d : List Phrase, (insertPhrase e d).find? (fun x => x.id == id) = d.find? (fun x => x.id == id)
  | [] => by simp [insertPhrase, h]
  | x :: xs => by
    unfold insertPhrase
    split
    · rw [List.find?_cons_of_neg (by simpa using h)]
    · rw [List.find?_cons, List.find?_cons, find?_insertPhrase_of_ne h xs]

theorem find?_insertPhrase_self {e : Phrase} :
    ∀ {d : List Phrase}, (∀ x ∈ d, x.id ≠ e.id) → (insertPhrase e d).find? (fun x => x.id == e.id) = some e
  | [], _ => by simp [insertPhrase]
  | x :: xs, h => by
    obtain ⟨hx, hxs⟩ := List.forall_mem_cons.mp h
    unfold insertPhrase
    split
    · simp
    · rw [List.find?_cons_of_neg (by simpa using hx), find?_insertPhrase_self hxs]

/-- An entry of the directory after one entry of PHRASE_SET. -/
theorem find?_putPhrase (r : PhraseReq) (d : List Phrase) (id : Nat) :
    (putPhrase r d).find? (fun x => x.id == id) =
      if r.id = id then
        (if r.duration = 0 then none
         else some { id := r.id, duration := min r.duration 600, location := r.location })
      else d.find? (fun x => x.id == id) := by
  have hrest : r.id ≠ id →
      (d.filter (fun e => e.id != r.id)).find? (fun x => x.id == id) = d.find? (fun x => x.id == id) := by
    intro h
    rw [List.find?_filter]
    refine congrArg (fun p => d.find? p) (funext fun x => ?_)
    by_cases hx : x.id = id
    · simp [hx, Ne.symm h]
    · simp [hx]
  unfold putPhrase
  dsimp only
  by_cases h : r.id = id
  · subst h
    rw [if_pos rfl]
    split
    · simp
    · exact find?_insertPhrase_self (e := { id := r.id, duration := min r.duration 600, location := r.location })
        (by simp)
  · rw [if_neg h]
    split
    · exact hrest h
    · exact (find?_insertPhrase_of_ne h _).trans (hrest h)

theorem find?_putPhrases_of_unnamed {id : Nat} : ∀ {ps : List PhraseReq} (d : List Phrase), (∀ p ∈ ps, p.id ≠ id) →
    (ps.foldl (fun dir p => putPhrase p dir) d).find? (fun x => x.id == id) = d.find? (fun x => x.id == id)
  | [], _, _ => rfl
  | p :: ps, d, h => by
    obtain ⟨hp, hps⟩ := List.forall_mem_cons.mp h
    rw [List.foldl_cons, find?_putPhrases_of_unnamed _ hps, find?_putPhrase, if_neg hp]

theorem find?_putPhrases_of_named : ∀ {ps : List PhraseReq} (d : List Phrase), (ps.map PhraseReq.id).Nodup →
    ∀ p ∈ ps, (ps.foldl (fun dir p => putPhrase p dir) d).find? (fun x => x.id == p.id) =
      if p.duration = 0 then none else some { id := p.id, duration := min p.duration 600, location := p.location }
  | q :: ps, d, h, p, hp => by
    obtain ⟨hq, hps⟩ := List.nodup_cons.mp h
    rcases List.mem_cons.mp hp with rfl | hp
    · have hother : ∀ x ∈ ps, x.id ≠ p.id := fun x hx hid => hq (hid ▸ List.mem_map_of_mem hx)
      rw [List.foldl_cons, find?_putPhrases_of_unnamed _ hother, find?_putPhrase, if_pos rfl]
    · exact find?_putPhrases_of_named _ hps p hp

theorem repeatsId_iff : ∀ ps : List PhraseReq, repeatsId ps = true ↔ ¬ (ps.map PhraseReq.id).Nodup
  | [] => by simp [repeatsId]
  | p :: ps => by
    simp only [repeatsId, Bool.or_eq_true, repeatsId_iff ps, List.map_cons, List.nodup_cons, List.any_eq_true,
      beq_iff_eq, List.mem_map, not_and_or, not_not]

/-! ### Tokens as they are stored -/

theorem storeTokens_eq_some {f : RawToken → Option Token} : ∀ {raw : List RawToken} {ts : List Token},
    storeTokens f raw = some ts ↔ List.Forall₂ (fun t x => f t = some x) raw ts
  | [], ts => by simp [storeTokens, eq_comm]
  | t :: raw, ts => by
    unfold storeTokens
    rw [List.forall₂_cons_left_iff]
    constructor
    · intro h
      split at h
      next x xs hx hxs => cases h; exact ⟨x, xs, hx, storeTokens_eq_some.mp hxs, rfl⟩
      · cases h
    · rintro ⟨x, xs, hx, hxs, rfl⟩
      rw [hx, storeTokens_eq_some.mpr hxs]

theorem pairs_iff_forall₂ {α β : Type} {r : α → β → Prop} {xs : List α} {ys : List β} :
    Pairs r xs ys ↔ List.Forall₂ r xs ys := by
  rw [List.forall₂_iff_get]
  refine and_congr_right fun hlen => ⟨fun h i hx hy => ?_, fun h i x y hx hy => ?_⟩
  · exact h i _ _ (List.getElem?_eq_getElem hx) (List.getElem?_eq_getElem hy)
  · obtain ⟨hix, rfl⟩ := List.getElem?_eq_some_iff.mp hx
    obtain ⟨hiy, rfl⟩ := List.getElem?_eq_some_iff.mp hy
    exact h i hix hiy

theorem storeTokens_eq_none {f : RawToken → Option Token} :
    ∀ {raw : List RawToken}, storeTokens f raw = none ↔ ∃ t ∈ raw, f t = none
  | [] => by simp [storeTokens]
  | t :: raw => by
    unfold storeTokens
    rw [List.exists_mem_cons_iff, ← storeTokens_eq_none (raw := raw)]
    cases f t <;> cases storeTokens f raw <;> simp

theorem tokensClamped_iff (raw : List RawToken) : tokensClamped raw = true ↔ NumberClamps raw := by
  simp [tokensClamped, NumberClamps]

theorem fieldToken_isSome {c : Nat} : (∃ x, fieldToken c = some x) ↔ 0x10 ≤ c ∧ c ≤ 0x18 := by
  refine ⟨fun ⟨x, hx⟩ => ?_, fun ⟨hl, hu⟩ => ?_⟩
  · unfold fieldToken at hx
    split at hx <;> cases hx <;> decide
  · interval_cases c <;> exact ⟨_, rfl⟩

/-- The tokens of ANNOUNCE and COMPOSE_PART are those in range. -/
theorem hostToken_isSome {t : RawToken} : (∃ x, hostToken t = some x) ↔ HostTokenFits t := by
  obtain ⟨code, param⟩ := t
  unfold HostTokenFits FieldCode hostToken
  dsimp only
  split
  · simp [Config.maxPhrases]; omega
  · simp
  · simp; omega
  next h1 h2 h3 =>
    rw [fieldToken_isSome]
    simp only [show code ≠ 1 from h1, show code ≠ 2 from h2, show code ≠ 3 from h3, false_and, false_or]

theorem storeTokens_of_unfit {raw : List RawToken} (h : ∃ t ∈ raw, ¬ HostTokenFits t) :
    storeTokens hostToken raw = none := by
  obtain ⟨t, ht, hunfit⟩ := h
  refine storeTokens_eq_none.mpr ⟨t, ht, Option.eq_none_iff_forall_ne_some.mpr fun x hx => ?_⟩
  exact hunfit (hostToken_isSome.mp ⟨x, hx⟩)

theorem storeTokens_of_fit {raw : List RawToken} (h : ∀ t ∈ raw, HostTokenFits t) :
    ∃ ts, storeTokens hostToken raw = some ts := by
  refine Option.ne_none_iff_exists'.mp fun hnone => ?_
  obtain ⟨t, ht, hbad⟩ := storeTokens_eq_none.mp hnone
  obtain ⟨x, hx⟩ := hostToken_isSome.mpr (h t ht)
  exact absurd (hbad.symm.trans hx) (by simp)

/-! ### The markers of a template -/

/-- In every part of the list from its beginning, `opened` segments being open before it, none is closed that is not open
and none opened within another. -/
def NestFrom (opened : Nat) (ts : List Token) : Prop :=
  ∀ n ≤ ts.length,
    opened + (ts.take n).countP (fun t => decide (t = .ifDelayed) || decide (t = .ifChanged)) =
        (ts.take n).countP (fun t => decide (t = .endIf)) ∨
      opened + (ts.take n).countP (fun t => decide (t = .ifDelayed) || decide (t = .ifChanged)) =
        (ts.take n).countP (fun t => decide (t = .endIf)) + 1

theorem segmentsNest_iff (ts : List Token) : SegmentsNest ts ↔ NestFrom 0 ts := by
  simp [SegmentsNest, NestFrom]

theorem nestFrom_head {opened : Nat} {ts : List Token} (h : NestFrom opened ts) : opened ≤ 1 := by
  have := h 0 (Nat.zero_le _)
  simp at this
  omega

theorem nestFrom_cons {opened : Nat} {t : Token} {ts : List Token} :
    NestFrom opened (t :: ts) ↔ opened ≤ 1 ∧ ∀ n ≤ ts.length,
      opened + ((ts.take n).countP (fun t => decide (t = .ifDelayed) || decide (t = .ifChanged)) +
          if (decide (t = .ifDelayed) || decide (t = .ifChanged)) = true then 1 else 0) =
        (ts.take n).countP (fun t => decide (t = .endIf)) + (if decide (t = .endIf) = true then 1 else 0) ∨
      opened + ((ts.take n).countP (fun t => decide (t = .ifDelayed) || decide (t = .ifChanged)) +
          if (decide (t = .ifDelayed) || decide (t = .ifChanged)) = true then 1 else 0) =
        (ts.take n).countP (fun t => decide (t = .endIf)) + (if decide (t = .endIf) = true then 1 else 0) + 1 := by
  refine ⟨fun h => ⟨nestFrom_head h, fun n hn => ?_⟩, fun ⟨h0, h⟩ n hn => ?_⟩
  · have hstep := h (n + 1) (Nat.succ_le_succ hn)
    rwa [List.take_succ_cons, List.countP_cons, List.countP_cons] at hstep
  · cases n with
    | zero => simp; omega
    | succ n =>
      rw [List.take_succ_cons, List.countP_cons, List.countP_cons]
      exact h n (Nat.le_of_succ_le_succ hn)

/-- An opening marker, where no segment is open. -/
theorem nestFrom_cons_open {t : Token} {ts : List Token} (ht : t = .ifDelayed ∨ t = .ifChanged) (o : Bool) :
    NestFrom o.toNat (t :: ts) ↔ o = false ∧ NestFrom 1 ts := by
  have hopen : (decide (t = .ifDelayed) || decide (t = .ifChanged)) = true ∧ decide (t = .endIf) = false := by
    rcases ht with rfl | rfl <;> exact ⟨rfl, rfl⟩
  rw [nestFrom_cons, hopen.1, hopen.2]
  cases o with
  | false => simp [NestFrom, Nat.add_comm 1]
  | true =>
    refine ⟨fun ⟨_, h⟩ => ?_, fun h => (nomatch h.1)⟩
    have := h 0 (Nat.zero_le _)
    simp at this

theorem nestFrom_cons_close {ts : List Token} (o : Bool) :
    NestFrom o.toNat (.endIf :: ts) ↔ o = true ∧ NestFrom 0 ts := by
  rw [nestFrom_cons]
  cases o with
  | false =>
    refine ⟨fun ⟨_, h⟩ => ?_, fun h => (nomatch h.1)⟩
    have := h 0 (Nat.zero_le _)
    simp at this
  | true =>
    simp only [NestFrom, Bool.toNat_true, Nat.le_refl, true_and]
    refine forall₂_congr fun n _ => ?_
    simp
    omega

theorem nestFrom_cons_plain {t : Token} {ts : List Token} (h1 : t ≠ .ifDelayed) (h2 : t ≠ .ifChanged) (h3 : t ≠ .endIf)
    (o : Bool) : NestFrom o.toNat (t :: ts) ↔ NestFrom o.toNat ts := by
  rw [nestFrom_cons]
  simp only [h1, h2, h3, decide_false, Bool.or_false, Bool.false_eq_true, if_false, Nat.add_zero]
  exact and_iff_right_of_imp nestFrom_head

theorem segmentsOk_iff : ∀ (o : Bool) (ts : List Token), segmentsOk o ts = true ↔ NestFrom o.toNat ts
  | o, [] => by
    refine ⟨fun _ n hn => ?_, fun _ => rfl⟩
    cases o <;> simp
  | o, t :: ts => by
    unfold segmentsOk
    split
    · rw [nestFrom_cons_open (.inl rfl), Bool.and_eq_true, segmentsOk_iff true ts]
      simp
    · rw [nestFrom_cons_open (.inr rfl), Bool.and_eq_true, segmentsOk_iff true ts]
      simp
    · rw [nestFrom_cons_close, Bool.and_eq_true, segmentsOk_iff false ts]
      simp
    next h1 h2 h3 => rw [nestFrom_cons_plain h1 h2 h3, segmentsOk_iff o ts]

/-- Settles O41. -/
theorem phrasesAndTemplatesAreSet : Obligations.PhrasesAndTemplatesAreSet := by
  unfold Obligations.PhrasesAndTemplatesAreSet
  refine ⟨fun tag ps s s0 h => ⟨fun hbad => onlyAnswers_of_owner_eq h (if_pos hbad), fun hne hlen => ?_⟩,
    fun tag r s s0 h => ⟨fun hbad => onlyAnswers_of_owner_eq h ?_, fun ts htemplate hlen hts => ?_⟩⟩
  · have hcount : ¬ (ps = [] ∨ 16 < ps.length) := by
      rintro (h | h)
      · exact hne h
      · exact absurd hlen (Nat.not_le.mpr h)
    have hids : ps.any (fun p => decide (Config.maxPhrases ≤ p.id)) = true ↔ ∃ p ∈ ps, 2047 < p.id := by
      simp [Config.maxPhrases, Nat.lt_iff_add_one_le]
    refine ⟨fun hbad => ?_, fun hrange hdup => ?_, fun hrange hnodup => ?_⟩
    · exact onlyAnswers_of_owner_eq h ((if_neg hcount).trans (if_pos (hids.mpr hbad)))
    · have hin : ¬ ps.any (fun p => decide (Config.maxPhrases ≤ p.id)) = true := fun hbad => by
        obtain ⟨p, hp, hbad⟩ := hids.mp hbad
        exact absurd (hrange p hp) (Nat.not_le.mpr hbad)
      exact onlyAnswers_of_owner_eq h
        ((if_neg hcount).trans ((if_neg hin).trans (if_pos ((repeatsId_iff ps).mpr hdup))))
    · have hin : ¬ ps.any (fun p => decide (Config.maxPhrases ≤ p.id)) = true := fun hbad => by
        obtain ⟨p, hp, hbad⟩ := hids.mp hbad
        exact absurd (hrange p hp) (Nat.not_le.mpr hbad)
      have hdistinct : ¬ repeatsId ps = true := fun hrep => (repeatsId_iff ps).mp hrep hnodup
      refine ⟨_, _, exec_of_owner_eq h ((if_neg hcount).trans ((if_neg hin).trans (if_neg hdistinct))), by simp, rfl,
        fun p hp => find?_putPhrases_of_named _ hnodup p hp, fun id hid => find?_putPhrases_of_unnamed _ hid⟩
  · show setTemplate r s0 = _
    unfold setTemplate
    split
    · rfl
    next hrange =>
      have hbad : ∃ t ∈ r.tokens, templateToken t = none := by
        simp only [Config.maxTemplates] at hrange
        rcases hbad with hbad | hbad | hbad
        · omega
        · omega
        · exact hbad
      rw [storeTokens_eq_none.mpr hbad]
      rfl
  · have hstored := storeTokens_eq_some.mpr (pairs_iff_forall₂.mp hts)
    have howner : setTemplate r s0 = if segmentsOk false ts then
        (accept (tokensClamped r.tokens) [],
          s0.withAsc { s0.asc with templates := s0.asc.templates.set r.template ts })
        else (refuse .outOfRange, s0) := by
      unfold setTemplate
      rw [if_neg (by simp only [Config.maxTemplates]; omega), hstored]
    have hnest : segmentsOk false ts = true ↔ SegmentsNest ts :=
      (segmentsOk_iff false ts).trans (segmentsNest_iff ts).symm
    exact ⟨fun hn => onlyAnswers_of_owner_eq h (howner.trans (if_neg (mt hnest.mp hn))),
      fun hn => ⟨_, exec_of_owner_eq h (howner.trans (if_pos (hnest.mpr hn))), tokensClamped_iff _⟩⟩

/-! ### The header and the composer -/

theorem headerOutOfRange_eq_false (h : HeaderReq) : headerOutOfRange h = false ↔ HeaderFits h := by
  have hchime : (match h.chime with
      | some p => decide (Config.maxPhrases ≤ p)
      | none => false) = false ↔ ∀ p, h.chime = some p → p ≤ 2047 := by
    cases h.chime with
    | none => simp
    | some p => simp [Config.maxPhrases, Nat.lt_succ_iff]
  have hlatest : (match h.latestStart with
      | some t => decide (t < 0) || decide (103199 < t)
      | none => false) = false ↔ ∀ t, h.latestStart = some t → 0 ≤ t ∧ t ≤ 103199 := by
    cases h.latestStart with
    | none => simp
    | some t => simp
  unfold headerOutOfRange
  simp only [Bool.or_eq_false_iff, decide_eq_false_iff_not]
  refine ⟨fun ⟨⟨⟨⟨⟨hp, hp7⟩, ha⟩, hm⟩, hc⟩, hl⟩ => ?_, fun hf => ?_⟩
  · exact { priority := by omega, address := by omega, chime := hchime.mp hc, latestStart := hlatest.mp hl }
  · obtain ⟨hpriority, haddress, hc, hl⟩ := hf
    exact ⟨⟨⟨⟨⟨by omega, by omega⟩, by omega⟩, by omega⟩, hchime.mpr hc⟩, hlatest.mpr hl⟩

theorem headerClamped_iff (h : HeaderReq) : headerClamped h = true ↔ HeaderClamps h := by
  simp only [headerClamped, HeaderClamps, Bool.or_eq_true, decide_eq_true_eq, clampNat_ne (show 10 ≤ 600 by decide)]

theorem storeHeader_eq (h : HeaderReq) : storeHeader h = headerStored h := by
  simp only [storeHeader, headerStored, headerPair, clampNat_eq (show 10 ≤ 600 by decide)]

theorem fieldWithoutCall_iff (call : Option Nat) (ts : List Token) :
    fieldWithoutCall call ts = true ↔ call = none ∧ ∃ t ∈ ts, isCallField t = true := by
  simp [fieldWithoutCall]

theorem callMissing_iff (s : State) (call : Option Nat) :
    callMissing s call = true ↔ ∃ id, call = some id ∧ s.call? id = none := by
  cases call <;> simp [callMissing]

/-- The header's order of refusals: a field out of range or a call field without a call, then a call that is not there. -/
theorem composeEndChecked_eq (tag : Byte) (h : HeaderReq) (b : List Token) (s : State) :
    ((¬ HeaderFits h ∨ (h.call = none ∧ ∃ t ∈ b, isCallField t = true)) →
      composeEndChecked tag h b s = (refuse .outOfRange, s)) ∧
    (HeaderFits h → (h.call = none → ∀ t ∈ b, isCallField t = false) →
      ((∃ id, h.call = some id ∧ s.call? id = none) → composeEndChecked tag h b s = (refuse .notFound, s)) ∧
      ((∀ id, h.call = some id → s.call? id ≠ none) → composeEndChecked tag h b s =
        (accept (headerClamped h) [], setComposer (.checking b (headerStored h) tag s.clock.runTime) s))) := by
  have hbad : (headerOutOfRange h || fieldWithoutCall h.call b) = true ↔
      ¬ HeaderFits h ∨ (h.call = none ∧ ∃ t ∈ b, isCallField t = true) := by
    rw [Bool.or_eq_true, fieldWithoutCall_iff, ← headerOutOfRange_eq_false, Bool.not_eq_false]
  refine ⟨fun h => if_pos (hbad.mpr h), fun hfits hfields => ?_⟩
  have hgood : ¬ (headerOutOfRange h || fieldWithoutCall h.call b) = true := fun hb => by
    rcases hbad.mp hb with hunfit | ⟨hnone, t, ht, hfield⟩
    · exact hunfit hfits
    · exact Bool.false_ne_true ((hfields hnone t ht).symm.trans hfield)
  refine ⟨fun hmissing => (if_neg hgood).trans (if_pos ((callMissing_iff s h.call).mpr hmissing)), fun hthere => ?_⟩
  refine (if_neg hgood).trans ((if_neg fun hm => ?_).trans (by rw [storeHeader_eq]; rfl))
  obtain ⟨id, hid, hnone⟩ := (callMissing_iff s h.call).mp hm
  exact hthere id hid hnone

/-- COMPOSE_END is judged by its header where there is a buffer to check. -/
theorem composeEndRequest_of_buffer {b : List Token} {s : State}
    (hb : (s.asc.composer = .filling b ∧ b ≠ []) ∨ s.asc.composer = .closed b) (tag : Byte) (h : HeaderReq) :
    composeEndRequest tag h s = composeEndChecked tag h b s := by
  unfold composeEndRequest
  rcases hb with ⟨hb, hne⟩ | hb
  · obtain ⟨t, ts, rfl⟩ := List.exists_cons_of_ne_nil hne
    rw [hb]
  · rw [hb]

/-- COMPOSE_PART in FILLING (R87). -/
theorem composePartRequest_of_filling {raw : List RawToken} {b : List Token} {s : State} (hne : raw ≠ [])
    (hlen : raw.length ≤ 16) (hb : s.asc.composer = .filling b) :
    (((∃ t ∈ raw, ¬ HostTokenFits t) ∨ 64 < b.length + raw.length) →
      composePartRequest raw s = (refuse .outOfRange, s)) ∧
    ((∀ t ∈ raw, HostTokenFits t) → b.length + raw.length ≤ 64 →
      ∃ ts, Pairs (fun t x => hostToken t = some x) raw ts ∧ composePartRequest raw s =
        (accept (tokensClamped raw) (u8 (b.length + raw.length)),
          setComposer (if raw.length < 16 then .closed (b ++ ts) else .filling (b ++ ts)) s)) := by
  have hcount : ¬ (raw = [] ∨ 16 < raw.length) := by
    rintro (h | h)
    · exact hne h
    · exact absurd hlen (Nat.not_le.mpr h)
  refine ⟨fun hbad => ?_, fun hfits hroom => ?_⟩
  · unfold composePartRequest
    rw [if_neg hcount, hb]
    dsimp only
    split
    · rfl
    next ts hts =>
      refine if_pos ?_
      rw [storeTokens_length hts]
      rcases hbad with hbad | hbad
      · rw [storeTokens_of_unfit hbad] at hts; cases hts
      · exact hbad
  · obtain ⟨ts, hts⟩ := storeTokens_of_fit hfits
    have hlength := storeTokens_length hts
    refine ⟨ts, pairs_iff_forall₂.mpr (storeTokens_eq_some.mp hts), ?_⟩
    unfold composePartRequest
    rw [if_neg hcount, hb]
    dsimp only
    rw [hts]
    dsimp only
    rw [if_neg (by rw [hlength]; exact Nat.not_lt.mpr hroom), List.length_append, hlength]

/-- Settles O45. -/
theorem aCompositionIsFilledAndEnded : Obligations.ACompositionIsFilledAndEnded := by
  unfold Obligations.ACompositionIsFilledAndEnded
  refine ⟨fun tag raw s s0 h => ⟨fun hbad => onlyAnswers_of_owner_eq h (if_pos hbad), fun hne hlen => ?_⟩,
    fun tag hd s s0 h => ⟨fun hnone => onlyAnswers_of_owner_eq h ?_, fun b h' g start hc => onlyAnswers_of_owner_eq h ?_,
      fun b hb => ?_⟩⟩
  · have hcount : ¬ (raw = [] ∨ 16 < raw.length) := by
      rintro (h | h)
      · exact hne h
      · exact absurd hlen (Nat.not_le.mpr h)
    refine ⟨fun hc => onlyAnswers_of_owner_eq h ?_, fun b h' g start hc => onlyAnswers_of_owner_eq h ?_, fun b hb => ?_⟩
    · show composePartRequest raw s0 = _
      unfold composePartRequest
      rw [if_neg hcount]
      rcases hc with hc | ⟨b, hc⟩ <;> rw [hc] <;> rfl
    · show composePartRequest raw s0 = _
      unfold composePartRequest
      rw [if_neg hcount, hc]
      rfl
    · obtain ⟨hbad, hgood⟩ := composePartRequest_of_filling hne hlen hb
      refine ⟨fun hunfit => onlyAnswers_of_owner_eq h (hbad hunfit), fun hfits hroom => ?_⟩
      obtain ⟨ts, hts, howner⟩ := hgood hfits hroom
      exact ⟨ts, _, hts, tokensClamped_iff raw, exec_of_owner_eq h howner⟩
  · show composeEndRequest tag hd s0 = _
    unfold composeEndRequest
    rcases hnone with hc | hc <;> rw [hc] <;> rfl
  · show composeEndRequest tag hd s0 = _
    unfold composeEndRequest
    rw [hc]
    rfl
  · obtain ⟨hbad, hgood⟩ := composeEndChecked_eq tag hd b s0
    have howner : ∀ {x}, composeEndChecked tag hd b s0 = x → owner (.composeEnd tag (.fields hd)) s0 = x :=
      fun hx => (composeEndRequest_of_buffer hb tag hd).trans hx
    refine ⟨fun hunfit => onlyAnswers_of_owner_eq h (howner (hbad hunfit)), fun hfits hfields =>
      ⟨fun id hid hmissing => ?_, fun hthere => ?_⟩⟩
    · exact onlyAnswers_of_owner_eq h (howner ((hgood hfits hfields).1 ⟨id, hid, hmissing⟩))
    · exact ⟨_, headerClamped_iff hd, exec_of_owner_eq h (howner ((hgood hfits hfields).2 hthere))⟩

end Sys2Proof.Machine


/-! PROOFS. The work on queues, slots, voices and the mode touches no channel and no lamp pulse (`KeepsRuns`); what the
operations on runs make of the channels and the pulses (R126 to R132, R140). -/

namespace Sys2Proof.Machine

open Sys2Proof.Claims

/-- No channel and no lamp pulse differs. -/
structure KeepsRuns (s t : State) : Prop where
  ple : t.ple = s.ple
  pulses : t.zrt.zones.map Zone.pulseEnd = s.zrt.zones.map Zone.pulseEnd

theorem KeepsRuns.rfl (s : State) : KeepsRuns s s := ⟨Eq.refl _, Eq.refl _⟩

theorem KeepsRuns.trans {s t u : State} (h : KeepsRuns s t) (g : KeepsRuns t u) : KeepsRuns s u :=
  ⟨g.ple.trans h.ple, g.pulses.trans h.pulses⟩

theorem KeepsRuns.ite {s t : State} {p : Prop} [Decidable p] (h : KeepsRuns s t) : KeepsRuns s (if p then t else s) := by
  split
  · exact h
  · exact .rfl s

theorem KeepsRuns.channel {s t : State} (h : KeepsRuns s t) (c : Nat) : t.channel c = s.channel c := by
  simp only [State.channel, h.ple]

theorem KeepsRuns.pulseEnd {s t : State} (h : KeepsRuns s t) (z : Nat) : (t.zone z).pulseEnd = (s.zone z).pulseEnd :=
  getD_of_map_eq h.pulses coldZone z

theorem forEach_keepsRuns {α : Type} {xs : List α} {f : α → State → State} (h : ∀ x s, KeepsRuns s (f x s)) (s : State) :
    KeepsRuns s (forEach xs f s) := by
  unfold forEach
  induction xs generalizing s with
  | nil => exact .rfl s
  | cons x xs ih => exact (h x s).trans (ih (f x s))

theorem keepsRuns_of_zones {s t : State} (hple : t.ple = s.ple) (hz : t.zrt.zones = s.zrt.zones) : KeepsRuns s t :=
  ⟨hple, by rw [hz]⟩

theorem modifyZone_keepsRuns {f : Zone → Zone} (hf : ∀ z, (f z).pulseEnd = z.pulseEnd) (z : Nat) (s : State) :
    KeepsRuns s (s.modifyZone z f) := ⟨rfl, map_modify hf _ _⟩

theorem judgeHold_ple (s : State) : (judgeHold s).ple = s.ple := by
  unfold judgeHold
  split
  · split
    · split <;> rfl
    · rfl
  · rfl

theorem judgeHold_keepsRuns (s : State) : KeepsRuns s (judgeHold s) :=
  keepsRuns_of_zones (judgeHold_ple s) (by rw [judgeHold_zrt])

theorem generate_keepsRuns (n : Notice) (s : State) : KeepsRuns s (generate n s) := ⟨rfl, rfl⟩

theorem setVoice_keepsRuns (n : Nat) (v : Voice) (s : State) : KeepsRuns s (setVoice n v s) := ⟨rfl, rfl⟩

theorem reportVoice_keepsRuns (n : Nat) (old : Voice) (full : Nat) (s : State) : KeepsRuns s (reportVoice n old full s) := by
  unfold reportVoice
  split
  · exact .rfl s
  · exact generate_keepsRuns _ s

theorem silenceVoices_keepsRuns (a : Nat) (s : State) : KeepsRuns s (silenceVoices a s) :=
  forEach_keepsRuns (fun n s => ((setVoice_keepsRuns n .silent s).trans (reportVoice_keepsRuns n _ 0 _)).ite) s

theorem removeSlot_keepsRuns (a : Nat) (s : State) : KeepsRuns s (removeSlot a s) := ⟨rfl, rfl⟩

theorem freeIfDone_keepsRuns (a : Nat) (s : State) : KeepsRuns s (freeIfDone a s) :=
  ((removeSlot_keepsRuns a s).trans (silenceVoices_keepsRuns a _)).ite

theorem takePlacement_keepsRuns (z a : Nat) (s : State) : KeepsRuns s (takePlacement z a s) :=
  modifyZone_keepsRuns (f := fun zn => { zn with queue := zn.queue.filter (fun p => p.announcement != a) })
    (fun _ => rfl) z s

theorem dropPlacement_keepsRuns (z : Nat) (reason : DropReason) (p : Placement) (s : State) :
    KeepsRuns s (dropPlacement z reason p s) :=
  (((takePlacement_keepsRuns z _ s).trans (generate_keepsRuns _ _)).trans (freeIfDone_keepsRuns _ _)).trans
    (judgeHold_keepsRuns _)

theorem dropWhere_keepsRuns (z : Nat) (reason : DropReason) (which : Placement → Bool) (s : State) :
    KeepsRuns s (dropWhere z reason which s) := forEach_keepsRuns (fun p s => dropPlacement_keepsRuns z reason p s) s

theorem dropEverywhere_keepsRuns (a : Nat) (reason : DropReason) (s : State) : KeepsRuns s (dropEverywhere a reason s) :=
  forEach_keepsRuns (fun z s => dropWhere_keepsRuns z reason _ s) s

theorem makeRoom_keepsRuns (z p : Nat) (s : State) : KeepsRuns s (makeRoom z p s) := by
  unfold makeRoom
  split
  · exact .rfl s
  · split
    · exact dropPlacement_keepsRuns _ _ _ s
    · exact .rfl s

theorem enterQueue_keepsRuns (z : Nat) (p : Placement) (s : State) : KeepsRuns s (enterQueue z p s) :=
  ((makeRoom_keepsRuns z p.priority s).trans (modifyZone_keepsRuns
    (f := fun zn => { zn with queue := insertPlacement (makeRoom z p.priority s).zrt.stampCounter p zn.queue })
    (fun _ => rfl) z _)).trans (judgeHold_keepsRuns _)

theorem enterNew_keepsRuns (z : Nat) (p : Placement) (s : State) : KeepsRuns s (enterNew z p s) :=
  KeepsRuns.trans (t := advanceStamp s) ⟨rfl, rfl⟩ (enterQueue_keepsRuns z _ _)

theorem takeRestored_keepsRuns (z : Nat) (p : Placement) (marked : Bool) (s : State) :
    KeepsRuns s (takeRestored z p marked s).2 := by
  unfold takeRestored
  split
  · exact generate_keepsRuns _ s
  · exact enterQueue_keepsRuns _ _ s

theorem takeRepeat_keepsRuns (z : Nat) (p : Placement) (left : Repeats) (notBefore : RunTime) (marked : Bool) (s : State) :
    KeepsRuns s (takeRepeat z p left notBefore marked s).2 := by
  unfold takeRepeat
  split
  · exact generate_keepsRuns _ s
  · exact enterNew_keepsRuns _ _ s

theorem disposePlacement_keepsRuns (z : Nat) (a : Attached) (o : RunOutcome) (discard : Bool) (s : State) :
    KeepsRuns s (disposePlacement z a o discard s).2 := by
  have hplayed : ∀ marked : Bool, KeepsRuns s
      (if marked then takeRepeat z a.placement a.placement.repeats 0 true s
        else match repeatsAfter a.placement.repeats with
          | none => (Fate.usedUp, s)
          | some left => takeRepeat z a.placement left (restEnds s a.placement.announcement) false s).2 := by
    intro marked
    split
    · exact takeRepeat_keepsRuns ..
    · split
      · exact .rfl s
      · exact takeRepeat_keepsRuns ..
  cases o with
  | truncated => exact takeRestored_keepsRuns ..
  | cut =>
    cases discard with
    | true => exact .rfl s
    | false => exact takeRestored_keepsRuns ..
  | completed | empty => exact hplayed _

theorem setMode_keepsRuns (m : Mode) (cause : ModeCause) (s : State) : KeepsRuns s (setMode m cause s) := ⟨rfl, rfl⟩

theorem emergencyEvent_keepsRuns (s : State) : KeepsRuns s (emergencyEvent s) := by
  unfold emergencyEvent
  split
  · exact .rfl s
  · exact .rfl s
  · exact setMode_keepsRuns ..
  · exact setMode_keepsRuns ..
  · exact .rfl s
  · exact judgeHold_keepsRuns s

theorem dropForNight_keepsRuns (s : State) : KeepsRuns s (dropForNight s) :=
  forEach_keepsRuns (fun z s => dropWhere_keepsRuns z .night _ s) s

theorem enterNight_keepsRuns (cause : ModeCause) (s : State) : KeepsRuns s (enterNight cause s) :=
  (dropForNight_keepsRuns s).trans (setMode_keepsRuns ..)

theorem enterNightAlert_keepsRuns (cause : ModeCause) (s : State) : KeepsRuns s (enterNightAlert cause s) :=
  ((dropForNight_keepsRuns s).trans (setMode_keepsRuns ..)).trans (judgeHold_keepsRuns _)

theorem windingTest_keepsRuns (s : State) : KeepsRuns s (windingTest s) := by
  unfold windingTest
  split
  · split
    · exact enterNight_keepsRuns ..
    · exact enterNightAlert_keepsRuns ..
  · exact .rfl s

theorem runEndReported_keepsRuns (s : State) : KeepsRuns s (runEndReported s) :=
  (judgeHold_keepsRuns s).trans (windingTest_keepsRuns _)

theorem makeCoverage_keepsRuns (z a : Nat) (s : State) : KeepsRuns s (makeCoverage z a s) := by
  unfold makeCoverage
  split
  · exact (enterNew_keepsRuns ..).trans (emergencyEvent_keepsRuns _)
  · exact generate_keepsRuns _ s

theorem resumeCoverage_keepsRuns (z announcement : Nat) (a : Attached) (discard : Bool) (s : State) :
    KeepsRuns s (resumeCoverage z announcement a discard s) := (makeCoverage_keepsRuns z announcement s).ite

theorem makeSlot_keepsRuns (p : Nat) (s : State) : KeepsRuns s (makeSlot p s) := by
  unfold makeSlot
  split
  · exact .rfl s
  · split
    · exact (dropEverywhere_keepsRuns ..).trans (removeSlot_keepsRuns ..)
    · exact .rfl s

theorem placeIn_keepsRuns (x : Slot) (cs : Counts × State) (z : Nat) : KeepsRuns cs.2 (placeIn x cs z).2 := by
  obtain ⟨c, s⟩ := cs
  simp only [placeIn]
  split
  · exact .rfl s
  · split
    · exact generate_keepsRuns _ s
    · exact enterNew_keepsRuns ..

theorem placeAll_keepsRuns (x : Slot) (s : State) : KeepsRuns s (placeAll x s).2 := by
  have hfold : ∀ (zs : List Nat) (cs : Counts × State), KeepsRuns cs.2 (zs.foldl (placeIn x) cs).2 := by
    intro zs
    induction zs with
    | nil => exact fun cs => .rfl cs.2
    | cons z zs ih => exact fun cs => (placeIn_keepsRuns x cs z).trans (ih _)
  exact hfold _ (noCounts, s)

theorem create_keepsRuns (x : Slot) (s : State) : KeepsRuns s (create x s).2 := by
  unfold create
  split
  · have hplaced := fun a => ((makeSlot_keepsRuns x.priority s).trans
      (t := makeSlot x.priority s) (u := recordSlot x a (makeSlot x.priority s)) ⟨rfl, rfl⟩).trans
        (placeAll_keepsRuns { x with id := a } _)
    simp only
    split
    · exact hplaced _
    · exact (hplaced _).trans (removeSlot_keepsRuns ..)
  · exact .rfl s

/-! ### The end of a zone's part and of a run -/

theorem channel_set_self {l : List (Option Run)} {c : Nat} (h : c < l.length) (r : Option Run) :
    (l.set c r).getD c none = r := by simp [List.getD_eq_getElem?_getD, h]

theorem channel_set_ne {l : List (Option Run)} {c d : Nat} (h : d ≠ c) (r : Option Run) :
    (l.set c r).getD d none = l.getD d none := by simp [List.getD_eq_getElem?_getD, Ne.symm h]

/-- A channel that plays is one of the channels. -/
theorem lt_of_channel {s : State} {c : Nat} {r : Run} (h : s.channel c = some r) : c < s.ple.channels.length := by
  by_contra hc
  simp [State.channel, List.getD_eq_getElem?_getD, List.getElem?_eq_none (Nat.le_of_not_lt hc)] at h

theorem channel_setChannel {s : State} {c : Nat} (h : c < s.ple.channels.length) (r : Option Run) :
    (s.setChannel c r).channel c = r := channel_set_self h r

theorem channel_setChannel_ne (s : State) {c d : Nat} (h : d ≠ c) (r : Option Run) :
    (s.setChannel c r).channel d = s.channel d := channel_set_ne h r

/-- What the end of zone `z`'s part leaves of the run it was attached to. -/
def partEnded (z : Nat) (e : Left) (r : Run) : Run :=
  { r with zones := r.zones.filter (fun a => a.zone != z), left := insertLeft e r.left }

/-- The end of a zone's part, on the channels. -/
theorem endPart_ple {s : State} {c z : Nat} {r : Run} {a : Attached} (hr : s.channel c = some r)
    (ha : attachmentIn r z = some a) (o : RunOutcome) (discard : Bool) :
    ∃ fate, (endPart c o discard z s).ple =
      { s.ple with channels := s.ple.channels.set c (some (partEnded z { zone := z, outcome := o, fate := fate } r)) } := by
  have hlt := lt_of_channel hr
  have hkept : KeepsRuns (detachZone c z r s) (resumeCoverage z r.announcement a discard
      (disposePlacement z a o discard (detachZone c z r s)).2) :=
    (disposePlacement_keepsRuns ..).trans (resumeCoverage_keepsRuns ..)
  refine ⟨(disposePlacement z a o discard (detachZone c z r s)).1, ?_⟩
  unfold endPart
  rw [hr]
  dsimp only
  rw [ha]
  dsimp only
  have hchannel := hkept.channel c
  rw [show (detachZone c z r s).channel c = some { r with zones := r.zones.filter (fun a => a.zone != z) } from
    channel_setChannel hlt _] at hchannel
  unfold recordLeft
  rw [hchannel]
  dsimp only
  have hset : ∀ (t : State) (x y : Option Run), t.ple = { s.ple with channels := s.ple.channels.set c x } →
      (t.setChannel c y).ple = { s.ple with channels := s.ple.channels.set c y } := fun t x y ht => by
    simp only [State.setChannel, State.withPle_ple, ht, List.set_set]
  exact hset _ _ _ hkept.ple

/-- The end of a zone's part, where the zone is not attached. -/
theorem endPart_of_detached {s : State} {c z : Nat} (h : attachedTo s z c = false) (o : RunOutcome) (discard : Bool) :
    endPart c o discard z s = s := by
  unfold endPart
  unfold attachedTo at h
  cases hr : s.channel c with
  | none => rfl
  | some r =>
    rw [hr] at h
    dsimp only at h ⊢
    rw [Option.isSome_eq_false_iff.mp h |> Option.isNone_iff_eq_none.mp]

theorem attachedTo_eq_true {s : State} {z c : Nat} :
    attachedTo s z c = true ↔ ∃ r a, s.channel c = some r ∧ attachmentIn r z = some a := by
  unfold attachedTo
  cases s.channel c with
  | none => simp
  | some r => simp [Option.isSome_iff_exists]

/-- The channels and the pulses after the end of a zone's part, whether the zone is attached or not. -/
theorem endPart_cases (c : Nat) (o : RunOutcome) (discard : Bool) (z : Nat) (s : State) :
    endPart c o discard z s = s ∨ ∃ r a fate, s.channel c = some r ∧ attachmentIn r z = some a ∧
      (endPart c o discard z s).ple = { s.ple with
        channels := s.ple.channels.set c (some (partEnded z { zone := z, outcome := o, fate := fate } r)) } := by
  cases h : attachedTo s z c with
  | false => exact .inl (endPart_of_detached h o discard)
  | true =>
    obtain ⟨r, a, hr, ha⟩ := attachedTo_eq_true.mp h
    obtain ⟨fate, hple⟩ := endPart_ple hr ha o discard
    exact .inr ⟨r, a, fate, hr, ha, hple⟩

theorem endPart_channel_ne {c d : Nat} (h : d ≠ c) (o : RunOutcome) (discard : Bool) (z : Nat) (s : State) :
    (endPart c o discard z s).channel d = s.channel d := by
  obtain heq | ⟨r, a, fate, -, -, hple⟩ := endPart_cases c o discard z s
  · rw [heq]
  · simp only [State.channel, hple, channel_set_ne h]

/-- The run a zone's part ended in goes on without the zone. -/
theorem endPart_channel {s : State} {c : Nat} {r : Run} (h : s.channel c = some r) (o : RunOutcome) (discard : Bool)
    (z : Nat) : ∃ left, (endPart c o discard z s).channel c =
      some { r with zones := r.zones.filter (fun a => a.zone != z), left := left } := by
  obtain heq | ⟨r', a, fate, hr, ha, hple⟩ := endPart_cases c o discard z s
  · rw [heq]
    cases ha : attachmentIn r z with
    | none =>
      refine ⟨r.left, h.trans (congrArg some ?_)⟩
      have hall : r.zones.filter (fun a => a.zone != z) = r.zones :=
        List.filter_eq_self.mpr fun a hmem => by
          have := List.find?_eq_none.mp ha a hmem
          simpa using this
      rw [hall]
    | some a =>
      obtain ⟨fate, hple⟩ := endPart_ple h ha o discard
      have hch : (endPart c o discard z s).channel c = some (partEnded z { zone := z, outcome := o, fate := fate } r) := by
        simp only [State.channel, hple]; exact channel_set_self (lt_of_channel h) _
      rw [heq] at hch
      exact ⟨_, hch⟩
  · obtain rfl : r = r' := Option.some.inj (h.symm.trans hr)
    refine ⟨insertLeft { zone := z, outcome := o, fate := fate } r.left, ?_⟩
    simp only [State.channel, hple]
    exact channel_set_self (lt_of_channel h) _

theorem endPart_nextSeq (c : Nat) (o : RunOutcome) (discard : Bool) (z : Nat) (s : State) :
    (endPart c o discard z s).ple.nextSeq = s.ple.nextSeq := by
  obtain heq | ⟨r, a, fate, -, -, hple⟩ := endPart_cases c o discard z s
  · rw [heq]
  · rw [hple]

/-- A channel becomes IDLE. -/
theorem channelIdle_ple (c : Nat) (o : RunOutcome) (s : State) :
    (channelIdle c o s).ple = { s.ple with channels := s.ple.channels.set c none } := by
  unfold channelIdle
  split
  next h =>
    have hset : s.ple.channels.set c none = s.ple.channels := by
      refine List.ext_getElem? fun d => ?_
      rw [List.getElem?_set]
      split
      next hd =>
        subst hd
        split
        next hlt =>
          have hget : s.ple.channels[c]'hlt = none := by
            simpa [State.channel, List.getD_eq_getElem?_getD, hlt] using h
          rw [List.getElem?_eq_getElem hlt, hget]
        next hge => rw [List.getElem?_eq_none (Nat.le_of_not_lt hge)]
      next => rfl
    rw [hset]
  next r h =>
    exact ((freeIfDone_keepsRuns r.announcement (s.setChannel c none)).trans
      ((runEndReported_keepsRuns _).trans (generate_keepsRuns _ _))).ple

theorem channelIdle_channel (c : Nat) (o : RunOutcome) (s : State) : (channelIdle c o s).channel c = none := by
  simp only [State.channel, channelIdle_ple]
  simp [List.getD_eq_getElem?_getD, List.getElem?_set]
  split <;> simp

theorem channelIdle_channel_ne {c d : Nat} (h : d ≠ c) (o : RunOutcome) (s : State) :
    (channelIdle c o s).channel d = s.channel d := by
  simp only [State.channel, channelIdle_ple, channel_set_ne h]

theorem forEach_endPart_channel_ne {c d : Nat} (h : d ≠ c) (o : RunOutcome) (discard : Bool) :
    ∀ (zs : List Nat) (s : State), (forEach zs (endPart c o discard) s).channel d = s.channel d
  | [], _ => rfl
  | z :: zs, s => (forEach_endPart_channel_ne h o discard zs _).trans (endPart_channel_ne h o discard z s)

theorem forEach_endPart_nextSeq (c : Nat) (o : RunOutcome) (discard : Bool) :
    ∀ (zs : List Nat) (s : State), (forEach zs (endPart c o discard) s).ple.nextSeq = s.ple.nextSeq
  | [], _ => rfl
  | z :: zs, s => (forEach_endPart_nextSeq c o discard zs _).trans (endPart_nextSeq c o discard z s)

/-- The parts of several zones end: the run goes on without them. -/
theorem forEach_endPart_channel {c : Nat} (o : RunOutcome) (discard : Bool) :
    ∀ (zs : List Nat) {s : State} {r : Run}, s.channel c = some r →
      ∃ left, (forEach zs (endPart c o discard) s).channel c =
        some { r with zones := r.zones.filter (fun a => !zs.contains a.zone), left := left }
  | [], s, r, h => ⟨r.left, h.trans (by simp)⟩
  | z :: zs, s, r, h => by
    obtain ⟨left, hz⟩ := endPart_channel h o discard z
    obtain ⟨left', hzs⟩ := forEach_endPart_channel o discard zs hz
    refine ⟨left', hzs.trans (congrArg some ?_)⟩
    dsimp only
    rw [List.filter_filter]
    simp only [List.contains_cons, Bool.not_or, bne, Bool.and_comm]

/-- A run's end leaves its channel IDLE and no other channel changed. -/
theorem endRun_channel (c : Nat) (o : RunOutcome) (s : State) : (endRun c o s).channel c = none := channelIdle_channel c o _

theorem endRun_channel_ne {c d : Nat} (h : d ≠ c) (o : RunOutcome) (s : State) : (endRun c o s).channel d = s.channel d :=
  (channelIdle_channel_ne h o _).trans (forEach_endPart_channel_ne h o false _ s)

theorem endRun_nextSeq (c : Nat) (o : RunOutcome) (s : State) : (endRun c o s).ple.nextSeq = s.ple.nextSeq := by
  unfold endRun
  rw [channelIdle_ple]
  exact forEach_endPart_nextSeq c o false _ s

end Sys2Proof.Machine


/-! PROOFS. Runs phrase by phrase (R127), lamps and their pulses (R140), and the resolution of content (R76 to R79). -/

namespace Sys2Proof.Machine

open Sys2Proof.Claims

/-! ### Phrase by phrase -/

theorem takePhraseEnd_of_idle {c : Nat} {s : State} (h : s.channel c = none) : takePhraseEnd c s = s := by
  unfold takePhraseEnd; rw [h]

theorem takePhraseEnd_eq {c : Nat} {r : Run} {s : State} (h : s.channel c = some r) : takePhraseEnd c s =
    if r.phase = .phrase ∧ reached r.phaseEnd s.now = true then settle (completePhrase c r s) else s := by
  unfold takePhraseEnd; rw [h]

theorem takeGapEnd_of_idle {c : Nat} {s : State} (h : s.channel c = none) : takeGapEnd c s = s := by
  unfold takeGapEnd; rw [h]

theorem takeGapEnd_eq {c : Nat} {r : Run} {s : State} (h : s.channel c = some r) : takeGapEnd c s =
    if r.phase = .gap ∧ reached r.phaseEnd s.now = true then s.setChannel c (some (nextPhrase s r)) else s := by
  unfold takeGapEnd; rw [h]

theorem continueRun_eq {c : Nat} {r : Run} {s : State} (h : s.channel c = some r) : continueRun c s =
    if r.zones = [] then channelIdle c .truncated s else s.setChannel c (some (enterGap s r)) := by
  unfold continueRun; rw [h]

theorem continueRun_channel_ne {c d : Nat} (h : d ≠ c) (s : State) : (continueRun c s).channel d = s.channel d := by
  unfold continueRun
  split
  · rfl
  · split
    · exact channelIdle_channel_ne h _ s
    · exact channel_setChannel_ne s h _

/-- A run keeps its announcement and its zones into its gap. -/
theorem enterGap_keeps (s : State) (r : Run) : (enterGap s r).zones = r.zones ∧ (enterGap s r).announcement = r.announcement := by
  unfold enterGap
  split
  · exact ⟨rfl, rfl⟩
  · exact ⟨rfl, rfl⟩

/-- In a run with distinct zones, those not marked to truncate are the ones without a mark. -/
theorem filter_unmarked {r : Run} (h : (r.zones.map Attached.zone).Nodup) :
    r.zones.filter (fun a => !(markedZones r).contains a.zone) = r.zones.filter (fun a => a.mark.isNone) := by
  refine List.filter_congr fun a ha => ?_
  have hmarked : (markedZones r).contains a.zone = true ↔ a.mark.isSome = true := by
    simp only [markedZones, List.contains_iff_mem, List.mem_map, List.mem_filter]
    refine ⟨fun ⟨b, ⟨hb, hmark⟩, hzone⟩ => ?_, fun hmark => ⟨a, ⟨ha, hmark⟩, rfl⟩⟩
    rwa [List.inj_on_of_nodup_map h hb ha hzone] at hmark
  cases hm : a.mark with
  | none => simpa [hm] using hmarked
  | some m => simpa [hm] using hmarked

/-- A phrase before the last: the zones marked to truncate leave, and the run goes on in the others. -/
theorem completePhrase_of_marked {c : Nat} {r : Run} {s : State} (h : s.channel c = some r)
    (hpos : r.position + 1 < r.phrases.length) (hzones : (r.zones.map Attached.zone).Nodup) :
    ((∀ a ∈ r.zones, a.mark ≠ none) → (completePhrase c r s).channel c = none) ∧
    ((∃ a ∈ r.zones, a.mark = none) → ∃ r', (completePhrase c r s).channel c = some r' ∧
      r'.zones = r.zones.filter (fun a => a.mark.isNone) ∧ r'.announcement = r.announcement) := by
  obtain ⟨left, hleft⟩ := forEach_endPart_channel .truncated false (markedZones r) h
  rw [filter_unmarked hzones] at hleft
  have heq : completePhrase c r s = continueRun c (forEach (markedZones r) (endPart c .truncated false) s) :=
    if_neg (Nat.not_le.mpr hpos)
  rw [heq, continueRun_eq hleft]
  dsimp only
  refine ⟨fun hall => ?_, fun ⟨a, ha, hmark⟩ => ?_⟩
  · rw [if_pos (List.filter_eq_nil_iff.mpr fun a ha => by simp [hall a ha])]
    exact channelIdle_channel c _ _
  · have hmem : a ∈ r.zones.filter (fun a => a.mark.isNone) := List.mem_filter.mpr ⟨ha, by simp [hmark]⟩
    rw [if_neg (List.ne_nil_of_mem hmem)]
    exact ⟨_, channel_setChannel (lt_of_channel hleft) _, enterGap_keeps _ _⟩

theorem completePhrase_channel_ne {c d : Nat} (h : d ≠ c) (r : Run) (s : State) :
    (completePhrase c r s).channel d = s.channel d := by
  unfold completePhrase
  split
  · exact endRun_channel_ne h _ s
  · exact (continueRun_channel_ne h _).trans (forEach_endPart_channel_ne h _ _ _ s)

/-- Settles O52. -/
theorem runsGoOnPhraseByPhrase : Obligations.RunsGoOnPhraseByPhrase := by
  unfold Obligations.RunsGoOnPhraseByPhrase
  intro s hs
  have phrase : ∀ c, exec (.phraseCompletion c) s = .next (takePhraseEnd c s) := fun c => exec_of_running rfl (fun _ => rfl) hs
  have gap : ∀ c, exec (.gapEnd c) s = .next (takeGapEnd c s) := fun c => exec_of_running rfl (fun _ => rfl) hs
  refine ⟨fun c r _ hr => ⟨fun h => ?_, fun h => ?_, fun hphase hdue => ?_, fun hphase hdue hlast => ?_,
    fun hphase hdue hpos hzones hmarks => ?_, fun hphase hdue hpos hnodup => ?_⟩, fun c hc => ?_⟩
  · rw [phrase, takePhraseEnd_eq hr]; exact congrArg _ (if_neg h)
  · rw [gap, takeGapEnd_eq hr]; exact congrArg _ (if_neg h)
  · rw [gap, takeGapEnd_eq hr]; exact congrArg _ (if_pos ⟨hphase, hdue⟩)
  · refine ⟨_, by rw [phrase, takePhraseEnd_eq hr]; exact congrArg _ (if_pos ⟨hphase, hdue⟩),
      (completePhrase_settles c r s).toPlays, ?_, fun d hd => completePhrase_channel_ne hd r s⟩
    rw [show completePhrase c r s = endRun c .completed s from if_pos hlast]
    exact endRun_channel c _ s
  · rw [phrase, takePhraseEnd_eq hr]
    refine (congrArg _ (if_pos ⟨hphase, hdue⟩)).trans (congrArg (fun u => Host.Outcome.next (settle u)) ?_)
    have hnone : markedZones r = [] := by
      unfold markedZones
      rw [List.filter_eq_nil_iff.mpr fun a ha => by simp [hmarks a ha]]
      rfl
    have heq : completePhrase c r s = continueRun c s := by
      unfold completePhrase
      rw [if_neg (Nat.not_le.mpr hpos), hnone]
      rfl
    rw [heq, continueRun_eq hr, if_neg hzones]
    rfl
  · obtain ⟨hall, hsome⟩ := completePhrase_of_marked hr hpos hnodup
    exact ⟨_, by rw [phrase, takePhraseEnd_eq hr]; exact congrArg _ (if_pos ⟨hphase, hdue⟩),
      (completePhrase_settles c r s).toPlays, fun d hd => completePhrase_channel_ne hd r s, hall, hsome⟩
  · rw [phrase, gap, takePhraseEnd_of_idle hc, takeGapEnd_of_idle hc]
    exact ⟨rfl, rfl⟩

/-! ### The start of a run -/

/-- The placements of an announcement are taken out of the queues of the zones (R126). -/
theorem forEach_takePlacement_zone (a : Nat) : ∀ (zs : List Nat) (s : State) (z : Nat),
    (forEach zs (fun z => takePlacement z a) s).zone z = if z ∈ zs ∧ z < s.zrt.zones.length then
      { s.zone z with queue := (s.zone z).queue.filter (fun p => p.announcement != a) } else s.zone z
  | [], s, z => by simp [forEach]
  | y :: ys, s, z => by
    have hlen : (takePlacement y a s).zrt.zones.length = s.zrt.zones.length := List.length_modify ..
    have hrest := forEach_takePlacement_zone a ys (takePlacement y a s) z
    have hone : (takePlacement y a s).zone z = if z = y ∧ z < s.zrt.zones.length then
        { s.zone z with queue := (s.zone z).queue.filter (fun p => p.announcement != a) } else s.zone z :=
      zone_modifyZone ..
    refine Eq.trans hrest ?_
    rw [hone, hlen]
    by_cases hy : z = y
    · subst hy
      by_cases hz : z < s.zrt.zones.length <;> by_cases hys : z ∈ ys <;> simp [hz, hys]
    · simp [hy]

/-- The zones of a run that starts begin their lamp pulses (R140). -/
theorem forEach_beginPulse_zone (prio n : Nat) : ∀ (zs : List Nat) (s : State) (z : Nat),
    (forEach zs (fun z s => s.modifyZone z (beginPulse prio (s.after n))) s).zone z =
      if z ∈ zs ∧ z < s.zrt.zones.length then beginPulse prio (s.after n) (s.zone z) else s.zone z
  | [], s, z => by simp [forEach]
  | y :: ys, s, z => by
    have hlen : (s.modifyZone y (beginPulse prio (s.after n))).zrt.zones.length = s.zrt.zones.length := List.length_modify ..
    have hrest := forEach_beginPulse_zone prio n ys (s.modifyZone y (beginPulse prio (s.after n))) z
    have hone := zone_modifyZone y z (beginPulse prio (s.after n)) s
    have hafter : (s.modifyZone y (beginPulse prio (s.after n))).after n = s.after n := rfl
    have hidem : ∀ zn, beginPulse prio (s.after n) (beginPulse prio (s.after n) zn) = beginPulse prio (s.after n) zn := by
      intro zn
      by_cases h : zn.lampMode = .pulsed ∧ zn.lampThreshold ≤ prio <;> simp [beginPulse, h]
    refine Eq.trans hrest ?_
    rw [hone, hlen, hafter]
    by_cases hy : z = y
    · subst hy
      by_cases hz : z < s.zrt.zones.length <;> by_cases hys : z ∈ ys <;> simp [hz, hys, hidem]
    · simp [hy]

/-- The run a start of `x` on zones `zs` puts on its channel, and the part with it there, its pulses still to begin. -/
def started (c : Nat) (x : Slot) (zs : List Nat) (seized : Option Nat) (s : State) : State :=
  let run := newRun s x (resolve s x) (attachments s x.priority x.id zs)
  generate (startNotice c run seized)
    (judgeHold (occupyChannel c run (forEach zs (fun z => takePlacement z x.id) s)))

theorem startRun_of_empty {s : State} {x : Slot} (h : (resolve s x).phrases = []) (c : Nat) (zs : List Nat)
    (seized : Option Nat) : startRun c x zs seized s = endRun c .empty (started c x zs seized s) := if_pos h

theorem startRun_of_phrases {s : State} {x : Slot} (h : (resolve s x).phrases ≠ []) (c : Nat) (zs : List Nat)
    (seized : Option Nat) : startRun c x zs seized s =
      forEach zs (fun z s => s.modifyZone z (beginPulse x.priority (s.after Config.pulseTenths)))
        (started c x zs seized s) := if_neg h

theorem takeAll_keepsRuns (a : Nat) (zs : List Nat) (s : State) :
    KeepsRuns s (forEach zs (fun z => takePlacement z a) s) := forEach_keepsRuns (fun z => takePlacement_keepsRuns z a) s

theorem started_ple (c : Nat) (x : Slot) (zs : List Nat) (seized : Option Nat) (s : State) :
    (started c x zs seized s).ple = { s.ple with
      channels := s.ple.channels.set c (some (newRun s x (resolve s x) (attachments s x.priority x.id zs)))
      nextSeq := s.ple.nextSeq + 1 } := by
  unfold started
  rw [generate_ple, judgeHold_ple]
  have hple := (takeAll_keepsRuns x.id zs s).ple
  simp only [occupyChannel, State.withPle_ple, hple]

theorem started_zone (c : Nat) (x : Slot) (zs : List Nat) (seized : Option Nat) (s : State) (z : Nat) :
    (started c x zs seized s).zone z = if z ∈ zs ∧ z < s.zrt.zones.length then
      { s.zone z with queue := (s.zone z).queue.filter (fun p => p.announcement != x.id) } else s.zone z := by
  rw [← forEach_takePlacement_zone x.id zs s z]
  refine zone_of_zones ?_ z
  unfold started
  rw [generate_zrt, judgeHold_zrt]
  rfl

theorem forEach_modifyZone_length {f : Nat → State → Zone → Zone} : ∀ (zs : List Nat) (s : State),
    (forEach zs (fun z s => s.modifyZone z (f z s)) s).zrt.zones.length = s.zrt.zones.length
  | [], _ => rfl
  | z :: zs, s => (forEach_modifyZone_length zs (s.modifyZone z (f z s))).trans (List.length_modify ..)

theorem started_zones_length (c : Nat) (x : Slot) (zs : List Nat) (seized : Option Nat) (s : State) :
    (started c x zs seized s).zrt.zones.length = s.zrt.zones.length := by
  unfold started
  rw [generate_zrt, judgeHold_zrt]
  exact forEach_modifyZone_length
    (f := fun _ _ zn => { zn with queue := zn.queue.filter (fun p => p.announcement != x.id) }) zs s

theorem started_clock (c : Nat) (x : Slot) (zs : List Nat) (seized : Option Nat) (s : State) :
    (started c x zs seized s).clock = s.clock :=
  (((((forEach_settles (fun z => takePlacement_settles z x.id) s).trans (occupyChannel_settles _ _ _)).trans
    (judgeHold_settles _)).trans (generate_settles _ _)) : Settles s (started c x zs seized s)).clock

theorem beginPulses_ple (prio n : Nat) : ∀ (zs : List Nat) (s : State),
    (forEach zs (fun z s => s.modifyZone z (beginPulse prio (s.after n))) s).ple = s.ple
  | [], _ => rfl
  | z :: zs, s => beginPulses_ple prio n zs (s.modifyZone z (beginPulse prio (s.after n)))

/-- A zone's record after the start of a run with phrases. -/
theorem startRun_zone {s : State} {x : Slot} (h : (resolve s x).phrases ≠ []) (c : Nat) (zs : List Nat)
    (seized : Option Nat) (z : Nat) : (startRun c x zs seized s).zone z =
      if z ∈ zs ∧ z < s.zrt.zones.length then beginPulse x.priority (s.after Config.pulseTenths)
        { s.zone z with queue := (s.zone z).queue.filter (fun p => p.announcement != x.id) } else s.zone z := by
  rw [startRun_of_phrases h, forEach_beginPulse_zone, started_zone, started_zones_length]
  simp only [State.after, started_clock]
  split
  · rfl
  · rfl

/-! ### Lamps -/

/-- The end of a zone's part ends its lamp pulse. -/
theorem endPart_pulseEnd {s : State} {c z : Nat} {r : Run} {a : Attached} (hr : s.channel c = some r)
    (ha : attachmentIn r z = some a) (o : RunOutcome) (discard : Bool) :
    ((endPart c o discard z s).zone z).pulseEnd = none := by
  have hkept : KeepsRuns (detachZone c z r s) (resumeCoverage z r.announcement a discard
      (disposePlacement z a o discard (detachZone c z r s)).2) :=
    (disposePlacement_keepsRuns ..).trans (resumeCoverage_keepsRuns ..)
  have hrecord : ∀ e t, (recordLeft c e t).zrt = t.zrt := fun e t => by
    unfold recordLeft
    split <;> rfl
  have hdetach : ((detachZone c z r s).zone z).pulseEnd = none := by
    unfold detachZone
    rw [zone_modifyZone]
    split
    · rfl
    next h =>
      have hz : s.zrt.zones.length ≤ z := by simpa using h
      simp [State.zone, List.getD_eq_getElem?_getD, List.getElem?_eq_none hz, coldZone]
  unfold endPart
  rw [hr]
  dsimp only
  rw [ha]
  dsimp only
  rw [zone_of_zones (congrArg Zrt.zones (hrecord _ _)), hkept.pulseEnd, hdetach]

theorem takePulseEnd_of_notDue {s : State} {z : Nat} (h : (s.zone z).pulseEnd = none ∨
    ∃ e, (s.zone z).pulseEnd = some e ∧ reached e s.clock.runTime = false) : takePulseEnd z s = s := by
  unfold takePulseEnd
  rcases h with h | ⟨e, h, he⟩
  · rw [h]
  · rw [h]
    exact if_neg (by rw [State.now, he]; exact Bool.false_ne_true)

theorem effective_of_covered {zn : Zone} (h : zn.covering.isSome = true) : effective zn = .evacuate := if_pos h

theorem effective_of_uncovered {zn : Zone} (h : zn.covering = none) : effective zn = baseEffective zn.base := by
  unfold effective; rw [h]; rfl

theorem lampOn_of_evacuate {s : State} {z : Nat} (h : (s.zone z).covering.isSome = true) : lampOn s z = true := by
  unfold lampOn
  simp only [effective_of_covered h]

theorem lampOn_of_off {s : State} {z : Nat} (h : (s.zone z).covering = none) (hm : (s.zone z).lampMode = .off) :
    lampOn s z = false := by
  unfold lampOn
  simp only [effective_of_uncovered h, hm]
  cases (s.zone z).base <;> rfl

theorem lampOn_of_steady {s : State} {z : Nat} (h : (s.zone z).covering = none) (hm : (s.zone z).lampMode = .steady) :
    lampOn s z = true ↔ ∃ r, runOf s z = some r ∧ (s.zone z).lampThreshold ≤ r.priority := by
  unfold lampOn
  simp only [effective_of_uncovered h, hm]
  cases (s.zone z).base <;> cases runOf s z <;> simp [baseEffective]

theorem lampOn_of_pulsed {s : State} {z : Nat} (h : (s.zone z).covering = none) (hm : (s.zone z).lampMode = .pulsed) :
    lampOn s z = (s.zone z).pulseEnd.isSome := by
  unfold lampOn
  simp only [effective_of_uncovered h, hm]
  cases (s.zone z).base <;> rfl

/-- Settles O54: the table of R140, and where a pulse begins and ends. -/
theorem lampsShowTheirZones : Obligations.LampsShowTheirZones := by
  unfold Obligations.LampsShowTheirZones
  refine ⟨fun s z => ⟨lampOn_of_evacuate, lampOn_of_off, lampOn_of_steady, fun h hm => ?_⟩,
    fun s c x zs seized _ hphrases z hz hlt => ?_,
    fun s c z r a o discard hr ha => endPart_pulseEnd hr ha o discard, fun s hs => ⟨fun z h => ?_, fun z e he hdue => ?_⟩⟩
  · rw [lampOn_of_pulsed h hm, Option.isSome_iff_ne_none]
  · rw [startRun_zone hphrases, if_pos ⟨hz, hlt⟩]
    unfold beginPulse
    dsimp only
    split
    · rfl
    · rfl
  · rw [exec_of_running rfl (fun _ => rfl) hs]
    exact congrArg _ (takePulseEnd_of_notDue h)
  · rw [exec_of_running rfl (fun _ => rfl) hs]
    refine congrArg Host.Outcome.next ?_
    show takePulseEnd z s = _
    unfold takePulseEnd
    rw [he]
    exact if_pos hdue

/-! ### Resolution -/

/-- Tokens that are no markers are resolved in list order where the segment is kept, and give nothing where it is not. -/
theorem expandTokens_append (s : State) (c : Option Call) (a : Option Anchor) (keep : Bool) (rest : List Token) :
    ∀ {ts : List Token}, (∀ t ∈ ts, isMarker t = false) → expandTokens s c a keep (ts ++ rest) =
      (if keep then ts.flatMap (expandToken s c a) else []) ++ expandTokens s c a keep rest
  | [], _ => by cases keep <;> rfl
  | t :: ts, h => by
    obtain ⟨ht, hts⟩ := List.forall_mem_cons.mp h
    have hstep : expandTokens s c a keep (t :: (ts ++ rest)) =
        if keep then expandToken s c a t ++ expandTokens s c a keep (ts ++ rest)
        else expandTokens s c a keep (ts ++ rest) := by
      cases t with
      | ifDelayed | ifChanged | endIf => exact absurd ht (by simp [isMarker])
      | phrase | number | time | dest | origin | cls | calling | platform | oldPlatform | schedTime | expTime | delay =>
        rfl
    rw [List.cons_append, hstep, expandTokens_append s c a keep rest hts]
    cases keep with
    | true => simp
    | false => simp

theorem expandTokens_plain (s : State) (c : Option Call) (a : Option Anchor) (keep : Bool) {ts : List Token}
    (h : ∀ t ∈ ts, isMarker t = false) :
    expandTokens s c a keep ts = if keep then ts.flatMap (expandToken s c a) else [] := by
  have := expandTokens_append s c a keep [] h
  rw [List.append_nil, show expandTokens s c a keep [] = [] by rfl, List.append_nil] at this
  exact this

theorem segmentTest_eq (s : State) (c : Option Call) (a : Option Anchor) (delayed : Bool) :
    segmentTest s c a delayed = segmentKept s c a delayed := by
  cases c with
  | none => rfl
  | some c => cases delayed <;> simp [segmentTest, segmentKept, isDelayed, delayFor_eq]

/-- A conditional segment is kept by its test, and the list goes on behind it (R77). -/
theorem expandTokens_marker (s : State) (c : Option Call) (a : Option Anchor) (keep delayed : Bool) (ts : List Token) :
    expandTokens s c a keep ((if delayed then .ifDelayed else .ifChanged) :: ts) =
      expandTokens s c a (segmentKept s c a delayed) ts := by
  rw [← segmentTest_eq]
  cases delayed <;> rfl

theorem phrase?_mem {s : State} {id : Nat} {p : Phrase} (h : s.phrase? id = some p) : p ∈ s.asc.directory :=
  List.mem_of_find?_eq_some h

theorem resolve_phrases_mem {s : State} {x : Slot} {p : Phrase} (h : p ∈ (resolve s x).phrases) : p ∈ s.asc.directory := by
  rcases List.mem_append.mp h with h | h
  · obtain ⟨q, -, hq⟩ := Option.bind_eq_some_iff.mp (Option.mem_toList.mp h)
    exact phrase?_mem hq
  · obtain ⟨id, -, hid⟩ := List.mem_filterMap.mp (List.mem_of_mem_take h)
    exact phrase?_mem hid

theorem resolve_phrases_length (s : State) (x : Slot) : (resolve s x).phrases.length ≤ 97 := by
  simp only [resolve, List.length_append, List.length_take, maxResolved]
  have : ∀ o : Option Phrase, o.toList.length ≤ 1 := fun o => by cases o <;> simp
  have := this (x.chime.bind s.phrase?)
  omega

/-- A run start whose resolution is empty ends it at once (R79). -/
theorem startRun_of_empty_channels {s : State} {x : Slot} (h : (resolve s x).phrases = []) (c : Nat) (zs : List Nat)
    (seized : Option Nat) : (startRun c x zs seized s).channel c = none ∧
      (startRun c x zs seized s).ple.nextSeq = s.ple.nextSeq + 1 ∧
      ∀ d, d ≠ c → (startRun c x zs seized s).channel d = s.channel d := by
  rw [startRun_of_empty h]
  refine ⟨endRun_channel c _ _, ?_, fun d hd => ?_⟩
  · rw [endRun_nextSeq, started_ple]
  · rw [endRun_channel_ne hd]
    simp only [State.channel, started_ple]
    exact channel_set_ne hd _

/-- Settles O55. -/
theorem contentIsResolvedAtARunStart : Obligations.ContentIsResolvedAtARunStart := by
  unfold Obligations.ContentIsResolvedAtARunStart
  refine ⟨fun s c a ts h => ⟨expandTokens_plain s c a true h, expandTokens_plain s c a false h⟩,
    fun s c a delayed pre seg post hpre hseg => ?_, fun s c a => ?_, fun s x => ?_,
    fun s c x zs seized _ h => ⟨(startRun_settles c x zs seized s).toPlays, startRun_of_empty_channels h c zs seized⟩⟩
  · dsimp only
    have hkept := expandTokens_append s c a (segmentKept s c a delayed) (.endIf :: post) hseg
    have hopen := expandTokens_plain s c a (segmentKept s c a delayed) hseg
    refine ⟨?_, ?_⟩
    · rw [expandTokens_append s c a true _ hpre, expandTokens_marker, hkept, if_pos rfl, List.append_assoc]
      rfl
    · rw [expandTokens_append s c a true _ hpre, expandTokens_marker, hopen, if_pos rfl]
  · refine ⟨fun p => rfl, fun n => rfl, fun m hm => ?_, fun t ht => ?_, fun x => ⟨rfl, rfl, rfl, rfl, ?_, ?_, rfl, rfl, ?_⟩⟩
    · exact sayMinute_of_lt (by omega)
    · cases t with
      | phrase | number | time | ifDelayed | ifChanged | endIf => cases ht
      | dest | origin | cls | calling | platform | oldPlatform | schedTime | expTime | delay => rfl
    · show platformName s (some x.zone) = _
      unfold platformName
      rw [Option.bind_some]
      cases (s.zone x.zone).name <;> rfl
    · show platformName s x.previous = _
      unfold platformName
      cases x.previous.bind (fun z => (s.zone z).name) <;> rfl
    · show sayDelay (delayFor x a) = _
      rw [delayFor_eq]
  · have hlen := List.length_filterMap_le s.phrase?
      (expandTokens s (x.call.bind s.call?) (anchorOf x.origin) true (contentTokens s x.content))
    refine ⟨rfl, resolve_phrases_length s x, fun p hp => resolve_phrases_mem hp, decide_eq_true_iff, ?_⟩
    have habsent : (x.chime.isSome = true ∧ (x.chime.bind s.phrase?).isNone = true) ↔
        (x.chime ≠ none ∧ x.chime.bind s.phrase? = none) := by
      rw [Option.isSome_iff_ne_none, Option.isNone_iff_eq_none]
    simp only [resolve, habsent]
    exact Nat.add_right_comm _ _ _ |>.trans (congrArg (· + _) (Nat.sub_add_cancel hlen))

end Sys2Proof.Machine


/-! PROOFS. A run start takes its placements, each zone at its gain (R126, R138, R139); the search for the best of a list,
and the arbiter's choices (R133 to R137). -/

namespace Sys2Proof.Machine

open Sys2Proof.Claims

/-! ### The run that starts -/

theorem startRun_asc {s : State} {x : Slot} (h : (resolve s x).phrases ≠ []) (c : Nat) (zs : List Nat)
    (seized : Option Nat) : (startRun c x zs seized s).asc = s.asc := by
  have hstarted : (started c x zs seized s).asc = s.asc := by
    unfold started
    rw [generate_asc, judgeHold_asc]
    exact forEach_asc (f := fun z => takePlacement z x.id) (fun _ _ => rfl) zs s
  rw [startRun_of_phrases h]
  exact (forEach_asc (f := fun z s => s.modifyZone z (beginPulse x.priority (s.after Config.pulseTenths)))
    (fun _ _ => rfl) zs _).trans hstarted

theorem startRun_ple {s : State} {x : Slot} (h : (resolve s x).phrases ≠ []) (c : Nat) (zs : List Nat)
    (seized : Option Nat) : (startRun c x zs seized s).ple = { s.ple with
      channels := s.ple.channels.set c (some (newRun s x (resolve s x) (attachments s x.priority x.id zs)))
      nextSeq := s.ple.nextSeq + 1 } := by
  rw [startRun_of_phrases h, beginPulses_ple, started_ple]

theorem attachments_zones {s : State} (prio a : Nat) {zs : List Nat} (h : ∀ z ∈ zs, (placementIn s z a).isSome = true) :
    (attachments s prio a zs).map Attached.zone = zs := by
  unfold attachments
  induction zs with
  | nil => rfl
  | cons z zs ih =>
    obtain ⟨hz, hzs⟩ := List.forall_mem_cons.mp h
    obtain ⟨p, hp⟩ := Option.isSome_iff_exists.mp hz
    rw [List.filterMap_cons, hp, Option.map_some, List.map_cons, ih hzs]
    rfl

/-- An attachment is that of a zone with its placement of the announcement. -/
theorem mem_attachments {s : State} {prio a : Nat} {zs : List Nat} {e : Attached} (h : e ∈ attachments s prio a zs) :
    ∃ z ∈ zs, ∃ p, placementIn s z a = some p ∧ e = attachment s prio z p := by
  obtain ⟨z, hz, he⟩ := List.mem_filterMap.mp h
  obtain ⟨p, hp, rfl⟩ := Option.map_eq_some_iff.mp he
  exact ⟨z, hz, p, hp, rfl⟩

/-- The queue of a zone after a run start. -/
theorem startRun_queue {s : State} {x : Slot} (h : (resolve s x).phrases ≠ []) (c : Nat) {zs : List Nat}
    (hzs : ∀ z ∈ zs, z < s.zrt.zones.length) (seized : Option Nat) (z : Nat) :
    ((startRun c x zs seized s).zone z).queue = if z ∈ zs then
      (s.zone z).queue.filter (fun p => p.announcement != x.id) else (s.zone z).queue := by
  rw [startRun_zone h]
  by_cases hz : z ∈ zs
  · rw [if_pos ⟨hz, hzs z hz⟩, if_pos hz]
    unfold beginPulse
    split
    · rfl
    · rfl
  · rw [if_neg (fun hc => hz hc.1), if_neg hz]

/-! ### Loudness -/

/-- The mean of numbers in a range lies in it. -/
theorem mean_range {w : List Nat} {lo hi : Nat} (h0 : w ≠ []) (h : ∀ x ∈ w, lo ≤ x ∧ x ≤ hi) :
    lo ≤ w.sum / w.length ∧ w.sum / w.length ≤ hi := by
  have hpos : 0 < w.length := List.length_pos_iff.mpr h0
  have hlow := List.card_nsmul_le_sum w lo (fun x hx => (h x hx).1)
  have hhigh := List.sum_le_card_nsmul w hi (fun x hx => (h x hx).2)
  rw [smul_eq_mul] at hlow hhigh
  exact ⟨(Nat.le_div_iff_mul_le hpos).mpr (by rwa [Nat.mul_comm]), Nat.div_le_of_le_mul hhigh⟩

theorem ambientLevel_range {z : Zone} (hlow : 30 ≤ z.nref) (hhigh : z.nref ≤ 120) (h : ∀ x ∈ z.window, 30 ≤ x ∧ x ≤ 120) :
    30 ≤ ambientLevel z ∧ ambientLevel z ≤ 120 := by
  unfold ambientLevel
  split
  · exact ⟨hlow, hhigh⟩
  next h0 => exact mean_range h0 h

theorem ambientGain_eq {z : Zone} (h : z.gmin ≤ z.gmax) :
    ambientGain z = max z.gmin (min z.gmax (z.g0 + ((z.slope * (ambientLevel z - z.nref) / 4 : Nat) : Int))) :=
  clampInt_eq h _

/-- A zone no louder than its reference, a slope of 0 and an empty window raise nothing. -/
theorem ambientGain_of_quiet {z : Zone} (h : z.gmin ≤ z.gmax)
    (hq : ambientLevel z ≤ z.nref ∨ z.slope = 0 ∨ z.window = []) : ambientGain z = max z.gmin (min z.gmax z.g0) := by
  have hraise : z.slope * (ambientLevel z - z.nref) / 4 = 0 := by
    rcases hq with hq | hq | hq
    · rw [Nat.sub_eq_zero_of_le hq, Nat.mul_zero]
    · rw [hq, Nat.zero_mul]
    · rw [show ambientLevel z = z.nref from if_pos hq, Nat.sub_self, Nat.mul_zero]
  rw [ambientGain_eq h, hraise, Int.natCast_zero, Int.add_zero]

theorem attachment_gain_low {s : State} {prio : Nat} (h : prio < 6) (z : Nat) (p : Placement) :
    (attachment s prio z p).gain = ambientGain (s.zone z) := if_neg (Nat.not_le.mpr h)

/-- Settles O56. -/
theorem aRunStartTakesItsPlacements : Obligations.ARunStartTakesItsPlacements := by
  unfold Obligations.ARunStartTakesItsPlacements
  refine ⟨fun s c x zs seized hc hphrases _ hzs => ?_, fun s prio z p hprio => ?_⟩
  · have hple := startRun_ple hphrases c zs seized
    refine ⟨(startRun_settles c x zs seized s).toPlays, by rw [startRun_asc hphrases], by rw [hple], fun d hd => ?_,
      startRun_queue hphrases c (fun z hz => (hzs z hz).1) seized,
      newRun s x (resolve s x) (attachments s x.priority x.id zs), ?_, rfl, rfl, rfl, rfl, rfl, rfl, rfl, rfl, rfl, rfl,
      rfl, attachments_zones x.priority x.id (fun z hz => (hzs z hz).2), fun a ha => ?_⟩
    · simp only [State.channel, hple]
      exact channel_set_ne hd _
    · simp only [State.channel, hple]
      exact channel_set_self hc _
    · obtain ⟨z, -, p, hp, rfl⟩ := mem_attachments ha
      exact ⟨rfl, hp, fun h6 => if_pos h6, fun h6 => attachment_gain_low h6 z p⟩
  · dsimp only
    rw [attachment_gain_low hprio]
    refine ⟨fun h => ambientGain_eq h, fun hlow hhigh hw => ?_, fun h hq => ambientGain_of_quiet h hq, fun c x zs seized => ?_⟩
    · have hlevel := ambientLevel_range hlow hhigh hw
      have hexcess : ambientLevel (s.zone z) - (s.zone z).nref ≤ 90 := by omega
      exact ⟨hlevel.1, hlevel.2, hexcess⟩
    · have hzones := congrArg (List.map Zone.window) (startRun_settles c x zs seized s).zones
      simpa [List.map_map, Function.comp_def, settings] using hzones

/-! ### The search for the best -/

section best

variable {α β : Type} [LinearOrder β] {key : α → β} {better : α → α → Bool}

/-- One step of the search for the best of a list. -/
def improve (better : α → α → Bool) (best : Option α) (x : α) : Option α :=
  match best with
  | none => some x
  | some b => if better x b then some x else some b

theorem improve_some (better : α → α → Bool) (b x : α) :
    improve better (some b) x = if better x b then some x else some b := rfl

theorem improve_cases (better : α → α → Bool) (best : Option α) (x : α) :
    improve better best x = some x ∨ improve better best x = best := by
  cases best with
  | none => exact .inl rfl
  | some b =>
    rw [improve_some]
    split
    · exact .inl rfl
    · exact .inr rfl

theorem mem_of_foldl_improve {w : α} {l : List α} (h : l.foldl (improve better) none = some w) : w ∈ l := by
  rcases mem_of_foldl_best (improve_cases better) h with hm | hm
  · exact hm
  · cases hm

/-- The best of a list is as good as each of its elements. -/
theorem foldl_improve_le (h : ∀ x b, better x b = true ↔ key b < key x) {w : α} : ∀ {l : List α} {b : Option α},
    l.foldl (improve better) b = some w → (∀ y ∈ l, key y ≤ key w) ∧ ∀ x, b = some x → key x ≤ key w
  | [], b, hw => ⟨by simp, fun x hx => by rw [hx] at hw; cases hw; exact le_refl _⟩
  | x :: l, b, hw => by
    obtain ⟨hl, hbest⟩ := foldl_improve_le h (l := l) hw
    cases b with
    | none => exact ⟨List.forall_mem_cons.mpr ⟨hbest x rfl, hl⟩, fun y hy => nomatch hy⟩
    | some b =>
      rw [improve_some] at hbest
      split at hbest
      next hx =>
        have hxw := hbest x rfl
        refine ⟨List.forall_mem_cons.mpr ⟨hxw, hl⟩, fun y hy => ?_⟩
        cases hy
        exact ((h x b).mp hx).le.trans hxw
      next hx =>
        have hbw := hbest b rfl
        refine ⟨List.forall_mem_cons.mpr ⟨(not_lt.mp fun hlt => hx ((h x b).mpr hlt)).trans hbw, hl⟩, fun y hy => ?_⟩
        cases hy
        exact hbw

theorem foldl_improve_of_le {w : α} : ∀ {l : List α}, (∀ y ∈ l, better y w = false) →
    l.foldl (improve better) (some w) = some w
  | [], _ => rfl
  | x :: l, hl => by
    obtain ⟨hx, hrest⟩ := List.forall_mem_cons.mp hl
    rw [List.foldl_cons, improve_some, if_neg (by rw [hx]; exact Bool.false_ne_true), foldl_improve_of_le hrest]

/-- An element better than all before it, and than which none behind it is better, is the one found. -/
theorem foldl_improve_eq {w : α} {pre post : List α} (hpre : ∀ y ∈ pre, better w y = true)
    (hpost : ∀ y ∈ post, better y w = false) : (pre ++ w :: post).foldl (improve better) none = some w := by
  rw [List.foldl_append, List.foldl_cons]
  have hw : improve better (pre.foldl (improve better) none) w = some w := by
    cases hb : pre.foldl (improve better) none with
    | none => rfl
    | some b =>
      have hmem : b ∈ pre := mem_of_foldl_improve hb
      rw [improve_some, if_pos (hpre b hmem)]
  rw [hw, foldl_improve_of_le hpost]

theorem isSome_foldl_improve (l : List α) : (l.foldl (improve better) none).isSome = !l.isEmpty := by
  rw [isSome_foldl_best (fun b x => ?_) l none]
  · simp
  · cases b with
    | none => rfl
    | some b => rw [improve_some]; split <;> rfl

end best

end Sys2Proof.Machine


/-! PROOFS. The channel arbiter's choices: eligible heads, the candidate, its channel and its victim, and the zone
seizures (R133 to R137). -/

namespace Sys2Proof.Machine

open Sys2Proof.Claims

/-! ### Eligible heads and zone seizures -/

theorem zoneAdmits_iff (zn : Zone) (p : Nat) : zoneAdmits (effective zn) p = true ↔
    (zn.covering.isSome = true → 7 ≤ p) ∧ (zn.covering = none → zn.base ≠ .isolated) ∧
      (zn.covering = none → zn.base = .closed → 6 ≤ p) := by
  cases hc : zn.covering with
  | some n => simp [effective, hc, zoneAdmits]
  | none =>
    rw [effective_of_uncovered hc]
    cases zn.base <;> simp [baseEffective, zoneAdmits]

theorem modeAdmits_iff (m : Mode) (p : Nat) : modeAdmits m p = true ↔
    m = .opn ∨ (6 ≤ p ∧ (m = .winding ∨ ∃ h, m = .nightAlert h)) := by
  cases m <;> simp [modeAdmits]

theorem admittedHead_eq_some {s : State} {z : Nat} {p : Placement} : admittedHead s z = some p ↔ AdmittedHead s z p := by
  unfold admittedHead
  constructor
  · intro h
    split at h
    · cases h
    next q rest hq =>
      split at h
      next hadmit =>
        cases h
        obtain ⟨hw, hz, hm⟩ := hadmit
        obtain ⟨he, hi, hc⟩ := (zoneAdmits_iff _ _).mp hz
        exact { head := by rw [hq]; rfl, waiting := hw, evacuate := he, isolated := hi, closed := hc
                mode := (modeAdmits_iff _ _).mp hm }
      · cases h
  · intro h
    obtain ⟨rest, hq⟩ := List.head?_eq_some_iff.mp h.head
    rw [hq]
    exact if_pos ⟨h.waiting, (zoneAdmits_iff _ _).mpr ⟨h.evacuate, h.isolated, h.closed⟩, (modeAdmits_iff _ _).mpr h.mode⟩

theorem attachedChannel_eq_none {s : State} {z : Nat} :
    attachedChannel s z = none ↔ ∀ c < 8, attachedTo s z c = false := by
  unfold attachedChannel allChannels
  rw [List.find?_range_eq_none]
  simp [Config.maxChannels]

theorem eligibleHead_eq_some {s : State} {z : Nat} {p : Placement} :
    eligibleHead s z = some p ↔ AdmittedHead s z p ∧ ∀ c < 8, attachedTo s z c = false := by
  rw [← admittedHead_eq_some, ← attachedChannel_eq_none]
  unfold eligibleHead
  cases attachedChannel s z <;> simp

theorem attachedChannel_eq_some {s : State} {z c : Nat} (h : attachedChannel s z = some c) :
    c < 8 ∧ attachedTo s z c = true := by
  unfold attachedChannel allChannels at h
  obtain ⟨hc, hmem, -⟩ := List.find?_range_eq_some.mp h
  exact ⟨by simpa [Config.maxChannels] using hmem, hc⟩

/-- The run of a zone that is attached to at most one channel. -/
theorem runOf_eq_some_iff {s : State} {z : Nat} (honce : AttachedOnce s z) {r : Run} :
    runOf s z = some r ↔ ∃ c < 8, s.channel c = some r ∧ (attachmentIn r z).isSome = true := by
  unfold runOf
  constructor
  · intro h
    obtain ⟨c, hc, hr⟩ := Option.bind_eq_some_iff.mp h
    obtain ⟨hlt, hatt⟩ := attachedChannel_eq_some hc
    obtain ⟨r', a, hr', ha⟩ := attachedTo_eq_true.mp hatt
    obtain rfl : r = r' := Option.some.inj (hr.symm.trans hr')
    exact ⟨c, hlt, hr, by rw [ha]; rfl⟩
  · rintro ⟨c, hlt, hr, ha⟩
    have hatt : attachedTo s z c = true :=
      attachedTo_eq_true.mpr ⟨r, _, hr, (Option.some_get ha).symm⟩
    cases hd : attachedChannel s z with
    | none => rw [attachedChannel_eq_none.mp hd c hlt] at hatt; cases hatt
    | some d =>
      obtain ⟨hdlt, hdatt⟩ := attachedChannel_eq_some hd
      rw [honce d hdlt c hlt hdatt hatt]
      exact hr

theorem seizes_iff {s : State} {z : Nat} : seizes s z = true ↔
    ∃ p, AdmittedHead s z p ∧ 6 ≤ p.priority ∧ ∃ r, runOf s z = some r ∧ r.priority < p.priority := by
  simp only [← admittedHead_eq_some]
  unfold seizes
  cases admittedHead s z <;> cases runOf s z <;> simp

/-! ### The candidate -/

/-- A placement's place in the arbiter's order: its priority, then its age. -/
def rankOf (next : Stamp) (p : Placement) : Nat ×ₗ Nat := toLex (p.priority, ageOf next p.stamp)

theorem betterCandidate_iff (next : Stamp) (p b : Placement) :
    betterCandidate next p b = true ↔ rankOf next b < rankOf next p := by
  simp only [betterCandidate, rankOf, Prod.Lex.toLex_lt_toLex, Bool.or_eq_true, Bool.and_eq_true, decide_eq_true_eq,
    eq_comm (a := p.priority)]

theorem rankOf_le_iff (next : Stamp) (p q : Placement) : rankOf next q ≤ rankOf next p ↔
    q.priority < p.priority ∨ (q.priority = p.priority ∧ ageOf next q.stamp ≤ ageOf next p.stamp) :=
  Prod.Lex.toLex_le_toLex

theorem candidate_eq (s : State) : candidate s =
    (allZones.filterMap (eligibleHead s)).foldl (improve (betterCandidate s.zrt.stampCounter)) none :=
  congrArg (fun f => (allZones.filterMap (eligibleHead s)).foldl f none)
    (funext fun best => funext fun p => by cases best <;> rfl)

theorem mem_eligibleHeads {s : State} {p : Placement} :
    p ∈ allZones.filterMap (eligibleHead s) ↔ ∃ z < 40, eligibleHead s z = some p := by
  simp [allZones, Config.maxZones]

/-- The candidate is an eligible head, and none is of a higher rank. -/
theorem candidate_spec {s : State} {p : Placement} (h : candidate s = some p) :
    (∃ z < 40, eligibleHead s z = some p) ∧
      ∀ z < 40, ∀ q, eligibleHead s z = some q → rankOf s.zrt.stampCounter q ≤ rankOf s.zrt.stampCounter p := by
  rw [candidate_eq] at h
  refine ⟨mem_eligibleHeads.mp (mem_of_foldl_improve h), fun z hz q hq => ?_⟩
  exact (foldl_improve_le (key := rankOf s.zrt.stampCounter) (betterCandidate_iff _) h).1 q (mem_eligibleHeads.mpr ⟨z, hz, hq⟩)

theorem candidate_eq_none {s : State} : candidate s = none ↔ ∀ z < 40, eligibleHead s z = none := by
  rw [candidate_eq, ← Option.isSome_eq_false_iff.trans Option.isNone_iff_eq_none, isSome_foldl_improve]
  simp [List.filterMap_eq_nil_iff, allZones, Config.maxZones]

/-- The zones a candidate's run starts in are those whose eligible head is of its announcement. -/
theorem startZones_eq (s : State) (a : Nat) : startZones s a =
    (List.range 40).filter (fun z => (eligibleHead s z).any (fun q => decide (q.announcement = a))) := by
  refine List.filter_congr fun z _ => ?_
  cases eligibleHead s z with
  | none => rfl
  | some p => exact (Bool.beq_eq_decide_eq _ _)

theorem startZones_ne_nil {s : State} {z : Nat} {p : Placement} (hz : z < 40) (h : eligibleHead s z = some p) :
    startZones s p.announcement ≠ [] := by
  rw [startZones_eq]
  exact List.ne_nil_of_mem (a := z) (List.mem_filter.mpr ⟨List.mem_range.mpr hz, by simp [h]⟩)

theorem startCandidate_eq {s : State} {p : Placement} {x : Slot} (hx : s.slot? p.announcement = some x)
    (hzs : startZones s p.announcement ≠ []) (c : Nat) (seized : Option Nat) :
    startCandidate c p seized s = some (startRun c x (startZones s p.announcement) seized s) := by
  obtain ⟨z, zs, hz⟩ := List.exists_cons_of_ne_nil hzs
  unfold startCandidate
  rw [hx, hz]

theorem idleChannel_eq_some {s : State} {c : Nat} :
    idleChannel s = some c ↔ c < 8 ∧ s.channel c = none ∧ ∀ d < c, s.channel d ≠ none := by
  unfold idleChannel allChannels
  rw [List.find?_range_eq_some]
  simp [Config.maxChannels, Option.isSome_iff_ne_none]
  tauto

theorem idleChannel_eq_none {s : State} : idleChannel s = none ↔ ∀ c < 8, s.channel c ≠ none := by
  unfold idleChannel allChannels
  rw [List.find?_range_eq_none]
  simp [Config.maxChannels, Option.isSome_iff_ne_none]

theorem startRound_of_idle {s : State} {p : Placement} {c : Nat} (hp : candidate s = some p)
    (hc : idleChannel s = some c) : startRound s = startCandidate c p none s := by
  unfold startRound; rw [hp]; dsimp only; rw [hc]

theorem startRound_of_busy {s : State} {p : Placement} (hp : candidate s = some p) (hc : idleChannel s = none) :
    startRound s = if 6 ≤ p.priority then (victimChannel s p.priority).bind
      (fun e => startCandidate e.1 p (some e.2.announcement) (seizeChannel e.1 s)) else none := by
  unfold startRound
  rw [hp]
  dsimp only
  rw [hc]
  cases victimChannel s p.priority <;> rfl

/-! ### The channel seized for 6 and 7 -/

/-- The channels that play, with their runs, by number. -/
def playing (s : State) : List (Nat × Run) := allChannels.filterMap (fun c => (s.channel c).map (fun r => (c, r)))

theorem mem_playing {s : State} {c : Nat} {r : Run} : (c, r) ∈ playing s ↔ c < 8 ∧ s.channel c = some r := by
  simp only [playing, allChannels, List.mem_filterMap, List.mem_range, Config.maxChannels, Option.map_eq_some_iff,
    Prod.mk.injEq]
  exact ⟨fun ⟨d, hd, q, hq, hdc, hqr⟩ => hdc ▸ hqr ▸ ⟨hd, hq⟩, fun ⟨hc, hr⟩ => ⟨c, hc, r, hr, rfl, rfl⟩⟩

theorem playing_pairwise (s : State) : (playing s).Pairwise (fun a b => a.1 < b.1) := by
  refine (List.pairwise_lt_range (n := Config.maxChannels)).filterMap _ fun c d hlt e he f hf => ?_
  obtain ⟨r, -, rfl⟩ := Option.map_eq_some_iff.mp he
  obtain ⟨q, -, rfl⟩ := Option.map_eq_some_iff.mp hf
  exact hlt

/-- The victim of a candidate is sought among the runs of a lower priority. -/
theorem victimChannel_eq (s : State) (p : Nat) : victimChannel s p =
    ((playing s).filter (fun e => decide (e.2.priority < p))).foldl
      (improve (fun a b => betterChannel s.ple.nextSeq a.2 b.2)) none := by
  rw [List.foldl_filter]
  refine congrArg (fun f => (playing s).foldl f none) (funext fun best => funext fun e => ?_)
  by_cases he : e.2.priority < p
  · simp only [he, if_true, decide_true]
    cases best <;> rfl
  · simp only [he, if_false, decide_false, Bool.false_eq_true]

theorem victimChannel_eq_none {s : State} {p : Nat} (h : ∀ c < 8, ∀ r, s.channel c = some r → p ≤ r.priority) :
    victimChannel s p = none := by
  rw [victimChannel_eq, List.filter_eq_nil_iff.mpr]
  · rfl
  · rintro ⟨c, r⟩ hmem
    obtain ⟨hc, hr⟩ := mem_playing.mp hmem
    simpa using h c hc r hr

/-- The run a candidate seizes its channel from (R137). -/
theorem victimChannel_of_victimFor {s : State} {p v : Nat} {r : Run} (h : VictimFor s p v r) :
    victimChannel s p = some (v, r) := by
  obtain ⟨hv, hr, hprio, hbest⟩ := h
  have hmem : (v, r) ∈ (playing s).filter (fun e => decide (e.2.priority < p)) :=
    List.mem_filter.mpr ⟨mem_playing.mpr ⟨hv, hr⟩, by simpa using hprio⟩
  have hsorted := (playing_pairwise s).filter (fun e => decide (e.2.priority < p))
  obtain ⟨pre, post, hlist⟩ := List.append_of_mem hmem
  have hother : ∀ e ∈ (playing s).filter (fun e => decide (e.2.priority < p)),
      r.priority < e.2.priority ∨ (r.priority = e.2.priority ∧
        (ageOf s.ple.nextSeq r.seq < ageOf s.ple.nextSeq e.2.seq ∨
          (ageOf s.ple.nextSeq r.seq = ageOf s.ple.nextSeq e.2.seq ∧ e.1 ≤ v))) := by
    rintro ⟨d, q⟩ hd
    obtain ⟨hplay, hq⟩ := List.mem_filter.mp hd
    obtain ⟨hd8, hdq⟩ := mem_playing.mp hplay
    exact hbest d hd8 q hdq (by simpa using hq)
  rw [hlist] at hother hsorted
  rw [victimChannel_eq, hlist]
  obtain ⟨-, hpost, -⟩ := List.pairwise_append.mp hsorted
  refine foldl_improve_eq (fun e he => ?_) fun e he => ?_
  · have := hother e (List.mem_append_left _ he)
    simp only [betterChannel, Bool.or_eq_true, Bool.and_eq_true, decide_eq_true_eq]
    omega
  · have hlt : v < e.1 := (List.pairwise_cons.mp hpost).1 e he
    have := hother e (List.mem_append_right _ (List.mem_cons_of_mem _ he))
    simp only [betterChannel, Bool.or_eq_false_iff, Bool.and_eq_false_iff, decide_eq_false_iff_not]
    omega

/-! ### The rounds of a pass -/

theorem seizureRound_eq_none {s : State} : seizureRound s = none ↔ ∀ z < 40, seizes s z = false := by
  unfold seizureRound allZones
  rw [Option.map_eq_none_iff, List.find?_range_eq_none]
  simp [Config.maxZones]

/-- A pass that has nothing left to do leaves no zone to be seized, and no head eligible unless every channel plays. -/
theorem rest_of_passRound_none {s : State} (h : passRound s = none)
    (hstore : ∀ z < 40, ∀ p, eligibleHead s z = some p → (s.slot? p.announcement).isSome = true) :
    (∀ z < 40, seizes s z = false) ∧ ((∀ z < 40, eligibleHead s z = none) ∨ ∀ c < 8, s.channel c ≠ none) := by
  obtain ⟨hseize, hstart⟩ := Option.or_eq_none_iff.mp h
  refine ⟨seizureRound_eq_none.mp hseize, ?_⟩
  cases hp : candidate s with
  | none => exact .inl (candidate_eq_none.mp hp)
  | some p =>
    cases hc : idleChannel s with
    | none => exact .inr (idleChannel_eq_none.mp hc)
    | some c =>
      obtain ⟨⟨z, hz, he⟩, -⟩ := candidate_spec hp
      obtain ⟨x, hx⟩ := Option.isSome_iff_exists.mp (hstore z hz p he)
      rw [startRound_of_idle hp hc, startCandidate_eq hx (startZones_ne_nil hz he)] at hstart
      cases hstart

/-- Settles O57. -/
theorem theArbiterStartsTheOldestOfTheHighest : Obligations.TheArbiterStartsTheOldestOfTheHighest := by
  unfold Obligations.TheArbiterStartsTheOldestOfTheHighest
  refine fun s => ⟨fun z p => eligibleHead_eq_some, fun z honce => ?_, fun p hp => ?_, candidate_eq_none,
    rest_of_passRound_none, fun p x c hp hx hc hidle hlow => ?_, fun p hp hbusy => ⟨fun hlow => ?_, fun hall => ?_,
      fun v r h6 hv => ?_⟩, fun z hz hseize hfirst => ?_⟩
  · simp only [seizes_iff, runOf_eq_some_iff honce]
    refine exists_congr fun p => and_congr_right fun _ => and_congr_right fun _ => ?_
    exact ⟨fun ⟨r, ⟨c, hc, hr, ha⟩, hlt⟩ => ⟨c, hc, r, hr, ha, hlt⟩, fun ⟨c, hc, r, hr, ha, hlt⟩ => ⟨r, ⟨c, hc, hr, ha⟩, hlt⟩⟩
  · obtain ⟨hmem, hbest⟩ := candidate_spec hp
    exact ⟨hmem, fun z hz q hq => (rankOf_le_iff _ _ _).mp (hbest z hz q hq)⟩
  · obtain ⟨⟨z, hz, he⟩, -⟩ := candidate_spec hp
    have hzs := startZones_ne_nil hz he
    dsimp only
    rw [← startZones_eq, startRound_of_idle hp (idleChannel_eq_some.mpr ⟨hc, hidle, hlow⟩), startCandidate_eq hx hzs]
    exact ⟨hzs, rfl⟩
  · rw [startRound_of_busy hp (idleChannel_eq_none.mpr hbusy)]
    exact if_neg (Nat.not_le.mpr hlow)
  · rw [startRound_of_busy hp (idleChannel_eq_none.mpr hbusy), victimChannel_eq_none hall]
    split <;> rfl
  · rw [startRound_of_busy hp (idleChannel_eq_none.mpr hbusy), victimChannel_of_victimFor hv]
    exact if_pos h6
  · have hfind : allZones.find? (seizes s) = some z := List.find?_range_eq_some.mpr
      ⟨hseize, List.mem_range.mpr hz, fun y hy => by simp [hfirst y hy]⟩
    unfold passRound seizureRound
    rw [hfind]
    rfl

end Sys2Proof.Machine


/-! PROOFS. The rules of the queues: what a drop, a victim's displacement and an entry make of them (R99 to R101), and
what becomes of the placement of a zone whose part ends (R130, R131). -/

namespace Sys2Proof.Machine

open Sys2Proof.Claims

/-! ### Drops -/

/-- A view that each step of a pass over a list leaves is the same after it. -/
theorem forEach_view {α β : Type} {view : State → β} {f : α → State → State} (h : ∀ x s, view (f x s) = view s) :
    ∀ (xs : List α) (s : State), view (forEach xs f s) = view s
  | [], _ => rfl
  | x :: xs, s => (forEach_view h xs (f x s)).trans (h x s)

theorem silenceVoices_stampCounter (a : Nat) (s : State) :
    (silenceVoices a s).zrt.stampCounter = s.zrt.stampCounter := by
  unfold silenceVoices
  generalize allSources = ns
  refine forEach_view (view := fun s => s.zrt.stampCounter) (f := fun n s =>
    if (s.source n).state = .active ∧ (s.source n).voice = .voiced a then silence n s else s) (fun n s => ?_) ns s
  split
  · unfold silence reportVoice
    split <;> rfl
  · rfl

theorem freeIfDone_stampCounter (a : Nat) (s : State) : (freeIfDone a s).zrt.stampCounter = s.zrt.stampCounter := by
  unfold freeIfDone
  split
  · rw [silenceVoices_stampCounter]; rfl
  · rfl

theorem dropPlacement_stampCounter (z : Nat) (reason : DropReason) (p : Placement) (s : State) :
    (dropPlacement z reason p s).zrt.stampCounter = s.zrt.stampCounter := by
  unfold dropPlacement
  rw [judgeHold_zrt, freeIfDone_stampCounter]
  rfl

/-- A zone's queue is the one record a drop there changes. -/
theorem takePlacement_zone (z a : Nat) (s : State) (y : Nat) : (takePlacement z a s).zone y =
    if y = z then { s.zone y with queue := (s.zone y).queue.filter (fun p => p.announcement != a) } else s.zone y := by
  unfold takePlacement
  rw [zone_modifyZone]
  by_cases hy : y = z
  · by_cases hlt : y < s.zrt.zones.length
    · rw [if_pos ⟨hy, hlt⟩, if_pos hy]
    · rw [if_neg (fun h => hlt h.2), if_pos hy]
      simp [State.zone, List.getD_eq_getElem?_getD, List.getElem?_eq_none (Nat.le_of_not_lt hlt), coldZone]
  · rw [if_neg (fun h => hy h.1), if_neg hy]

theorem dropPlacement_zone (z : Nat) (reason : DropReason) (p : Placement) (s : State) (y : Nat) :
    (dropPlacement z reason p s).zone y = if y = z then
      { s.zone y with queue := (s.zone y).queue.filter (fun q => q.announcement != p.announcement) } else s.zone y := by
  rw [zone_of_zones (dropPlacement_zones z reason p s), takePlacement_zone]

/-- The placements of the announcements of `ps` are taken out of the zone's queue. -/
theorem forEach_dropPlacement_zone (z : Nat) (reason : DropReason) : ∀ (ps : List Placement) (s : State) (y : Nat),
    (forEach ps (dropPlacement z reason) s).zone y = if y = z then
      { s.zone y with queue := (s.zone y).queue.filter (fun q => !(ps.map Placement.announcement).contains q.announcement) }
      else s.zone y
  | [], s, y => by simp [forEach]
  | p :: ps, s, y => by
    refine (forEach_dropPlacement_zone z reason ps (dropPlacement z reason p s) y).trans ?_
    rw [dropPlacement_zone]
    by_cases hy : y = z
    · simp only [hy, if_true, List.filter_filter]
      refine congrArg (fun q => { s.zone z with queue := q }) (List.filter_congr fun q _ => ?_)
      simp only [List.map_cons, List.contains_cons, Bool.not_or, bne, Bool.and_comm]
    · simp only [hy, if_false]

/-- What `dropWhere` leaves of a queue: every placement of an announcement that had one to be dropped is gone. -/
theorem dropWhere_zone (z : Nat) (reason : DropReason) (which : Placement → Bool) (s : State) (y : Nat) :
    (dropWhere z reason which s).zone y = if y = z then
      { s.zone y with queue := (s.zone y).queue.filter (fun q =>
          !(((s.zone z).queue.filter which).map Placement.announcement).contains q.announcement) } else s.zone y :=
  forEach_dropPlacement_zone z reason _ s y

theorem dropWhere_zone_ne {z y : Nat} (h : y ≠ z) (reason : DropReason) (which : Placement → Bool) (s : State) :
    (dropWhere z reason which s).zone y = s.zone y := by
  rw [dropWhere_zone, if_neg h]

theorem dropWhere_queue_sublist (z : Nat) (reason : DropReason) (which : Placement → Bool) (s : State) (y : Nat) :
    ((dropWhere z reason which s).zone y).queue.Sublist (s.zone y).queue := by
  rw [dropWhere_zone]
  split
  · exact List.filter_sublist
  · exact List.Sublist.refl _

/-- No placement to be dropped stays. -/
theorem dropWhere_queue_none {z : Nat} {reason : DropReason} {which : Placement → Bool} {s : State} {p : Placement}
    (h : p ∈ ((dropWhere z reason which s).zone z).queue) : p ∈ (s.zone z).queue ∧ which p = false := by
  rw [dropWhere_zone, if_pos rfl] at h
  obtain ⟨hmem, hp⟩ := List.mem_filter.mp h
  refine ⟨hmem, Bool.eq_false_iff.mpr fun hw => ?_⟩
  have hin : p.announcement ∈ ((s.zone z).queue.filter which).map Placement.announcement :=
    List.mem_map_of_mem (List.mem_filter.mpr ⟨hmem, hw⟩)
  rw [List.contains_iff_mem.mpr hin] at hp
  cases hp

/-- A drop by the announcement leaves just the placements of the others. -/
theorem dropWhere_queue_of_announcement {z : Nat} {reason : DropReason} {which : Placement → Bool} {s : State}
    (h : ∀ p q : Placement, p.announcement = q.announcement → which p = which q) :
    ((dropWhere z reason which s).zone z).queue = (s.zone z).queue.filter (fun p => !which p) := by
  rw [dropWhere_zone, if_pos rfl]
  refine List.filter_congr fun p hp => congrArg _ ?_
  rw [Bool.eq_iff_iff, List.contains_iff_mem, List.mem_map]
  refine ⟨fun ⟨q, hq, hqp⟩ => ?_, fun hw => ⟨p, List.mem_filter.mpr ⟨hp, hw⟩, rfl⟩⟩
  rw [h p q hqp.symm]
  exact (List.mem_filter.mp hq).2

theorem dropWhere_stampCounter (z : Nat) (reason : DropReason) (which : Placement → Bool) (s : State) :
    (dropWhere z reason which s).zrt.stampCounter = s.zrt.stampCounter :=
  forEach_view (view := fun s => s.zrt.stampCounter) (dropPlacement_stampCounter z reason) _ s

/-! ### Room in a queue -/

theorem queueVictim_eq (next : Stamp) (p : Nat) (q : List Placement) : queueVictim next p q =
    (q.filter (fun x => decide (x.priority < p))).foldl (improve (betterVictim next)) none :=
  congrArg (fun f => List.foldl f none (q.filter (fun x : Placement => decide (x.priority < p))))
    (funext fun best : Option Placement => funext fun x => by cases best <;> rfl)

/-- There is no room where the queue is full and none in it is of a lower priority (R100). -/
theorem hasRoom_eq_false {s : State} {z p : Nat} : hasRoom s z p = false ↔
    12 ≤ (s.zone z).queue.length ∧ ∀ q ∈ (s.zone z).queue, p ≤ q.priority := by
  unfold hasRoom
  rw [Bool.or_eq_false_iff, queueVictim_eq, isSome_foldl_improve]
  simp [List.filter_eq_nil_iff, Config.maxPlacements]

/-- The victim of a full queue (R100). -/
theorem queueVictim_of_victimFor {s : State} {z p : Nat} {v : Placement} (h : QueueVictimFor s z p v) :
    queueVictim s.zrt.stampCounter p (s.zone z).queue = some v := by
  obtain ⟨hmem, hprio, hbest⟩ := h
  have hv : v ∈ (s.zone z).queue.filter (fun x => decide (x.priority < p)) :=
    List.mem_filter.mpr ⟨hmem, by simpa using hprio⟩
  obtain ⟨pre, post, hlist, hpre⟩ := List.eq_append_cons_of_mem hv
  have hother : ∀ y ∈ pre ++ v :: post, y ≠ v → v.priority < y.priority ∨
      (v.priority = y.priority ∧ ageOf s.zrt.stampCounter v.stamp < ageOf s.zrt.stampCounter y.stamp) :=
    fun y hy hne => hbest y (List.mem_of_mem_filter (hlist ▸ hy)) hne
  rw [queueVictim_eq, hlist]
  refine foldl_improve_eq (fun y hy => ?_) fun y hy => ?_
  · have := hother y (List.mem_append_left _ hy) (fun heq => hpre (heq ▸ hy))
    simpa only [betterVictim, Bool.or_eq_true, Bool.and_eq_true, decide_eq_true_eq] using this
  · simp only [betterVictim, Bool.or_eq_false_iff, Bool.and_eq_false_iff, decide_eq_false_iff_not]
    by_cases heq : y = v
    · subst heq; omega
    · have := hother y (List.mem_append_right _ (List.mem_cons_of_mem _ hy)) heq
      omega

theorem makeRoom_of_room {s : State} {z : Nat} (h : (s.zone z).queue.length < 12) (p : Nat) : makeRoom z p s = s :=
  if_pos h

theorem makeRoom_of_victim {s : State} {z p : Nat} {v : Placement} (hfull : 12 ≤ (s.zone z).queue.length)
    (hv : queueVictim s.zrt.stampCounter p (s.zone z).queue = some v) : makeRoom z p s = dropPlacement z .displaced v s := by
  unfold makeRoom
  rw [if_neg (Nat.not_lt.mpr hfull), hv]

theorem makeRoom_stampCounter (z p : Nat) (s : State) : (makeRoom z p s).zrt.stampCounter = s.zrt.stampCounter := by
  unfold makeRoom
  split
  · rfl
  · split
    · exact dropPlacement_stampCounter ..
    · rfl

/-- Room is made by taking placements out of the one queue. -/
theorem makeRoom_zone (z p : Nat) (s : State) (y : Nat) : ∃ q, q.Sublist (s.zone y).queue ∧
    (makeRoom z p s).zone y = { s.zone y with queue := q } ∧ (y ≠ z → q = (s.zone y).queue) := by
  unfold makeRoom
  split
  · exact ⟨_, List.Sublist.refl _, rfl, fun _ => rfl⟩
  · split
    next v _ =>
      rw [dropPlacement_zone]
      by_cases hy : y = z
      · rw [if_pos hy]
        exact ⟨_, List.filter_sublist, rfl, fun h => absurd hy h⟩
      · rw [if_neg hy]
        exact ⟨_, List.Sublist.refl _, rfl, fun _ => rfl⟩
    · exact ⟨_, List.Sublist.refl _, rfl, fun _ => rfl⟩

theorem changeQueue_plays (z : Nat) (f : List Placement → List Placement) (s : State) :
    Plays s (s.modifyZone z (fun zn => { zn with queue := f zn.queue })) :=
  { Plays.rfl s with zones := map_modify (f := fun zn : Zone => { zn with queue := f zn.queue }) (fun _ => rfl) _ _ }

theorem makeRoom_zones_length (z p : Nat) (s : State) : (makeRoom z p s).zrt.zones.length = s.zrt.zones.length := by
  have := congrArg List.length (makeRoom_settles z p s).zones
  simpa using this

/-! ### Entering a queue -/

/-- A placement enters the zone's queue behind the room made for it; no other zone's record changes. -/
theorem enterQueue_zone (z : Nat) (p : Placement) (s : State) (y : Nat) : (enterQueue z p s).zone y =
    if y = z ∧ y < s.zrt.zones.length then
      { (makeRoom z p.priority s).zone y with
        queue := insertPlacement s.zrt.stampCounter p ((makeRoom z p.priority s).zone y).queue }
    else (makeRoom z p.priority s).zone y := by
  have hzones : (enterQueue z p s).zrt.zones = ((makeRoom z p.priority s).modifyZone z (fun zn =>
      { zn with queue := insertPlacement (makeRoom z p.priority s).zrt.stampCounter p zn.queue })).zrt.zones := by
    unfold enterQueue
    rw [judgeHold_zrt]
  rw [zone_of_zones hzones, zone_modifyZone, makeRoom_stampCounter, makeRoom_zones_length]

theorem enterQueue_stampCounter (z : Nat) (p : Placement) (s : State) :
    (enterQueue z p s).zrt.stampCounter = s.zrt.stampCounter := by
  unfold enterQueue
  rw [judgeHold_zrt]
  exact makeRoom_stampCounter ..

theorem enterQueue_zone_ne {z y : Nat} (h : y ≠ z) (p : Placement) (s : State) : (enterQueue z p s).zone y = s.zone y := by
  obtain ⟨q, -, hzone, hq⟩ := makeRoom_zone z p.priority s y
  rw [enterQueue_zone, if_neg (fun hc => h hc.1), hzone, hq h]

theorem enterQueue_queue {z : Nat} {s : State} (h : z < s.zrt.zones.length) (p : Placement) :
    ((enterQueue z p s).zone z).queue =
      insertPlacement s.zrt.stampCounter p ((makeRoom z p.priority s).zone z).queue := by
  rw [enterQueue_zone, if_pos ⟨rfl, h⟩]

/-- A queue in order stays so with a placement at its place (R99). -/
theorem inOrder_insertPlacement {next : Stamp} {p : Placement} :
    ∀ {q : List Placement}, InOrder next q → InOrder next (insertPlacement next p q)
  | [], _ => by simp [insertPlacement, InOrder]
  | a :: q, h => by
    obtain ⟨ha, hq⟩ := List.pairwise_cons.mp h
    unfold insertPlacement
    split
    next hb =>
      simp only [standsBehind, Bool.or_eq_true, Bool.and_eq_true, decide_eq_true_eq] at hb
      refine List.pairwise_cons.mpr ⟨fun b hmem => ?_, h⟩
      rcases List.mem_cons.mp hmem with rfl | hmem
      · omega
      · have := ha b hmem; omega
    next hb =>
      simp only [standsBehind, Bool.or_eq_true, Bool.and_eq_true, decide_eq_true_eq] at hb
      refine List.pairwise_cons.mpr ⟨fun b hmem => ?_, inOrder_insertPlacement hq⟩
      rcases mem_insertPlacement.mp hmem with rfl | hmem
      · omega
      · exact ha b hmem

/-- What stands in a queue that a placement has entered. -/
theorem mem_enterQueue {z : Nat} {s : State} (h : z < s.zrt.zones.length) {p x : Placement} :
    x ∈ ((enterQueue z p s).zone z).queue ↔ x = p ∨ x ∈ ((makeRoom z p.priority s).zone z).queue := by
  rw [enterQueue_queue h, mem_insertPlacement]

theorem emergencyEvent_zrt (s : State) : (emergencyEvent s).zrt = s.zrt := by
  unfold emergencyEvent
  split
  · rfl
  · rfl
  · rfl
  · rfl
  · rfl
  · exact judgeHold_zrt s

theorem mem_of_mem_makeRoom {z p y : Nat} {s : State} {x : Placement} (h : x ∈ ((makeRoom z p s).zone y).queue) :
    x ∈ (s.zone y).queue := by
  obtain ⟨q, hq, hzone, -⟩ := makeRoom_zone z p s y
  rw [hzone] at h
  exact hq.subset h

/-- A full queue loses its victim to the newcomer, and nothing of another announcement. -/
theorem enterQueue_of_victim {z : Nat} {p v : Placement} {s : State} (hz : z < s.zrt.zones.length)
    (hfull : 12 ≤ (s.zone z).queue.length) (hv : QueueVictimFor s z p.priority v)
    (hroom : hasRoom s z p.priority = true) :
    Plays (generate (.placementDropped v.announcement z v.priority v.condition v.stamp .displaced) s) (enterQueue z p s) ∧
      (∀ x ∈ (s.zone z).queue, x.announcement ≠ v.announcement → x ∈ ((enterQueue z p s).zone z).queue) ∧
      ∀ x ∈ ((enterQueue z p s).zone z).queue, x = p ∨ x.announcement ≠ v.announcement := by
  have hmake := makeRoom_of_victim hfull (queueVictim_of_victimFor hv)
  have hqueue : ∀ x, x ∈ ((makeRoom z p.priority s).zone z).queue ↔
      x ∈ (s.zone z).queue ∧ x.announcement ≠ v.announcement := by
    intro x
    rw [hmake, dropPlacement_zone, if_pos rfl, List.mem_filter, bne_iff_ne]
  refine ⟨?_, fun x hx hne => (mem_enterQueue hz).mpr (.inr ((hqueue x).mpr ⟨hx, hne⟩)), fun x hx => ?_⟩
  · have hdrop : Plays (generate (.placementDropped v.announcement z v.priority v.condition v.stamp .displaced) s)
        (makeRoom z p.priority s) := by
      rw [hmake]
      exact (((takePlacement_settles z v.announcement (generate (dropNotice z v .displaced) s)).trans
        (freeIfDone_settles _ _)).trans (judgeHold_settles _)).toPlays
    have hins : Plays (makeRoom z p.priority s) (enterQueue z p s) :=
      (changeQueue_plays z (insertPlacement (makeRoom z p.priority s).zrt.stampCounter p) _).trans
        (judgeHold_settles _).toPlays
    exact hdrop.trans hins
  · rcases (mem_enterQueue hz).mp hx with rfl | hx
    · exact .inl rfl
    · exact .inr ((hqueue x).mp hx).2

/-! ### A placement that comes back from a run -/

theorem isWithdrawn_iff (s : State) (a : Nat) :
    isWithdrawn s a = true ↔ ∀ x, s.slot? a = some x → x.withdrawn = true := by
  unfold isWithdrawn
  cases s.slot? a <;> simp

theorem latestPassed_iff (s : State) (a : Nat) : latestPassed s a = true ↔
    ∃ x t, s.slot? a = some x ∧ x.latestStart = some t ∧ t < (s.clock.service : Int) := by
  unfold latestPassed
  cases hx : s.slot? a with
  | none => simp
  | some x => cases ht : x.latestStart <;> simp [ht]

theorem effective_closed_iff (zn : Zone) : effective zn = .closed ↔ zn.covering = none ∧ zn.base = .closed := by
  cases hc : zn.covering with
  | some n => simp [effective, hc]
  | none =>
    rw [effective_of_uncovered hc]
    cases zn.base <;> simp [baseEffective]

theorem effective_isolated_iff (zn : Zone) : effective zn = .isolated ↔ zn.covering = none ∧ zn.base = .isolated := by
  cases hc : zn.covering with
  | some n => simp [effective, hc]
  | none =>
    rw [effective_of_uncovered hc]
    cases zn.base <;> simp [baseEffective]

theorem effective_evacuate_iff (zn : Zone) : effective zn = .evacuate ↔ zn.covering.isSome = true := by
  cases hc : zn.covering with
  | some n => simp [effective, hc]
  | none =>
    rw [effective_of_uncovered hc]
    cases zn.base <;> simp [baseEffective]

/-- The reasons of R101, in their order. -/
theorem returnReason_eq_some {s : State} {z : Nat} {p : Placement} {restoration : Bool} {reason : DropReason} :
    returnReason s z p restoration false = some reason ↔
      DroppedFor s z p (restoration = true ∧ p.interrupted = 1) reason := by
  have hw : (false || isWithdrawn s p.announcement) = true ↔ ∀ x, s.slot? p.announcement = some x → x.withdrawn = true := by
    rw [Bool.false_or, isWithdrawn_iff]
  have ha : (restoration && decide (p.interrupted = 1)) = true ↔ restoration = true ∧ p.interrupted = 1 := by simp
  have hc : (decide (effective (s.zone z) = .closed) && decide (p.priority < 6)) = true ↔
      (s.zone z).covering = none ∧ (s.zone z).base = .closed ∧ p.priority < 6 := by
    simp [effective_closed_iff, and_assoc]
  have hf : (!hasRoom s z p.priority) = true ↔
      12 ≤ (s.zone z).queue.length ∧ ∀ q ∈ (s.zone z).queue, p.priority ≤ q.priority := by
    rw [Bool.not_eq_true', hasRoom_eq_false]
  unfold returnReason DroppedFor
  dsimp only
  rw [← hw, ← ha, ← hc, ← latestPassed_iff, ← hf]
  generalize (false || isWithdrawn s p.announcement) = w, (restoration && decide (p.interrupted = 1)) = ab,
    (decide (effective (s.zone z) = .closed) && decide (p.priority < 6)) = cl, latestPassed s p.announcement = ex,
    (!hasRoom s z p.priority) = fu
  cases w with
  | true => simp [eq_comm]
  | false =>
    cases ab with
    | true => simp [eq_comm]
    | false =>
      cases cl with
      | true => simp [eq_comm]
      | false =>
        cases ex with
        | true => simp [eq_comm]
        | false => cases fu <;> simp [eq_comm]

theorem returnReason_eq_none {s : State} {z : Nat} {p : Placement} {restoration : Bool} :
    returnReason s z p restoration false = none ↔
      ∀ reason, ¬ DroppedFor s z p (restoration = true ∧ p.interrupted = 1) reason := by
  simp only [← returnReason_eq_some, Option.eq_none_iff_forall_ne_some, ne_eq]

theorem returnReason_of_marked (s : State) (z : Nat) (p : Placement) (restoration : Bool) :
    returnReason s z p restoration true = some .withdrawn := rfl

/-! #### The zone whose part ends, detached -/

theorem detachZone_zone (c z : Nat) (r : Run) (s : State) (y : Nat) : (detachZone c z r s).zone y =
    if y = z then { s.zone y with pulseEnd := none } else s.zone y := by
  unfold detachZone
  rw [zone_modifyZone]
  by_cases hy : y = z
  · by_cases hlt : y < (s.setChannel c (some { r with zones := r.zones.filter (fun a => a.zone != z) })).zrt.zones.length
    · rw [if_pos ⟨hy, hlt⟩, if_pos hy]
      rfl
    · rw [if_neg (fun h => hlt h.2), if_pos hy]
      have hnone : s.zrt.zones[y]? = none := List.getElem?_eq_none (Nat.le_of_not_lt hlt)
      simp [State.zone, List.getD_eq_getElem?_getD, hnone, coldZone]
  · rw [if_neg (fun h => hy h.1), if_neg hy]
    rfl

theorem detachZone_queue (c z : Nat) (r : Run) (s : State) (y : Nat) :
    ((detachZone c z r s).zone y).queue = (s.zone y).queue := by
  rw [detachZone_zone]; split <;> rfl

theorem detachZone_effective (c z : Nat) (r : Run) (s : State) (y : Nat) :
    effective ((detachZone c z r s).zone y) = effective (s.zone y) := by
  rw [detachZone_zone]; split <;> rfl

theorem detachZone_covering (c z : Nat) (r : Run) (s : State) (y : Nat) :
    ((detachZone c z r s).zone y).covering = (s.zone y).covering := by
  rw [detachZone_zone]; split <;> rfl

theorem hasRoom_detachZone (c z : Nat) (r : Run) (s : State) (y p : Nat) :
    hasRoom (detachZone c z r s) y p = hasRoom s y p := by
  unfold hasRoom
  rw [detachZone_queue]
  rfl

theorem returnReason_detachZone (c z : Nat) (r : Run) (s : State) (y : Nat) (p : Placement) (restoration marked : Bool) :
    returnReason (detachZone c z r s) y p restoration marked = returnReason s y p restoration marked := by
  have hw : isWithdrawn (detachZone c z r s) p.announcement = isWithdrawn s p.announcement := rfl
  have hl : latestPassed (detachZone c z r s) p.announcement = latestPassed s p.announcement := rfl
  unfold returnReason
  rw [detachZone_effective, hasRoom_detachZone, hw, hl]

theorem coveredWith_detachZone (c z : Nat) (r : Run) (s : State) (y a : Nat) :
    coveredWith (detachZone c z r s) y a = coveredWith s y a := by
  unfold coveredWith
  rw [detachZone_covering]
  rfl

theorem holdsPlacement_detachZone (c z : Nat) (r : Run) (s : State) (y a : Nat) :
    holdsPlacement (detachZone c z r s) y a = holdsPlacement s y a := by
  unfold holdsPlacement
  rw [detachZone_queue]

/-! #### What becomes of the placement -/

theorem takeRestored_of_reason {z : Nat} {p : Placement} {marked : Bool} {s : State} {reason : DropReason}
    (h : returnReason s z p true marked = some reason) :
    takeRestored z p marked s = (.dropped, generate (dropNotice z p reason) s) := by
  unfold takeRestored; rw [h]

theorem takeRestored_of_none {z : Nat} {p : Placement} {marked : Bool} {s : State}
    (h : returnReason s z p true marked = none) : takeRestored z p marked s =
      (.restored, enterQueue z { p with condition := restoredCondition s z p, interrupted := 1 } s) := by
  unfold takeRestored; rw [h]

theorem takeRepeat_of_reason {z : Nat} {p : Placement} {marked : Bool} {s : State} {reason : DropReason}
    (h : returnReason s z p false marked = some reason) (left : Repeats) (t : RunTime) :
    takeRepeat z p left t marked s = (.dropped, generate (dropNotice z p reason) s) := by
  unfold takeRepeat; rw [h]

theorem takeRepeat_of_none {z : Nat} {p : Placement} {marked : Bool} {s : State}
    (h : returnReason s z p false marked = none) (left : Repeats) (t : RunTime) :
    takeRepeat z p left t marked s = (.resting, enterNew z { p with condition := .resting t, repeats := left } s) := by
  unfold takeRepeat; rw [h]

theorem restoredCondition_eq (s : State) (z : Nat) (p : Placement) : restoredCondition s z p =
    if (s.zone z).covering.isSome = true ∧ p.priority < 7 then .held else .waiting := by
  unfold restoredCondition
  simp only [Bool.and_eq_true, decide_eq_true_eq, effective_evacuate_iff]

/-- A placement handed back with a WITHDRAWAL mark is dropped, whatever the outcome of the zone's part. -/
theorem disposePlacement_of_withdrawn {a : Attached} (h : a.mark = some .withdrawal) (z : Nat) (o : RunOutcome) (s : State) :
    disposePlacement z a o false s = (.dropped, generate (dropNotice z a.placement .withdrawn) s) := by
  have hmarked : decide (a.mark = some TruncateCause.withdrawal) = true := decide_eq_true h
  unfold disposePlacement
  rw [hmarked]
  cases o with
  | truncated | cut => exact takeRestored_of_reason (returnReason_of_marked ..)
  | completed | empty => exact takeRepeat_of_reason (returnReason_of_marked ..) a.placement.repeats 0

/-- A completed part without a WITHDRAWAL mark uses its placement up or hands it to a repeat. -/
theorem disposePlacement_of_played {a : Attached} (h : a.mark ≠ some .withdrawal) {o : RunOutcome}
    (ho : o = .completed ∨ o = .empty) (z : Nat) (discard : Bool) (s : State) : disposePlacement z a o discard s =
      match repeatsAfter a.placement.repeats with
      | none => (.usedUp, s)
      | some left => takeRepeat z a.placement left (restEnds s a.placement.announcement) false s := by
  have hmarked : decide (a.mark = some TruncateCause.withdrawal) = false := decide_eq_false h
  unfold disposePlacement
  rw [hmarked]
  rcases ho with rfl | rfl
  · rfl
  · rfl

theorem disposePlacement_of_broken {a : Attached} (h : a.mark ≠ some .withdrawal) {o : RunOutcome}
    (ho : o = .truncated ∨ o = .cut) (z : Nat) (s : State) :
    disposePlacement z a o false s = takeRestored z a.placement false s := by
  have hmarked : decide (a.mark = some TruncateCause.withdrawal) = false := decide_eq_false h
  unfold disposePlacement
  rw [hmarked]
  rcases ho with rfl | rfl
  · rfl
  · rfl

theorem resumeCoverage_of_unmarked {a : Attached} (h : a.mark ≠ some .withdrawal) (z announcement : Nat) (discard : Bool)
    (s : State) : resumeCoverage z announcement a discard s = s := if_neg fun hc => h hc.1

theorem resumeCoverage_of_discard (a : Attached) (z announcement : Nat) (s : State) :
    resumeCoverage z announcement a true s = s := if_neg fun hc => Bool.false_ne_true hc.2.1.symm

/-- The end of a zone's part, in terms of the disposal of its placement. -/
theorem endPart_eq {s : State} {c z : Nat} {r : Run} {a : Attached} (hr : s.channel c = some r)
    (ha : attachmentIn r z = some a) {o : RunOutcome} {discard : Bool} {fate : Fate} {u : State}
    (hd : disposePlacement z a o discard (detachZone c z r s) = (fate, u)) :
    endPart c o discard z s =
      recordLeft c { zone := z, outcome := o, fate := fate } (resumeCoverage z r.announcement a discard u) := by
  unfold endPart
  rw [hr]
  dsimp only
  rw [ha]
  dsimp only
  rw [hd]

/-- Without a WITHDRAWAL mark nothing follows the disposal. -/
theorem endPart_of_unmarked {s : State} {c z : Nat} {r : Run} {a : Attached} (hr : s.channel c = some r)
    (ha : attachmentIn r z = some a) (hm : a.mark ≠ some .withdrawal) {o : RunOutcome} {discard : Bool} {fate : Fate}
    {u : State} (hd : disposePlacement z a o discard (detachZone c z r s) = (fate, u)) :
    endPart c o discard z s = recordLeft c { zone := z, outcome := o, fate := fate } u := by
  rw [endPart_eq hr ha hd, resumeCoverage_of_unmarked hm]

theorem mem_insertLeft {e x : Left} : ∀ {l : List Left}, x ∈ insertLeft e l ↔ x = e ∨ x ∈ l
  | [] => by simp [insertLeft]
  | y :: l => by
    unfold insertLeft
    split
    · simp
    · rw [List.mem_cons, mem_insertLeft (l := l), List.mem_cons]
      tauto

/-- The end of a part marked as withdrawn: the placement is dropped, and the coverage placement that waited is made
where the announcement covers the zone again. -/
theorem endPart_of_withdrawn {s : State} {c z : Nat} {r : Run} {a : Attached} (hr : s.channel c = some r)
    (ha : attachmentIn r z = some a) (hm : a.mark = some .withdrawal) (o : RunOutcome) :
    (coveredWith s z r.announcement = false → endPart c o false z s =
      recordLeft c { zone := z, outcome := o, fate := .dropped }
        (generate (dropNotice z a.placement .withdrawn) (detachZone c z r s))) ∧
    (coveredWith s z r.announcement = true → holdsPlacement s z r.announcement = false →
      isWithdrawn s r.announcement = false → endPart c o false z s =
        recordLeft c { zone := z, outcome := o, fate := .dropped } (makeCoverage z r.announcement
          (generate (dropNotice z a.placement .withdrawn) (detachZone c z r s)))) := by
  set u := generate (dropNotice z a.placement .withdrawn) (detachZone c z r s) with hu
  have hcovered : coveredWith u z r.announcement = coveredWith s z r.announcement := coveredWith_detachZone ..
  have hholds : holdsPlacement u z r.announcement = holdsPlacement s z r.announcement := holdsPlacement_detachZone ..
  rw [endPart_eq hr ha (disposePlacement_of_withdrawn hm z o _), ← hu]
  refine ⟨fun hc => congrArg _ (if_neg fun h => ?_), fun hc hh hw => congrArg _ (if_pos ⟨hm, rfl, ?_, ?_, hw⟩)⟩
  · rw [hcovered, hc] at h
    exact Bool.false_ne_true h.2.2.1
  · rw [hcovered, hc]
  · rw [hholds, hh]

/-- Settles O53. -/
theorem aPartsEndDisposesOfItsPlacement : Obligations.APartsEndDisposesOfItsPlacement := by
  unfold Obligations.APartsEndDisposesOfItsPlacement
  refine ⟨fun s c z r a o hr ha => ⟨fun discard => ?_, fun ho => ?_, fun hm => ⟨fun hc => ?_, fun hc hh hx => ?_⟩,
    fun hm => ⟨fun ho hrep => ?_, fun ho left hleft => ⟨fun reason hdrop => ?_, fun hstay x hx => ?_⟩,
      fun ho => ⟨fun reason hdrop => ?_, fun hstay => ?_⟩⟩⟩, fun s z a hz hroom => ?_, fun s z a hroom => ?_,
    fun s z q hz hroom hq => ?_⟩
  · obtain ⟨fate, hple⟩ := endPart_ple hr ha o discard
    refine ⟨partEnded z { zone := z, outcome := o, fate := fate } r, ?_, rfl, rfl, fate, mem_insertLeft.mpr (.inl rfl)⟩
    simp only [State.channel, hple]
    exact channel_set_self (lt_of_channel hr) _
  · subst ho
    rw [endPart_eq hr ha (fate := .discarded) (u := detachZone c z r s) rfl, resumeCoverage_of_discard]
  · exact (endPart_of_withdrawn hr ha hm o).1 hc
  · obtain ⟨x, hslot, hw⟩ := hx
    refine (endPart_of_withdrawn hr ha hm o).2 hc hh (Bool.eq_false_iff.mpr fun h => ?_)
    rw [(isWithdrawn_iff _ _).mp h x hslot] at hw
    cases hw
  · exact endPart_of_unmarked hr ha hm ((disposePlacement_of_played hm ho z false _).trans (by rw [hrep]; rfl))
  · have hrep : repeatsAfter a.placement.repeats = some left := by
      rcases hleft with ⟨h, rfl⟩ | ⟨n, h, rfl⟩ <;> rw [h] <;> rfl
    have hreason : returnReason (detachZone c z r s) z a.placement false false = some reason := by
      rw [returnReason_detachZone, returnReason_eq_some]
      simpa using hdrop
    refine endPart_of_unmarked hr ha hm ((disposePlacement_of_played hm ho z false _).trans ?_)
    rw [hrep]
    exact takeRepeat_of_reason hreason _ _
  · have hrep : repeatsAfter a.placement.repeats = some left := by
      rcases hleft with ⟨h, rfl⟩ | ⟨n, h, rfl⟩ <;> rw [h] <;> rfl
    have hreason : returnReason (detachZone c z r s) z a.placement false false = none := by
      rw [returnReason_detachZone, returnReason_eq_none]
      simpa using hstay
    have hslot : (detachZone c z r s).slot? a.placement.announcement = some x := hx
    refine endPart_of_unmarked hr ha hm ((disposePlacement_of_played hm ho z false _).trans ?_)
    rw [hrep]
    refine (takeRepeat_of_none hreason _ _).trans ?_
    unfold restEnds
    rw [hslot]
    rfl
  · have hreason : returnReason (detachZone c z r s) z a.placement true false = some reason := by
      rw [returnReason_detachZone, returnReason_eq_some]
      simpa using hdrop
    exact endPart_of_unmarked hr ha hm
      ((disposePlacement_of_broken hm ho z _).trans (takeRestored_of_reason hreason))
  · have hreason : returnReason (detachZone c z r s) z a.placement true false = none := by
      rw [returnReason_detachZone, returnReason_eq_none]
      simpa using hstay
    refine endPart_of_unmarked hr ha hm ((disposePlacement_of_broken hm ho z _).trans
      ((takeRestored_of_none hreason).trans ?_))
    rw [restoredCondition_eq, detachZone_covering]
  · have hmade : makeCoverage z a s = emergencyEvent (enterNew z (coveragePlacement a) s) := if_pos hroom
    have hzones : (emergencyEvent (enterNew z (coveragePlacement a) s)).zrt = (enterNew z (coveragePlacement a) s).zrt :=
      emergencyEvent_zrt _
    rw [hmade, zone_of_zones (congrArg Zrt.zones hzones)]
    exact (mem_enterQueue (s := advanceStamp s) hz).mpr (.inl rfl)
  · exact if_neg (by rw [hroom]; exact Bool.false_ne_true)
  · refine ⟨(mem_enterQueue hz).mpr (.inl rfl), ?_, fun x hx => ?_, fun h => ?_, fun h x hx => ?_, fun v hfull hv => ?_⟩
    · rw [enterQueue_queue hz]
      obtain ⟨q', hsub, hzone, -⟩ := makeRoom_zone z q.priority s z
      have hlen := makeRoom_length hroom hq
      have hok : QueueOk ((makeRoom z q.priority s).zone z).queue := by
        rw [hzone]; exact hq.sublist hsub
      exact ⟨by rw [length_insertPlacement]; exact hlen, pairwise_insertPlacement hok.2⟩
    · rcases (mem_enterQueue hz).mp hx with rfl | hx
      · exact .inl rfl
      · exact .inr (mem_of_mem_makeRoom hx)
    · rw [enterQueue_queue hz]
      obtain ⟨q', hsub, hzone, -⟩ := makeRoom_zone z q.priority s z
      rw [hzone]
      exact inOrder_insertPlacement (List.Pairwise.sublist hsub h)
    · refine (mem_enterQueue hz).mpr (.inr ?_)
      rwa [makeRoom_of_room h]
    · exact enterQueue_of_victim hz hfull hv hroom

end Sys2Proof.Machine


/-! PROOFS. Passes over the zones: the sweeps of a second (R103, R104), the ends of rests (R102) and the ambient samples
(R108). -/

namespace Sys2Proof.Machine

open Sys2Proof.Claims

/-! ### Slots that keep a placement or a run -/

/-- The slot of an announcement is freed only where it has neither a placement nor a run (R84). -/
theorem freeIfDone_asc (a : Nat) (s : State) : (freeIfDone a s).asc = s.asc ∨
    (placementCount s a = 0 ∧ runCount s a = 0 ∧ (freeIfDone a s).asc = (removeSlot a s).asc) := by
  unfold freeIfDone
  split
  next h => exact .inr ⟨h.2.1, h.2.2, silenceVoices_asc ..⟩
  · exact .inl rfl

theorem slot?_removeSlot_of_ne {a b : Nat} (h : b ≠ a) (s : State) : (removeSlot a s).slot? b = s.slot? b := by
  simp only [State.slot?, removeSlot, State.withAsc_asc, List.find?_filter]
  refine congrArg (fun p => s.asc.slots.find? p) (funext fun x => ?_)
  by_cases hx : x.id = b
  · simp [hx, h]
  · simp [hx]

theorem mem_zones_of_mem_queue {s : State} {y : Nat} {p : Placement} (h : p ∈ (s.zone y).queue) :
    s.zone y ∈ s.zrt.zones := by
  by_cases hy : y < s.zrt.zones.length
  · simp only [State.zone, List.getD_eq_getElem?_getD, List.getElem?_eq_getElem hy]
    exact List.getElem_mem hy
  · simp [State.zone, List.getD_eq_getElem?_getD, List.getElem?_eq_none (Nat.le_of_not_lt hy), coldZone] at h

theorem placementCount_pos {s : State} {y : Nat} {p : Placement} (h : p ∈ (s.zone y).queue) :
    0 < placementCount s p.announcement := by
  unfold placementCount
  exact List.countP_pos_iff.mpr ⟨_, mem_zones_of_mem_queue h, List.any_eq_true.mpr ⟨p, h, by simp⟩⟩

/-- `t` is `s` after work that takes placements out of queues or changes their condition: each one left has its slot as
it was, and so has each announcement that plays. -/
structure Sheds (s t : State) : Prop where
  queued : ∀ y p, p ∈ (t.zone y).queue → ∃ q ∈ (s.zone y).queue, q.announcement = p.announcement
  slots : ∀ y p, p ∈ (t.zone y).queue → t.slot? p.announcement = s.slot? p.announcement
  played : ∀ a, 0 < runCount s a → t.slot? a = s.slot? a
  store : t.asc.slots.Sublist s.asc.slots
  ple : t.ple = s.ple
  clock : t.clock = s.clock

theorem Sheds.rfl (s : State) : Sheds s s where
  queued := fun _ p hp => ⟨p, hp, Eq.refl _⟩
  slots := fun _ _ _ => Eq.refl _
  played := fun _ _ => Eq.refl _
  store := List.Sublist.refl _
  ple := Eq.refl _
  clock := Eq.refl _

theorem Sheds.runCount {s t : State} (h : Sheds s t) (a : Nat) : runCount t a = runCount s a := by
  simp only [Machine.runCount, runs, h.ple]

theorem Sheds.trans {s t u : State} (h : Sheds s t) (g : Sheds t u) : Sheds s u where
  queued := fun y p hp => by
    obtain ⟨q, hq, hqp⟩ := g.queued y p hp
    obtain ⟨r, hr, hrq⟩ := h.queued y q hq
    exact ⟨r, hr, hrq.trans hqp⟩
  slots := fun y p hp => by
    obtain ⟨q, hq, hqp⟩ := g.queued y p hp
    rw [g.slots y p hp, ← hqp, h.slots y q hq]
  played := fun a ha => (g.played a (by rwa [h.runCount])).trans (h.played a ha)
  store := g.store.trans h.store
  ple := g.ple.trans h.ple
  clock := g.clock.trans h.clock

theorem Sheds.latestPassed {s t : State} (h : Sheds s t) {y : Nat} {p : Placement} (hp : p ∈ (t.zone y).queue) :
    latestPassed t p.announcement = latestPassed s p.announcement := by
  unfold Machine.latestPassed
  rw [h.slots y p hp, h.clock]

theorem forEach_sheds {α : Type} {xs : List α} {f : α → State → State} (h : ∀ x s, Sheds s (f x s)) (s : State) :
    Sheds s (forEach xs f s) := by
  unfold forEach
  induction xs generalizing s with
  | nil => exact .rfl s
  | cons x xs ih => exact (h x s).trans (ih (f x s))

theorem runCount_takePlacement (z a : Nat) (s : State) (b : Nat) : runCount (takePlacement z a s) b = runCount s b := rfl

theorem dropPlacement_sheds (z : Nat) (reason : DropReason) (p : Placement) (s : State) :
    Sheds s (dropPlacement z reason p s) := by
  set t := dropPlacement z reason p s with ht
  set m := generate (dropNotice z p reason) (takePlacement z p.announcement s) with hm
  have hasc : t.asc = (freeIfDone p.announcement m).asc := judgeHold_asc _
  have hslot : ∀ b, (b ≠ p.announcement ∨ 0 < placementCount m p.announcement ∨ 0 < runCount m p.announcement) →
      t.slot? b = s.slot? b := by
    intro b hb
    have hsame : ∀ u : State, t.asc = u.asc → t.slot? b = u.slot? b := fun u hu => by simp only [State.slot?, hu]
    obtain hkept | ⟨hp0, hr0, hfreed⟩ := freeIfDone_asc p.announcement m
    · exact hsame s (hasc.trans hkept)
    · rw [hsame (removeSlot p.announcement m) (hasc.trans hfreed), slot?_removeSlot_of_ne]
      · rfl
      · rcases hb with hb | hb | hb
        · exact hb
        · omega
        · omega
  have hzones : ∀ y, t.zone y = m.zone y := fun y => by
    rw [ht, zone_of_zones (dropPlacement_zones z reason p s)]
    exact (zone_of_zones rfl y)
  exact
    { queued := fun y q hq => by
        rw [ht, dropPlacement_zone] at hq
        split at hq
        · exact ⟨q, List.mem_of_mem_filter hq, rfl⟩
        · exact ⟨q, hq, rfl⟩
      slots := fun y q hq => by
        refine hslot _ ?_
        rw [hzones] at hq
        by_cases hqp : q.announcement = p.announcement
        · exact .inr (.inl (hqp ▸ placementCount_pos hq))
        · exact .inl hqp
      played := fun a ha => by
        refine hslot _ ?_
        by_cases hap : a = p.announcement
        · exact .inr (.inr (hap ▸ ha))
        · exact .inl hap
      store := dropPlacement_slots z reason p s
      ple := (dropPlacement_keepsRuns z reason p s).ple
      clock := (dropPlacement_settles z reason p s).clock }

theorem dropWhere_sheds (z : Nat) (reason : DropReason) (which : Placement → Bool) (s : State) :
    Sheds s (dropWhere z reason which s) := forEach_sheds (fun p s => dropPlacement_sheds z reason p s) s

/-! ### A pass over the zones -/

/-- A pass over the zones whose steps each change their own zone only, to what `result` says of a zone as it was. -/
theorem forEach_zonewise {inv : State → Prop} {f : Nat → State → State} {before result : Nat → Zone}
    (hinv : ∀ z u, inv u → inv (f z u)) (hother : ∀ z u y, y ≠ z → (f z u).zone y = u.zone y)
    (hself : ∀ z u, inv u → u.zone z = before z → (f z u).zone z = result z) :
    ∀ (zs : List Nat) (u : State), zs.Nodup → inv u → (∀ z ∈ zs, u.zone z = before z) →
      inv (forEach zs f u) ∧ ∀ z, (forEach zs f u).zone z = if z ∈ zs then result z else u.zone z
  | [], u, _, hu, _ => ⟨hu, fun z => by simp [forEach]⟩
  | x :: zs, u, hnodup, hu, hbefore => by
    obtain ⟨hx, hzs⟩ := List.nodup_cons.mp hnodup
    obtain ⟨hbx, hbzs⟩ := List.forall_mem_cons.mp hbefore
    have hrest : ∀ z ∈ zs, (f x u).zone z = before z := fun z hz => by
      rw [hother x u z (fun h => hx (h ▸ hz)), hbzs z hz]
    obtain ⟨hi, hz⟩ := forEach_zonewise hinv hother hself zs (f x u) hzs (hinv x u hu) hrest
    refine ⟨hi, fun z => (hz z).trans ?_⟩
    by_cases hzx : z = x
    · subst hzx
      rw [if_neg hx, if_pos (List.mem_cons_self ..), hself z u hu hbx]
    · rw [hother x u z hzx]
      simp [hzx]

/-- A sweep, by the announcement, takes out of each queue what it says of the state it begins in. -/
theorem sweep_spec {which : State → Placement → Bool} {s : State}
    (hann : ∀ u p q, p.announcement = q.announcement → which u p = which u q)
    (hwhich : ∀ u, Sheds s u → ∀ y p, p ∈ (u.zone y).queue → which u p = which s p) :
    Sheds s (sweep which s) ∧ ∀ z < 40,
      ((sweep which s).zone z).queue = (s.zone z).queue.filter (fun p => !which s p) := by
  have hpass := forEach_zonewise (inv := Sheds s) (f := fun z s => dropWhere z .expired (which s) s)
    (before := s.zone) (result := fun z => { s.zone z with queue := (s.zone z).queue.filter (fun p => !which s p) })
    (fun z u hu => hu.trans (dropWhere_sheds z .expired (which u) u))
    (fun z u y hy => dropWhere_zone_ne hy .expired (which u) u)
    (fun z u hu hz => ?_) allZones s List.nodup_range (.rfl s) (fun _ _ => rfl)
  · refine ⟨hpass.1, fun z hz => ?_⟩
    have := hpass.2 z
    rw [if_pos (show z ∈ allZones from List.mem_range.mpr hz)] at this
    exact congrArg Zone.queue this
  · have hqueue : ((dropWhere z .expired (which u) u).zone z).queue = (u.zone z).queue.filter (fun p => !which s p) := by
      rw [dropWhere_queue_of_announcement (hann u)]
      exact List.filter_congr fun p hp => by rw [hwhich u hu z p hp]
    rw [dropWhere_zone, if_pos rfl, ← hz]
    rw [dropWhere_zone, if_pos rfl] at hqueue
    exact congrArg (fun q => { u.zone z with queue := q }) hqueue

theorem startsBefore_service (s : State) (p : Placement) :
    startsBefore s s.clock.service p = latestPassed s p.announcement := by
  unfold startsBefore latestPassed
  cases (s.slot? p.announcement).bind Slot.latestStart <;> rfl

theorem sweptRollover_eq (s : State) (limit : Nat) (p : Placement) : sweptRollover s limit p =
    ((s.slot? p.announcement).any (fun x => decide (x.seq < limit)) && startsBefore s 86400 p) := by
  unfold sweptRollover startsBefore
  cases s.slot? p.announcement with
  | none => rfl
  | some x =>
    cases ht : x.latestStart with
    | none => simp [ht]
    | some t => simp [ht, Config.daySeconds]

theorem reduceLatest_slots (limit : Nat) (s : State) : (reduceLatest limit s).asc.slots = s.asc.slots.map fun x =>
    { x with latestStart := if x.seq < limit then x.latestStart.map (fun t => t - 86400) else x.latestStart } := by
  refine List.map_congr_left fun x _ => ?_
  split
  · rfl
  · rfl

theorem reduceLatest_zone (limit : Nat) (s : State) (z : Nat) : (reduceLatest limit s).zone z = s.zone z := rfl

/-! ### The requests for OPEN and NIGHT -/

theorem judgeHold_quiet (s : State) : quiet (judgeHold s) = quiet s := by
  simp only [quiet, runs, emergencyExists, judgeHold_ple, judgeHold_zrt]

theorem judgeHold_of_alert {s : State} (h : s.smc.mode = .nightAlert none) :
    (judgeHold s).smc.mode = .nightAlert (if quiet s then some s.clock.runTime else none) ∧
      (judgeHold s).smc.supply = s.smc.supply := by
  unfold judgeHold
  rw [h]
  dsimp only
  split
  · exact ⟨rfl, rfl⟩
  · exact ⟨rfl, rfl⟩

/-- A mode that changes takes the supply line with it. -/
def SupplyFollows (before after : Smc) : Prop :=
  after.supply = if after.mode = before.mode then before.supply else decide (after.mode ≠ .night)

theorem supplyIn_eq (m : Mode) : supplyIn m = decide (m ≠ .night) := by cases m <;> rfl

theorem setMode_mode (m : Mode) (cause : ModeCause) (s : State) : (setMode m cause s).smc.mode = m := rfl

theorem setMode_supply (m : Mode) (cause : ModeCause) (s : State) : (setMode m cause s).smc.supply = supplyIn m := rfl

theorem supplyFollows_of_eq {s t : State} (h : t.smc = s.smc) : SupplyFollows s.smc t.smc := by
  unfold SupplyFollows; rw [h, if_pos rfl]

theorem supplyFollows_of_ne {c : Smc} {t : State} (h : t.smc.mode ≠ c.mode) (hs : t.smc.supply = supplyIn t.smc.mode) :
    SupplyFollows c t.smc := by
  unfold SupplyFollows; rw [if_neg h, hs, supplyIn_eq]

/-- A request for OPEN, by the table of R145. -/
theorem requestOpen_mode (cause : ModeCause) (s : State) (hold : Option RunTime) :
    (requestOpen cause s).smc.mode = modeAfter 1 s (s.clock.runTime + BitVec.ofNat 32 (10 * s.smc.warmUp)) hold ∧
      SupplyFollows s.smc (requestOpen cause s).smc := by
  unfold requestOpen modeAfter
  cases hm : s.smc.mode with
  | opn => exact ⟨hm, supplyFollows_of_eq rfl⟩
  | winding => exact ⟨rfl, supplyFollows_of_ne (by rw [setMode_mode, hm]; simp) rfl⟩
  | night => exact ⟨rfl, supplyFollows_of_ne (by rw [setMode_mode, hm]; simp) rfl⟩
  | warming t e =>
    dsimp only
    split
    next ht => subst ht; exact ⟨hm, supplyFollows_of_eq rfl⟩
    next ht => exact ⟨rfl, supplyFollows_of_ne (by rw [setMode_mode, hm]; simp [Ne.symm ht]) rfl⟩
  | nightAlert h => exact ⟨rfl, supplyFollows_of_ne (by rw [setMode_mode, hm]; simp) rfl⟩

theorem enterNight_mode (cause : ModeCause) (s : State) :
    (enterNight cause s).smc.mode = .night ∧ (enterNight cause s).smc.supply = false := by
  unfold enterNight
  exact ⟨setMode_mode .night cause _, setMode_supply .night cause _⟩

theorem enterNightAlert_mode (cause : ModeCause) (s : State) : (enterNightAlert cause s).smc.mode =
      .nightAlert (if quiet (enterNightAlert cause s) then some s.clock.runTime else none) ∧
    (enterNightAlert cause s).smc.supply = true := by
  have hmode : (setMode (.nightAlert none) cause (dropForNight s)).smc.mode = .nightAlert none := setMode_mode ..
  obtain ⟨hm, hs⟩ := judgeHold_of_alert hmode
  have hclock : (setMode (.nightAlert none) cause (dropForNight s)).clock = s.clock :=
    (setMode_settles ..).clock.trans (dropForNight_settles s).clock
  unfold enterNightAlert
  refine ⟨?_, hs.trans (setMode_supply ..)⟩
  rw [hm, judgeHold_quiet, hclock]

theorem modeAfter_night_of_open {s : State} (hm : s.smc.mode = .opn) (ends : RunTime) (hold : Option RunTime) :
    modeAfter 3 s ends hold = if (runs s).any (fun r => decide (r.priority < 6)) then .winding
        else if quiet s then .night else .nightAlert hold := by
  unfold modeAfter; rw [hm]; rfl

theorem modeAfter_night_of_winding {s : State} (hm : s.smc.mode = .winding) (ends : RunTime) (hold : Option RunTime) :
    modeAfter 3 s ends hold = .winding := by
  unfold modeAfter; rw [hm]; rfl

theorem modeAfter_night_of_night {s : State} (hm : s.smc.mode = .night) (ends : RunTime) (hold : Option RunTime) :
    modeAfter 3 s ends hold = .night := by
  unfold modeAfter; rw [hm]; rfl

theorem modeAfter_night_of_warming {s : State} {t : Target} {e : RunTime} (hm : s.smc.mode = .warming t e)
    (ends : RunTime) (hold : Option RunTime) : modeAfter 3 s ends hold = .warming (nightTarget s) e := by
  unfold modeAfter; rw [hm]; rfl

theorem modeAfter_night_of_nightAlert {s : State} {h : Option RunTime} (hm : s.smc.mode = .nightAlert h)
    (ends : RunTime) (hold : Option RunTime) : modeAfter 3 s ends hold = .nightAlert h := by
  unfold modeAfter; rw [hm]; rfl

/-- A request for NIGHT, by the table of R145. -/
theorem requestNight_mode (cause : ModeCause) (s : State) (ends : RunTime) :
    (requestNight cause s).smc.mode =
        modeAfter 3 s ends (if quiet (requestNight cause s) then some s.clock.runTime else none) ∧
      SupplyFollows s.smc (requestNight cause s).smc := by
  cases hm : s.smc.mode with
  | opn =>
    have hreq : requestNight cause s = windingTest (setMode .winding cause s) := by unfold requestNight; rw [hm]
    have hlow : lowRunPlaying (setMode .winding cause s) = (runs s).any (fun r => decide (r.priority < 6)) := rfl
    rw [modeAfter_night_of_open hm]
    cases hplaying : (runs s).any (fun r => decide (r.priority < 6)) with
    | true =>
      have hsame : requestNight cause s = setMode .winding cause s := by
        rw [hreq]
        exact if_neg (fun h => by rw [hlow, hplaying] at h; exact absurd h.2 (by simp))
      rw [hsame]
      exact ⟨rfl, supplyFollows_of_ne (by rw [setMode_mode, hm]; simp) rfl⟩
    | false =>
      have hwound : requestNight cause s = if quiet s then enterNight .woundDown (setMode .winding cause s)
          else enterNightAlert .woundDown (setMode .winding cause s) := by
        rw [hreq]
        exact if_pos ⟨rfl, by rw [hlow, hplaying]⟩
      cases hquiet : quiet s with
      | true =>
        rw [hwound, hquiet]
        obtain ⟨hmode, hsupply⟩ := enterNight_mode .woundDown (setMode .winding cause s)
        refine ⟨hmode, supplyFollows_of_ne ?_ ?_⟩
        · rw [if_pos rfl, hmode, hm]; simp
        · rw [if_pos rfl, hmode, hsupply]; rfl
      | false =>
        rw [hwound, hquiet, if_neg Bool.false_ne_true, if_neg Bool.false_ne_true]
        obtain ⟨hmode, hsupply⟩ := enterNightAlert_mode .woundDown (setMode .winding cause s)
        refine ⟨hmode, supplyFollows_of_ne ?_ ?_⟩
        · rw [hmode, hm]; simp
        · rw [hmode, hsupply]; rfl
  | winding =>
    have hsame : requestNight cause s = s := by unfold requestNight; rw [hm]
    rw [hsame, modeAfter_night_of_winding hm]
    exact ⟨hm, supplyFollows_of_eq rfl⟩
  | night =>
    have hsame : requestNight cause s = s := by unfold requestNight; rw [hm]
    rw [hsame, modeAfter_night_of_night hm]
    exact ⟨hm, supplyFollows_of_eq rfl⟩
  | nightAlert h =>
    have hsame : requestNight cause s = s := by unfold requestNight; rw [hm]
    rw [hsame, modeAfter_night_of_nightAlert hm]
    exact ⟨hm, supplyFollows_of_eq rfl⟩
  | warming t e =>
    have hreq : requestNight cause s = if t = nightTarget s then s else setMode (.warming (nightTarget s) e) cause s := by
      unfold requestNight; rw [hm]
    rw [hreq, modeAfter_night_of_warming hm]
    split
    next ht => exact ⟨by rw [hm, ht], supplyFollows_of_eq rfl⟩
    next ht => exact ⟨rfl, supplyFollows_of_ne (by rw [setMode_mode, hm]; simp [Ne.symm ht]) rfl⟩

theorem modeAfter_zero (s : State) (ends : RunTime) (hold : Option RunTime) : modeAfter 0 s ends hold = s.smc.mode := by
  unfold modeAfter
  cases s.smc.mode <;> rfl

/-- Settles O18: the two sweeps, and the requests of the markers. -/
theorem aSecondSweepsTheQueuesAndMovesTheMode : Obligations.ASecondSweepsTheQueuesAndMovesTheMode := by
  unfold Obligations.ASecondSweepsTheQueuesAndMovesTheMode
  refine ⟨fun s created => ?_, fun s limit => ?_, fun night opn s => ?_⟩
  · obtain ⟨-, hqueue⟩ := sweep_spec (which := sweptPlain) (s := s) (fun u p q h => by simp only [sweptPlain, h])
      (fun u hu y p hp => hu.latestPassed hp)
    refine ⟨sweep sweptPlain s, by unfold secondZrt; rw [if_neg Bool.false_ne_true], (sweep_settles sweptPlain s).toPlays, fun z hz => ?_⟩
    rw [hqueue z hz]
    exact List.filter_congr fun p _ => by rw [startsBefore_service]; rfl
  · obtain ⟨hsheds, hqueue⟩ := sweep_spec (which := fun s => sweptRollover s limit) (s := s)
      (fun u p q h => by simp only [sweptRollover, h])
      (fun u hu y p hp => by unfold sweptRollover; rw [hu.slots y p hp])
    generalize hm : sweep (fun s => sweptRollover s limit) s = m at hsheds hqueue
    have hsettles : Settles s m := hm ▸ sweep_settles _ s
    refine ⟨reduceLatest limit m, by unfold secondZrt; rw [if_pos rfl, hm],
      (hsettles.trans (reduceLatest_settles limit m)).toPlays, fun z hz => ?_, fun y hy => ?_, fun x hx hplays => ?_⟩
    · rw [reduceLatest_zone, hqueue z hz]
      exact List.filter_congr fun p _ => by rw [sweptRollover_eq]
    · rw [reduceLatest_slots] at hy
      obtain ⟨x, hx, rfl⟩ := List.mem_map.mp hy
      exact ⟨x, hsheds.store.subset hx, rfl⟩
    · have hthere : (m.slot? x.id).isSome = true := by
        rw [hsheds.played x.id hplays]
        exact List.find?_isSome.mpr ⟨x, hx, by simp⟩
      obtain ⟨y, hy, hid⟩ := List.find?_isSome.mp hthere
      rw [reduceLatest_slots]
      exact ⟨_, List.mem_map_of_mem hy, by simpa using hid⟩
  · cases night with
    | true =>
      obtain ⟨hmode, hsupply⟩ := requestNight_mode .nightTime s (s.clock.runTime + BitVec.ofNat 32 (10 * s.smc.warmUp))
      exact ⟨requestNight .nightTime s, by unfold secondSmc; rw [if_pos rfl], (requestNight_settles .nightTime s).toPlays, hmode, hsupply⟩
    | false =>
      cases opn with
      | true =>
        obtain ⟨hmode, hsupply⟩ := requestOpen_mode .openTime s
          (if quiet (requestOpen .openTime s) then some s.clock.runTime else none)
        exact ⟨requestOpen .openTime s, by unfold secondSmc; rw [if_neg Bool.false_ne_true, if_pos rfl], (requestOpen_settles .openTime s).toPlays, hmode, hsupply⟩
      | false => exact ⟨s, rfl, Plays.rfl s, (modeAfter_zero ..).symm, supplyFollows_of_eq rfl⟩

end Sys2Proof.Machine


/-! PROOFS. The ends of rests (R102) and the ambient samples (R108); the requested modes (R145), emergency events and
the ends of warm-ups and holds (R149 to R151). -/

namespace Sys2Proof.Machine

open Sys2Proof.Claims

/-! ### The rests of one queue -/

/-- The end of the rest of `p` in a queue, where `passed` tells the announcements that may no longer start and `c` the
condition a placement goes on in. -/
def restStep (passed : Nat → Bool) (c : Placement → Condition) (queue : List Placement) (p : Placement) :
    List Placement :=
  if passed p.announcement then queue.filter (fun q => q.announcement != p.announcement)
  else queue.map (fun q => if q.announcement == p.announcement then { q with condition := c p } else q)

section
variable {passed : Nat → Bool} {c : Placement → Condition}

theorem mem_restStep {queue : List Placement} {p e : Placement} (h : e ∈ restStep passed c queue p) :
    (e ∈ queue ∧ p.announcement ≠ e.announcement) ∨ (passed e.announcement = false ∧
      ∃ q ∈ queue, p.announcement = q.announcement ∧ e = { q with condition := c p }) := by
  unfold restStep at h
  split at h
  · obtain ⟨he, hne⟩ := List.mem_filter.mp h
    exact .inl ⟨he, fun heq => by simp [heq] at hne⟩
  next hpassed =>
    obtain ⟨q, hq, rfl⟩ := List.mem_map.mp h
    by_cases hqp : q.announcement = p.announcement
    · refine .inr ⟨?_, q, hq, hqp.symm, by simp [hqp]⟩
      simp only [hqp, beq_self_eq_true, if_true]
      simpa using hpassed
    · exact .inl (by simpa [hqp] using ⟨hq, Ne.symm hqp⟩)

theorem mem_restStep_of_ne {queue : List Placement} {p q : Placement} (h : q ∈ queue)
    (hne : p.announcement ≠ q.announcement) : q ∈ restStep passed c queue p := by
  unfold restStep
  split
  · exact List.mem_filter.mpr ⟨h, by simpa using Ne.symm hne⟩
  · exact List.mem_map.mpr ⟨q, h, by simp [Ne.symm hne]⟩

theorem mem_restStep_of_eq {queue : List Placement} {p q : Placement} (h : q ∈ queue)
    (heq : p.announcement = q.announcement) (hpassed : passed q.announcement = false) :
    { q with condition := c p } ∈ restStep passed c queue p := by
  unfold restStep
  rw [heq, hpassed, if_neg Bool.false_ne_true]
  exact List.mem_map.mpr ⟨q, h, by simp⟩

/-- What stands in a queue after the rests of `ps`: what had no rest among them, and what may still start. -/
theorem mem_foldl_restStep : ∀ {ps queue : List Placement} {e : Placement}, e ∈ ps.foldl (restStep passed c) queue →
    (e ∈ queue ∧ ∀ p ∈ ps, p.announcement ≠ e.announcement) ∨ (passed e.announcement = false ∧
      ∃ q ∈ queue, ∃ p ∈ ps, p.announcement = q.announcement ∧ e = { q with condition := c p })
  | [], _, _, h => .inl ⟨h, fun _ hp => absurd hp List.not_mem_nil⟩
  | p :: ps, queue, e, h => by
    obtain ⟨he, hps⟩ | ⟨hpassed, q, hq, p', hp', hann, rfl⟩ := mem_foldl_restStep (ps := ps) h
    · obtain ⟨he, hne⟩ | ⟨hpassed, q, hq, hann, rfl⟩ := mem_restStep he
      · exact .inl ⟨he, List.forall_mem_cons.mpr ⟨hne, hps⟩⟩
      · exact .inr ⟨hpassed, q, hq, p, List.mem_cons_self .., hann, rfl⟩
    · refine .inr ⟨hpassed, ?_⟩
      obtain ⟨hq, -⟩ | ⟨-, r, hr, -, rfl⟩ := mem_restStep hq
      · exact ⟨q, hq, p', List.mem_cons_of_mem _ hp', hann, rfl⟩
      · exact ⟨r, hr, p', List.mem_cons_of_mem _ hp', hann, rfl⟩

theorem mem_foldl_restStep_of_ne : ∀ {ps queue : List Placement} {q : Placement}, q ∈ queue →
    (∀ p ∈ ps, p.announcement ≠ q.announcement) → q ∈ ps.foldl (restStep passed c) queue
  | [], _, _, h, _ => h
  | _ :: ps, _, _, h, hps => mem_foldl_restStep_of_ne (ps := ps)
      (mem_restStep_of_ne h (hps _ (List.mem_cons_self ..))) fun p hp => hps p (List.mem_cons_of_mem _ hp)

theorem mem_foldl_restStep_of_eq {ps : List Placement} : ∀ {queue : List Placement} {p q : Placement}, q ∈ queue →
    p ∈ ps → p.announcement = q.announcement → passed q.announcement = false →
    ∃ p ∈ ps, p.announcement = q.announcement ∧ { q with condition := c p } ∈ ps.foldl (restStep passed c) queue := by
  induction ps with
  | nil => exact fun _ hp => absurd hp List.not_mem_nil
  | cons x ps ih =>
    intro queue p q hq hp hann hpassed
    by_cases hlater : ∃ p ∈ ps, p.announcement = q.announcement
    · obtain ⟨p', hp', hann'⟩ := hlater
      by_cases hx : x.announcement = q.announcement
      · obtain ⟨r, hr, hrq, hmem⟩ := ih (mem_restStep_of_eq (c := c) hq hx hpassed) hp' hann' hpassed
        exact ⟨r, List.mem_cons_of_mem _ hr, hrq, hmem⟩
      · obtain ⟨r, hr, hrq, hmem⟩ := ih (mem_restStep_of_ne (passed := passed) (c := c) hq hx) hp' hann' hpassed
        exact ⟨r, List.mem_cons_of_mem _ hr, hrq, hmem⟩
    · have hne : ∀ p ∈ ps, p.announcement ≠ q.announcement := fun p' hp' heq => hlater ⟨p', hp', heq⟩
      have hx : x.announcement = q.announcement := by
        rcases List.mem_cons.mp hp with rfl | hp
        · exact hann
        · exact absurd hann (hne p hp)
      exact ⟨x, List.mem_cons_self .., hx,
        mem_foldl_restStep_of_ne (ps := ps) (mem_restStep_of_eq hq hx hpassed) hne⟩

end

/-! ### The ends of rests (R102) -/

theorem restDue_iff (s : State) (p : Placement) :
    restDue s p = true ↔ ∃ t, p.condition = .resting t ∧ reached t s.clock.runTime = true := by
  unfold restDue
  cases hc : p.condition with
  | resting t => simp [State.now]
  | waiting | held => simp

theorem restedCondition_eq (s : State) (z : Nat) : restoredCondition s z = fun p =>
    if (s.zone z).covering.isSome = true ∧ p.priority < 7 then .held else .waiting :=
  funext fun p => restoredCondition_eq s z p

/-- The rests that a queue's placements end have the queue after them. -/
def restedQueue (s : State) (z : Nat) : List Placement :=
  ((s.zone z).queue.filter (restDue s)).foldl (restStep (latestPassed s) (restoredCondition s z)) (s.zone z).queue

theorem endRest_zone (z : Nat) (p : Placement) (s : State) (y : Nat) : (endRest z p s).zone y = if y = z then
    { s.zone y with queue := restStep (latestPassed s) (restoredCondition s z) (s.zone y).queue p } else s.zone y := by
  unfold endRest restStep
  split
  · rw [dropPlacement_zone]
  · rw [zone_modifyZone]
    by_cases hy : y = z
    · by_cases hlt : y < s.zrt.zones.length
      · rw [if_pos ⟨hy, hlt⟩, if_pos hy]
      · rw [if_neg (fun h => hlt h.2), if_pos hy]
        simp [State.zone, List.getD_eq_getElem?_getD, List.getElem?_eq_none (Nat.le_of_not_lt hlt), coldZone]
    · rw [if_neg (fun h => hy h.1), if_neg hy]

theorem endRest_sheds (z : Nat) (p : Placement) (s : State) : Sheds s (endRest z p s) := by
  by_cases hpassed : latestPassed s p.announcement = true
  · unfold endRest
    rw [if_pos hpassed]
    exact dropPlacement_sheds z .expired p s
  · have heq : endRest z p s = s.modifyZone z (fun zn => { zn with queue := zn.queue.map (fun q =>
        if q.announcement == p.announcement then { q with condition := restoredCondition s z p } else q) }) := by
      unfold endRest; rw [if_neg hpassed]
    refine
      { queued := fun y q hq => ?_
        slots := fun _ _ _ => by rw [heq]; rfl
        played := fun _ _ => by rw [heq]; rfl
        store := by rw [heq]; exact List.Sublist.refl _
        ple := by rw [heq]; rfl
        clock := by rw [heq]; rfl }
    rw [endRest_zone] at hq
    split at hq
    · obtain ⟨hq, -⟩ | ⟨-, r, hr, -, rfl⟩ := mem_restStep hq
      · exact ⟨q, hq, rfl⟩
      · exact ⟨r, hr, rfl⟩
    · exact ⟨q, hq, rfl⟩

/-- One rest after others of its zone ends by what the state says in which the first of them ended. -/
theorem endRest_zone_of_sheds {s u : State} (hu : Sheds s u) {z : Nat} (hz : (u.zone z).covering = (s.zone z).covering)
    (p : Placement) : ((endRest z p u).zone z).queue =
      restStep (latestPassed s) (restoredCondition s z) (u.zone z).queue p := by
  rw [endRest_zone, if_pos rfl]
  dsimp only
  by_cases hp : ∃ q ∈ (u.zone z).queue, q.announcement = p.announcement
  · obtain ⟨q, hq, hann⟩ := hp
    unfold restStep
    rw [← hann, hu.latestPassed hq, restedCondition_eq, restedCondition_eq, hz]
  · have hnone : ∀ passed c, restStep passed c (u.zone z).queue p = (u.zone z).queue := fun passed c => by
      unfold restStep
      split
      · exact List.filter_eq_self.mpr fun q hq => by simpa using fun heq => hp ⟨q, hq, heq⟩
      · refine (List.map_congr_left fun q hq => ?_).trans (List.map_id _)
        rw [if_neg (by simpa using fun heq => hp ⟨q, hq, heq⟩)]
        rfl
    rw [hnone, hnone]

theorem forEach_endRest_spec {s : State} {z : Nat} : ∀ (ps : List Placement) (u : State), Sheds s u →
    (u.zone z).covering = (s.zone z).covering → Sheds s (forEach ps (endRest z) u) ∧
      ∀ y, (forEach ps (endRest z) u).zone y = if y = z then
        { u.zone y with queue := ps.foldl (restStep (latestPassed s) (restoredCondition s z)) (u.zone y).queue }
        else u.zone y
  | [], u, hu, _ => ⟨hu, fun y => by simp [forEach]⟩
  | p :: ps, u, hu, hz => by
    have hself : (endRest z p u).zone z = { u.zone z with
        queue := restStep (latestPassed s) (restoredCondition s z) (u.zone z).queue p } := by
      have hqueue := endRest_zone_of_sheds hu hz p
      rw [endRest_zone, if_pos rfl] at hqueue ⊢
      exact congrArg (fun q => { u.zone z with queue := q }) hqueue
    obtain ⟨hsheds, hzone⟩ := forEach_endRest_spec ps (endRest z p u) (hu.trans (endRest_sheds z p u))
      (by rw [hself]; exact hz)
    refine ⟨hsheds, fun y => (hzone y).trans ?_⟩
    by_cases hy : y = z
    · subst hy; rw [if_pos rfl, if_pos rfl, hself, List.foldl_cons]
    · rw [if_neg hy, if_neg hy, endRest_zone, if_neg hy]

theorem endRestsIn_zone_ne {z y : Nat} (hy : y ≠ z) (s : State) : (endRestsIn z s).zone y = s.zone y := by
  unfold endRestsIn
  rw [(forEach_endRest_spec _ s (.rfl s) rfl).2 y, if_neg hy]

theorem endRestsIn_zone_of_sheds {s u : State} (hu : Sheds s u) {z : Nat} (hz : u.zone z = s.zone z) :
    (endRestsIn z u).zone z = { s.zone z with queue := restedQueue s z } := by
  have hdue : restDue u = restDue s := funext fun p => by unfold restDue State.now; rw [hu.clock]
  unfold endRestsIn restedQueue
  rw [hz, hdue, (forEach_endRest_spec _ u hu (by rw [hz])).2 z, if_pos rfl, hz]

/-- All rests that are due end, each queue by what the state says in which they end. -/
theorem forEach_endRestsIn_queue (s : State) {z : Nat} (hz : z < 40) :
    ((forEach allZones endRestsIn s).zone z).queue = restedQueue s z := by
  have hpass := forEach_zonewise (inv := Sheds s) (f := endRestsIn) (before := s.zone)
    (result := fun z => { s.zone z with queue := restedQueue s z })
    (fun z u hu => hu.trans (forEach_sheds (fun p u => endRest_sheds z p u) u))
    (fun z u y hy => endRestsIn_zone_ne hy u) (fun z u hu hz => endRestsIn_zone_of_sheds hu hz)
    allZones s List.nodup_range (.rfl s) (fun _ _ => rfl)
  have hzone := hpass.2 z
  rw [if_pos (show z ∈ allZones from List.mem_range.mpr hz)] at hzone
  exact congrArg Zone.queue hzone

theorem not_restDue_restedQueue {s : State} {z : Nat} {q : Placement} (h : q ∈ restedQueue s z) :
    restDue s q = false := by
  by_contra hdue
  have hdue : restDue s q = true := by simpa using hdue
  obtain ⟨hq, hnone⟩ | ⟨-, r, -, p, -, -, rfl⟩ := mem_foldl_restStep h
  · exact hnone q (List.mem_filter.mpr ⟨hq, hdue⟩) rfl
  · obtain ⟨t, ht, -⟩ := (restDue_iff s _).mp hdue
    have hc : restoredCondition s z p = .resting t := ht
    rw [restoredCondition_eq] at hc
    split at hc <;> simp at hc

/-! ### The ambient samples (R108) -/

theorem sampleOf_eq (x : Int) : sampleOf x = (max 30 (min 120 x)).toNat := by
  unfold sampleOf
  rw [clampInt_eq (by omega)]

theorem sampledZone_iff (s : State) (z : Nat) : sampledZone s z = true ↔
    (s.zone z).enabled = true ∧ (s.zone z).base ≠ .isolated ∧ attachedChannel s z = none := by
  simp [sampledZone, and_assoc]

theorem sampleZone_zone {s : State} {z : Nat} (hz : z < s.zrt.zones.length) (readings : List Int) (y : Nat) :
    (sampleZone readings z s).zone y = if y = z ∧ sampledZone s z then
      { s.zone y with window := joinWindow (sampleOf (readings.getD z 30)) (s.zone y).window } else s.zone y := by
  unfold sampleZone
  by_cases hs : sampledZone s z = true
  · rw [if_pos hs, zone_modifyZone]
    by_cases hy : y = z
    · rw [if_pos ⟨hy, hy ▸ hz⟩, if_pos ⟨hy, hs⟩]
    · rw [if_neg (fun h => hy h.1), if_neg (fun h => hy h.1)]
  · rw [if_neg hs, if_neg (fun h => hs h.2)]

/-- `t` is `s` but for the zones' records. -/
def ZonesOnly (s t : State) : Prop := ∃ zones, t = s.withZrt { s.zrt with zones := zones } ∧
  zones.length = s.zrt.zones.length

theorem sampleZone_zonesOnly (readings : List Int) (z : Nat) {s u : State} (h : ZonesOnly s u) :
    ZonesOnly s (sampleZone readings z u) := by
  obtain ⟨zones, rfl, hlen⟩ := h
  unfold sampleZone
  split
  · exact ⟨_, rfl, by simpa using hlen⟩
  · exact ⟨zones, rfl, hlen⟩

/-- The record of a zone after its sample. -/
def sampled (readings : List Int) (s : State) (z : Nat) : Zone :=
  if z < 40 ∧ sampledZone s z then
    { s.zone z with window := joinWindow (sampleOf (readings.getD z 30)) (s.zone z).window } else s.zone z

theorem forEach_sampleZone {readings : List Int} {s : State} (hlen : s.zrt.zones.length = 40) :
    ZonesOnly s (forEach allZones (sampleZone readings) s) ∧
      ∀ z < 40, (forEach allZones (sampleZone readings) s).zone z = sampled readings s z := by
  have hlength : ∀ u, ZonesOnly s u → u.zrt.zones.length = 40 := by
    rintro u ⟨zones, rfl, hzones⟩
    exact hzones.trans hlen
  have hpass := forEach_zonewise (inv := ZonesOnly s) (f := sampleZone readings) (before := s.zone)
    (result := sampled readings s) (fun z u hu => sampleZone_zonesOnly readings z hu) (fun z u y hy => ?_)
    (fun z u hu hz => ?_) allZones s List.nodup_range ⟨_, rfl, rfl⟩ (fun _ _ => rfl)
  · refine ⟨hpass.1, fun z hz => (hpass.2 z).trans (if_pos (List.mem_range.mpr hz))⟩
  · unfold sampleZone
    split
    · rw [zone_modifyZone, if_neg fun h => hy h.1]
    · rfl
  · by_cases hlt : z < 40
    · have hs : sampledZone u z = sampledZone s z := by
        obtain ⟨zones, rfl, -⟩ := hu
        unfold sampledZone
        rw [hz]; rfl
      rw [sampleZone_zone (by rw [hlength u hu]; exact hlt), hz, hs]
      simp [sampled, hlt]
    · have hsame : sampleZone readings z u = u := by
        unfold sampleZone
        rw [modifyZone_of_le (by rw [hlength u hu]; omega), ite_self]
      rw [hsame, hz, sampled, if_neg fun h => hlt h.1]

/-- Settles O60: the ends of the rests that are due, and the samples of an instant. -/
theorem restsEndAndSamplesAreTaken : Obligations.RestsEndAndSamplesAreTaken := by
  unfold Obligations.RestsEndAndSamplesAreTaken
  refine ⟨fun z a s hs => ⟨fun hnone => ?_, fun p hp hdue => ?_⟩, fun readings s hs => ⟨fun hidle => ?_, fun hdue hlen => ?_⟩⟩
  · have hended : restEnded s z a = false := by
      by_contra h
      obtain ⟨p, hp, hd⟩ := Option.any_eq_true _ _ |>.mp (Bool.not_eq_false _ ▸ h)
      exact hnone p hp ((restDue_iff s p).mp hd)
    rw [exec_of_running rfl (fun _ => rfl) hs]
    exact congrArg Host.Outcome.next (if_neg (by rw [hended]; exact Bool.false_ne_true))
  · have hended : restEnded s z a = true := by
      unfold restEnded
      rw [hp]
      exact (restDue_iff s p).mpr hdue
    refine ⟨forEach allZones endRestsIn s, ?_, ?_, fun y hy => ?_⟩
    · rw [exec_of_running rfl (fun _ => rfl) hs]
      exact congrArg Host.Outcome.next (if_pos hended)
    · exact (forEach_settles (fun z s => forEach_settles (fun p s => endRest_settles z p s) s) s).toPlays
    · rw [forEach_endRestsIn_queue s hy]
      refine ⟨fun q hq hd => ?_, fun q hq => ⟨fun hd hpassed e he heq => ?_, fun hd hlive => ?_, fun hnone => ?_⟩⟩
      · have := not_restDue_restedQueue hq
        rw [(restDue_iff s q).mpr hd] at this
        exact absurd this (by simp)
      · rw [startsBefore_service] at hpassed
        obtain ⟨-, hne⟩ | ⟨hlive, -⟩ := mem_foldl_restStep he
        · exact hne q (List.mem_filter.mpr ⟨hq, (restDue_iff s q).mpr hd⟩) heq.symm
        · rw [heq, hpassed] at hlive
          exact absurd hlive (by simp)
      · rw [startsBefore_service] at hlive
        obtain ⟨p, hp, hann, hmem⟩ := mem_foldl_restStep_of_eq (passed := latestPassed s) (c := restoredCondition s y) hq
          (List.mem_filter.mpr ⟨hq, (restDue_iff s q).mpr hd⟩) rfl hlive
        rw [restedCondition_eq] at hmem
        exact ⟨p, List.mem_of_mem_filter hp, hann, by rw [restedQueue, restedCondition_eq]; exact hmem⟩
      · refine mem_foldl_restStep_of_ne hq fun p hp heq => ?_
        obtain ⟨hp, hd⟩ := List.mem_filter.mp hp
        exact hnone p hp heq ((restDue_iff s p).mp hd)
  · rw [exec_of_running rfl (fun _ => rfl) hs]
    exact congrArg Host.Outcome.next (if_neg (by rw [State.withPins_zrt, hidle]; exact Bool.false_ne_true))
  · set s1 := (s.withPins { s.pins with noise := readings }).withZrt { s.zrt with ambientDue := false } with hs1
    obtain ⟨⟨zones, heq, hzones⟩, hsampled⟩ := forEach_sampleZone (readings := readings) (s := s1) hlen
    refine ⟨zones, ?_, hzones.trans hlen, fun z zn hz => ?_⟩
    · rw [exec_of_running rfl (fun _ => rfl) hs]
      refine congrArg Host.Outcome.next ((if_pos hdue).trans ?_)
      exact heq
    · have hlt : z < 40 := by rw [← hlen]; exact (List.getElem?_eq_some_iff.mp hz).1
      have hbefore : s1.zone z = zn := by
        show s.zrt.zones.getD z coldZone = zn
        rw [List.getD_eq_getElem?_getD, hz]; rfl
      have hafter : zones[z]? = some (sampled readings s1 z) := by
        have hget : zones.getD z coldZone = sampled readings s1 z := by rw [← hsampled z hlt, heq]; rfl
        have hz' : z < zones.length := by rw [hzones]; exact hlen ▸ hlt
        rw [← hget, List.getD_eq_getElem?_getD, List.getElem?_eq_getElem hz']; rfl
      have htakes := sampledZone_iff s1 z
      rw [hbefore] at htakes
      rw [hafter, sampled, hbefore]
      refine ⟨fun h => ?_, fun h => ?_⟩
      · rw [if_pos ⟨hlt, htakes.mpr h⟩, joinWindow, sampleOf_eq]
      · rw [if_neg fun hs => h (htakes.mp hs.2)]

/-! ### MODE_SET -/

theorem requestedMode_eq (m : Nat) : requestedMode m =
    if m = 0 then some none else if m = 1 then some (some .opn) else if m = 3 then some (some .night) else none := by
  unfold requestedMode
  split <;> simp_all

theorem clampWarmUp_eq (w : Nat) : clampWarmUp w = max 1 (min 30 w) := by
  unfold clampWarmUp
  rw [clampNat_eq (by omega)]

theorem setModeRequest_of_some {r : ModeSetReq} {m : Option Target} (h : requestedMode r.mode = some m) (s : State) :
    setModeRequest r s = (.accepted (decide (clampWarmUp r.warmUp ≠ r.warmUp))
      (modeBody m (settle (actOnMode m (s.withSmc { s.smc with warmUp := clampWarmUp r.warmUp }))).smc) .nothing,
      settle (actOnMode m (s.withSmc { s.smc with warmUp := clampWarmUp r.warmUp }))) := by
  unfold setModeRequest
  rw [h]; rfl

/-- The mode that a requested mode leaves (R145). -/
theorem actOnMode_mode {m : Nat} {t : Option Target} (h : requestedMode m = some t) (s : State) :
    (actOnMode t s).smc.mode = modeAfter m s (s.clock.runTime + BitVec.ofNat 32 (10 * s.smc.warmUp))
        (if quiet (actOnMode t s) then some s.clock.runTime else none) ∧
      SupplyFollows s.smc (actOnMode t s).smc := by
  rw [requestedMode_eq] at h
  split_ifs at h with h0 h1 h3
  · cases h; subst h0
    exact ⟨(modeAfter_zero ..).symm, supplyFollows_of_eq rfl⟩
  · cases h; subst h1
    exact requestOpen_mode .request s _
  · cases h; subst h3
    exact requestNight_mode .request s _

/-- Settles O58: an unknown mode, and the requested mode on a part with the new warm-up setting. -/
theorem modeSetActsOnTheMode : Obligations.ModeSetActsOnTheMode := by
  unfold Obligations.ModeSetActsOnTheMode
  intro tag r s s0 h
  refine ⟨fun h0 h1 h3 => onlyAnswers_of_owner_eq h ?_, fun hmode => ?_⟩
  · show setModeRequest r s0 = _
    have hnone : requestedMode r.mode = none := by
      rw [requestedMode_eq, if_neg h0, if_neg h1, if_neg h3]
    unfold setModeRequest
    rw [hnone]; rfl
  · obtain ⟨m, hm, hzero⟩ : ∃ m, requestedMode r.mode = some m ∧ (m = none ↔ r.mode = 0) := by
      rw [requestedMode_eq]
      rcases hmode with h0 | h1 | h3
      · exact ⟨none, by simp [h0], by simp [h0]⟩
      · exact ⟨some .opn, by simp [h1], by simp [h1]⟩
      · exact ⟨some .night, by simp [h3], by simp [h3]⟩
    set s1 := s0.withSmc { s0.smc with warmUp := clampWarmUp r.warmUp } with hs1
    obtain ⟨hafter, hsupply⟩ := actOnMode_mode hm s1
    have hsettles : Settles s1 (actOnMode m s1) := actOnMode_settles m s1
    have hwarm : (settle (actOnMode m s1)).smc.warmUp = clampWarmUp r.warmUp :=
      (hsettles.trans (settle_settles _)).warmUp
    refine ⟨actOnMode m s1, settle (actOnMode m s1), rfl, ?_, ?_, ?_, hsupply⟩
    · rw [exec_of_owner_eq h (setModeRequest_of_some hm s0), ← hs1, modeBody, hwarm, ← clampWarmUp_eq]
      have hclamped : decide (clampWarmUp r.warmUp ≠ r.warmUp) = decide (r.warmUp < 1 ∨ 30 < r.warmUp) := by
        rw [clampWarmUp_eq]
        exact decide_eq_decide.mpr (by omega)
      rw [hclamped]
      simp only [hzero]
    · rw [← clampWarmUp_eq]
      exact hsettles.toPlays
    · rw [← clampWarmUp_eq]
      exact hafter

/-! ### Emergency events and the entries to night -/

theorem dropForNight_noLow (s : State) : ∀ z < 40, ∀ p ∈ ((dropForNight s).zone z).queue, 6 ≤ p.priority := by
  have hpass := forEach_zonewise (inv := fun _ => True)
    (f := fun z => dropWhere z .night (fun p => decide (p.priority < 6))) (before := s.zone)
    (result := fun z => (dropWhere z .night (fun p => decide (p.priority < 6)) s).zone z) (fun _ _ h => h)
    (fun z u y hy => dropWhere_zone_ne hy ..) (fun z u _ hz => by rw [dropWhere_zone, dropWhere_zone, hz])
    allZones s List.nodup_range trivial (fun _ _ => rfl)
  intro z hz p hp
  have hzone := hpass.2 z
  rw [if_pos (show z ∈ allZones from List.mem_range.mpr hz)] at hzone
  unfold dropForNight at hp
  rw [hzone] at hp
  simpa using (dropWhere_queue_none hp).2

theorem setMode_zrt (m : Mode) (cause : ModeCause) (s : State) : (setMode m cause s).zrt = s.zrt := rfl

theorem enterNight_noLow (cause : ModeCause) (s : State) :
    ∀ z < 40, ∀ p ∈ ((enterNight cause s).zone z).queue, 6 ≤ p.priority := by
  intro z hz p hp
  unfold enterNight at hp
  rw [zone_of_zones (congrArg Zrt.zones (setMode_zrt .night cause (dropForNight s))) z] at hp
  exact dropForNight_noLow s z hz p hp

theorem enterNightAlert_noLow (cause : ModeCause) (s : State) :
    ∀ z < 40, ∀ p ∈ ((enterNightAlert cause s).zone z).queue, 6 ≤ p.priority := by
  intro z hz p hp
  unfold enterNightAlert at hp
  rw [zone_of_zones (congrArg Zrt.zones ((judgeHold_zrt _).trans (setMode_zrt .. : _ = (dropForNight s).zrt))) z] at hp
  exact dropForNight_noLow s z hz p hp

theorem judgeHold_of_loud {s : State} {h : Option RunTime} (hm : s.smc.mode = .nightAlert h) (hq : quiet s = false) :
    judgeHold s = s.withSmc { s.smc with mode := .nightAlert none } := by
  unfold judgeHold
  rw [hm, hq]; rfl

theorem emergencyEvent_of_night {s : State} (h : s.smc.mode = .night) :
    emergencyEvent s = setMode (.warming .nightAlert (warmUpEnds s)) .emergency s := by
  unfold emergencyEvent; rw [h]

theorem emergencyEvent_of_warming_night {s : State} {e : RunTime} (h : s.smc.mode = .warming .night e) :
    emergencyEvent s = setMode (.warming .nightAlert e) .emergency s := by
  unfold emergencyEvent; rw [h]

theorem emergencyEvent_of_nightAlert {s : State} {h : Option RunTime} (hm : s.smc.mode = .nightAlert h) :
    emergencyEvent s = judgeHold s := by
  unfold emergencyEvent; rw [hm]

theorem emergencyEvent_of_idle {s : State} (h : s.smc.mode = .opn ∨ s.smc.mode = .winding ∨
    ∃ e, s.smc.mode = .warming .opn e ∨ s.smc.mode = .warming .nightAlert e) : emergencyEvent s = s := by
  unfold emergencyEvent
  obtain h | h | ⟨e, h | h⟩ := h <;> rw [h]

/-- What a warm-up's end enters (R150). -/
theorem enterTarget_spec (g : Target) (s : State) :
    (g = .opn → (enterTarget g s).smc.mode = .opn ∧ (enterTarget g s).smc.supply = true ∧ (enterTarget g s).zrt = s.zrt) ∧
    (g = .night → (enterTarget g s).smc.mode = .night ∧ (enterTarget g s).smc.supply = false ∧
      ∀ z < 40, ∀ p ∈ ((enterTarget g s).zone z).queue, 6 ≤ p.priority) ∧
    (g = .nightAlert → (enterTarget g s).smc.supply = true ∧
      (∀ z < 40, ∀ p ∈ ((enterTarget g s).zone z).queue, 6 ≤ p.priority) ∧
      (enterTarget g s).smc.mode = .nightAlert (if quiet (enterTarget g s) then some s.clock.runTime else none)) := by
  refine ⟨fun h => ?_, fun h => ?_, fun h => ?_⟩
  · subst h; exact ⟨rfl, rfl, rfl⟩
  · subst h
    obtain ⟨hmode, hsupply⟩ := enterNight_mode .warmed s
    exact ⟨hmode, hsupply, enterNight_noLow .warmed s⟩
  · subst h
    have heq : enterTarget .nightAlert s = enterNightAlert .warmed s := rfl
    obtain ⟨hmode, hsupply⟩ := enterNightAlert_mode .warmed s
    rw [heq]
    exact ⟨hsupply, enterNightAlert_noLow .warmed s, hmode⟩

theorem takeWarmUpEnd_of_due {s : State} {g : Target} {e : RunTime} (h : s.smc.mode = .warming g e)
    (hdue : reached e s.clock.runTime = true) : takeWarmUpEnd s = settle (enterTarget g s) := by
  unfold takeWarmUpEnd; rw [h]; exact if_pos hdue

theorem takeWarmUpEnd_of_notDue {s : State}
    (h : ∀ g e, s.smc.mode = .warming g e → reached e s.clock.runTime = false) : takeWarmUpEnd s = s := by
  unfold takeWarmUpEnd
  split
  next g e hm => exact if_neg (by rw [State.now, h g e hm]; exact Bool.false_ne_true)
  · rfl

theorem takeHoldExpiry_of_due {s : State} {t : RunTime} (h : s.smc.mode = .nightAlert (some t))
    (hdue : reached (t + 600) s.clock.runTime = true) : takeHoldExpiry s = settle (enterNight .holdExpired s) := by
  unfold takeHoldExpiry; rw [h]; exact if_pos hdue

theorem takeHoldExpiry_of_notDue {s : State}
    (h : ∀ t, s.smc.mode = .nightAlert (some t) → reached (t + 600) s.clock.runTime = false) : takeHoldExpiry s = s := by
  unfold takeHoldExpiry
  split
  next t hm => exact if_neg (by rw [State.now]; exact fun hd => Bool.false_ne_true ((h t hm).symm.trans hd))
  · rfl

end Sys2Proof.Machine


/-! PROOFS. A law that the work on announcements and on calls keeps: the walk through the operations that play, settle,
place and withdraw (`Player`), and through those of the blocks' own events and of the call table (`Placer`, and with the
changes of mode `Worker`), made once for every such law. -/

namespace Sys2Proof.Machine

open Sys2Proof.Claims

/-- The run is that of the same announcement, with the same zones and placements attached. -/
structure SameRun (r r' : Run) : Prop where
  announcement : r'.announcement = r.announcement
  priority : r'.priority = r.priority
  zones : r'.zones.map (fun a => (a.zone, a.placement)) = r.zones.map (fun a => (a.zone, a.placement))

theorem channel_of_victimChannel {s : State} {p c : Nat} {r : Run} (h : victimChannel s p = some (c, r)) :
    c < 8 ∧ s.channel c = some r := by
  rw [victimChannel_eq] at h
  exact mem_playing.mp (List.mem_of_mem_filter (mem_of_foldl_improve h))

/-- A relation from a state to what the work on announcements that follows an event makes of it. -/
structure Player (K : State → State → Prop) : Prop where
  rfl : ∀ s, K s s
  trans : ∀ {s t u}, K s t → K t u → K s u
  generate : ∀ n s, K s (generate n s)
  drop : ∀ z reason p s, K s (dropPlacement z reason p s)
  cover : ∀ {z a s}, coveredWith s z a = true → K s (makeCoverage z a s)
  endPart : ∀ {c}, c < 8 → ∀ o discard z s, K s (endPart c o discard z s)
  idle : ∀ c o s, K s (channelIdle c o s)
  rerun : ∀ {c r r' s}, s.channel c = some r → SameRun r r' → K s (s.setChannel c (some r'))
  emergency : ∀ s, K s (emergencyEvent s)
  start : ∀ {c x z zs s} (seized : Option Nat), c < 8 → s.channel c = none → s.slot? x.id = some x →
    startZones s x.id = z :: zs → K s (started c x (z :: zs) seized s)
  pulse : ∀ {f : Zone → Zone}, (∀ zn, f zn = { zn with pulseEnd := (f zn).pulseEnd }) → ∀ z s, K s (s.modifyZone z f)
  createEvac : ∀ n s, K s (createEvac n s).2

namespace Player

variable {K : State → State → Prop} (k : Player K)
include k

theorem forEach {α : Type} {xs : List α} {f : α → State → State} (h : ∀ x s, K s (f x s)) (s : State) :
    K s (forEach xs f s) := by
  unfold Machine.forEach
  induction xs generalizing s with
  | nil => exact k.rfl s
  | cons x xs ih => exact k.trans (h x s) (ih (f x s))

theorem forEachOf {α : Type} {f : α → State → State} : ∀ {xs : List α}, (∀ x ∈ xs, ∀ s, K s (f x s)) → ∀ s,
    K s (Machine.forEach xs f s)
  | [], _, s => k.rfl s
  | x :: xs, h, s => by
    obtain ⟨hx, hxs⟩ := List.forall_mem_cons.mp h
    exact k.trans (hx s) (forEachOf hxs (f x s))

theorem ite {p : Prop} [Decidable p] {s t : State} (h : K s t) : K s (if p then t else s) := by
  split
  · exact h
  · exact k.rfl s

/-! ### Queues and runs -/

theorem dropWhere (z : Nat) (reason : DropReason) (which : Placement → Bool) (s : State) :
    K s (dropWhere z reason which s) := k.forEach (k.drop z reason) s

theorem dropEverywhere (a : Nat) (reason : DropReason) (s : State) : K s (dropEverywhere a reason s) := by
  unfold Machine.dropEverywhere
  exact k.forEach (fun z s => k.dropWhere z reason _ s) s

theorem idleIfEmpty (c : Nat) (o : RunOutcome) (s : State) : K s (idleIfEmpty c o s) := by
  unfold Machine.idleIfEmpty
  split
  · exact k.ite (k.idle c o s)
  · exact k.rfl s

theorem endRun {c : Nat} (hc : c < 8) (o : RunOutcome) (s : State) : K s (endRun c o s) :=
  k.trans (k.forEach (k.endPart hc o false) s) (k.idle c o _)

theorem markIn {c : Nat} (hc : c < 8) (cause : TruncateCause) (z : Nat) (s : State) : K s (markIn c cause z s) := by
  unfold Machine.markIn
  split
  · exact k.rfl s
  next r hr =>
    split
    · exact k.rfl s
    · have hzones : (r.zones.map (fun a => if a.zone == z then { a with mark := some (joinMark a.mark cause) } else a)).map
          (fun a => (a.zone, a.placement)) = r.zones.map (fun a => (a.zone, a.placement)) := by
        rw [List.map_map]
        refine List.map_congr_left fun a _ => ?_
        simp only [Function.comp]
        split <;> exact Eq.refl _
      have hmark := k.rerun (r' := { r with zones := r.zones.map (fun a =>
        if a.zone == z then { a with mark := some (joinMark a.mark cause) } else a) }) hr ⟨Eq.refl _, Eq.refl _, hzones⟩
      dsimp only
      split
      · exact hmark
      · exact k.trans hmark (k.trans (k.endPart hc _ _ _ _) (k.idleIfEmpty _ _ _))

theorem markZone (z : Nat) (cause : TruncateCause) (s : State) : K s (markZone z cause s) := by
  unfold Machine.markZone
  split
  next hc => exact k.markIn (attachedChannel_eq_some hc).1 _ _ s
  · exact k.rfl s

theorem markRuns (a : Nat) (s : State) : K s (markRuns a s) :=
  k.forEachOf (fun _ hc s => k.forEach (k.markIn (List.mem_range.mp (List.mem_of_mem_filter hc)) .withdrawal) s) s

theorem cutZone (z : Nat) (cause : CutCause) (s : State) : K s (cutZone z cause s) := by
  unfold Machine.cutZone
  split
  next hc => exact k.trans (k.endPart (attachedChannel_eq_some hc).1 _ _ _ s) (k.idleIfEmpty _ _ _)
  · exact k.rfl s

theorem reportVoice (n : Nat) (old : Voice) (full : Nat) (s : State) : K s (reportVoice n old full s) := by
  unfold Machine.reportVoice
  split
  · exact k.rfl s
  · exact k.generate _ s

theorem reportEmergency (p : Nat) (r : Created) (s : State) : K s (reportEmergency p r s) := by
  unfold Machine.reportEmergency
  split
  · exact k.ite (k.emergency s)
  · exact k.rfl s

/-! ### The arbiter -/

theorem startCandidate {c : Nat} {p : Placement} {seized : Option Nat} {s t : State} (hc : c < 8)
    (hidle : s.channel c = none) (h : startCandidate c p seized s = some t) : K s t := by
  unfold Machine.startCandidate at h
  split at h
  next x z zs hx hzs =>
    have hid : x.id = p.announcement := by simpa using List.find?_some hx
    cases h
    have hstarted := k.start seized hc hidle (hid ▸ hx) (hid ▸ hzs)
    by_cases hphrases : (resolve s x).phrases = []
    · rw [startRun_of_empty hphrases]
      exact k.trans hstarted (k.endRun hc _ _)
    · rw [startRun_of_phrases hphrases]
      exact k.trans hstarted (k.forEach (fun z s => k.pulse (fun zn => by
        unfold beginPulse; split <;> exact Eq.refl _) z s) _)
  · cases h

theorem startRound {s t : State} (h : startRound s = some t) : K s t := by
  unfold Machine.startRound at h
  split at h
  · cases h
  next p _ =>
    split at h
    next c hc =>
      obtain ⟨hlt, hidle, -⟩ := idleChannel_eq_some.mp hc
      exact k.startCandidate hlt hidle h
    · split at h
      · split at h
        next c r hvictim =>
          have hc := (channel_of_victimChannel hvictim).1
          exact k.trans (k.endRun hc .cut s) (k.startCandidate hc (endRun_channel ..) h)
        · cases h
      · cases h

theorem passRound {s t : State} (h : passRound s = some t) : K s t := by
  unfold Machine.passRound at h
  rcases Option.or_eq_some_iff.1 h with h | ⟨-, h⟩
  · simp only [seizureRound, Option.map_eq_some_iff] at h
    obtain ⟨z, -, rfl⟩ := h
    exact k.cutZone z .zoneSeizure s
  · exact k.startRound h

theorem passFor : ∀ (n : Nat) (s : State), K s (passFor n s)
  | 0, s => k.rfl s
  | n + 1, s => by
    unfold Machine.passFor
    split
    next t h => exact k.trans (k.passRound h) (passFor n t)
    · exact k.rfl s

theorem arbiterPass (s : State) : K s (arbiterPass s) := k.passFor _ s

/-! ### What follows an event -/

theorem voiceAttempt (n : Nat) (s : State) : K s (voiceAttempt n s) :=
  k.trans (k.trans (k.trans (k.createEvac n s) (k.arbiterPass _)) (k.reportVoice _ _ _ _)) (k.reportEmergency _ _ _)

/-- A coverage placement in a zone of an ACTIVE source. -/
theorem placeCoverage {n z : Nat} {s : State} (hz : (s.zone z).covering = some n) (hn : (s.source n).state = .active) :
    K s (placeCoverage n z s) := by
  unfold Machine.placeCoverage
  split
  next a hvoice =>
    split
    · exact k.rfl s
    · exact k.cover (by unfold coveredWith; rw [hz]; simp [hn, hvoice])
  · exact k.voiceAttempt n s

theorem settleRound {s t : State} (h : settleRound s = some t) : K s t := by
  unfold Machine.settleRound at h
  rcases Option.or_eq_some_iff.1 h with h | ⟨-, h⟩
  · simp only [coverageRound, Option.bind_eq_some_iff, Option.map_eq_some_iff] at h
    obtain ⟨z, hz, n, hn, rfl⟩ := h
    refine k.placeCoverage hn ?_
    have hlacks := List.find?_some hz
    unfold lacksCoverage at hlacks
    rw [hn] at hlacks
    dsimp only at hlacks
    split at hlacks
    · simp only [Bool.and_eq_true, decide_eq_true_eq] at hlacks
      exact hlacks.1.1.1
    · cases hlacks
  · rcases Option.or_eq_some_iff.1 h with h | ⟨-, h⟩
    · simp only [voiceRound, Option.map_eq_some_iff] at h
      obtain ⟨n, -, rfl⟩ := h
      exact k.voiceAttempt n s
    · exact k.passRound h

theorem settleFor : ∀ (n : Nat) (s : State), K s (settleFor n s)
  | 0, s => k.rfl s
  | n + 1, s => by
    unfold Machine.settleFor
    split
    next t h => exact k.trans (k.settleRound h) (settleFor n t)
    · exact k.rfl s

theorem settle (s : State) : K s (settle s) := k.settleFor _ s

end Player

/-- A relation from a state to what the blocks' work on announcements and on calls makes of it. -/
structure Placer (K : State → State → Prop) : Prop extends Player K where
  part : ∀ c o discard z s, K s (Machine.endPart c o discard z s)
  withdrawn : ∀ a s, K s (s.modifySlot a (fun x => { x with withdrawn := true }))
  create : ∀ proto s, K s (create proto s).2
  requeue : ∀ {g : Placement → Placement}, (∀ p, (g p).announcement = p.announcement ∧ (g p).priority = p.priority) →
    ∀ z s, K s (s.modifyZone z (fun zn => { zn with queue := zn.queue.map g }))
  latest : ∀ limit s, K s (reduceLatest limit s)
  ttu : ∀ s x, K s (s.withTtu x)

namespace Placer

variable {K : State → State → Prop} (k : Placer K)
include k

/-! ### Creations and withdrawals -/

theorem createWhole (proto : Slot) (s : State) : K s (createWhole proto s).2 :=
  k.trans (k.trans (k.create proto s) (k.reportEmergency _ _ _)) (k.settle _)

theorem withdrawAnnouncement (a : Nat) (s : State) : K s (withdrawAnnouncement a s) := by
  unfold Machine.withdrawAnnouncement
  split
  · exact k.rfl s
  · split
    · exact k.rfl s
    · exact k.trans (k.withdrawn a s) (k.trans (k.dropEverywhere a .withdrawn _) (k.markRuns a _))

theorem withdrawCall (id : Nat) (s : State) : K s (withdrawCall id s) := k.forEach k.withdrawAnnouncement s

/-! ### The events of channels, zones and modes -/

theorem takePhraseEnd (c : Nat) (s : State) : K s (takePhraseEnd c s) := by
  have hcontinue : ∀ s, K s (continueRun c s) := fun s => by
    unfold continueRun
    split
    · exact k.rfl s
    next r hr =>
      split
      · exact k.idle _ _ s
      · refine k.rerun hr ?_
        unfold enterGap
        split <;> exact ⟨Eq.refl _, Eq.refl _, Eq.refl _⟩
  have hcomplete : ∀ r s, K s (completePhrase c r s) := fun r s => by
    unfold completePhrase
    split
    · exact k.trans (k.forEach (k.part c .completed false) s) (k.idle c .completed _)
    · exact k.trans (k.forEach (k.part c .truncated false) s) (hcontinue _)
  unfold Machine.takePhraseEnd
  split
  · exact k.ite (k.trans (hcomplete _ s) (k.settle _))
  · exact k.rfl s

theorem takeGapEnd (c : Nat) (s : State) : K s (takeGapEnd c s) := by
  unfold Machine.takeGapEnd
  split
  next r hr => exact k.ite (k.rerun hr ⟨Eq.refl _, Eq.refl _, Eq.refl _⟩)
  · exact k.rfl s

theorem takePulseEnd (z : Nat) (s : State) : K s (takePulseEnd z s) := by
  unfold Machine.takePulseEnd
  split
  · exact k.ite (k.pulse (f := fun zn => { zn with pulseEnd := none }) (fun _ => Eq.refl _) z s)
  · exact k.rfl s

theorem endRest (z : Nat) (p : Placement) (s : State) : K s (endRest z p s) := by
  unfold Machine.endRest
  split
  · exact k.drop z .expired p s
  · refine k.requeue (g := fun q => if q.announcement == p.announcement then
      { q with condition := restoredCondition s z p } else q) (fun q => ?_) z s
    split <;> exact ⟨Eq.refl _, Eq.refl _⟩

theorem endRests (s : State) : K s (endRests s) :=
  k.trans (k.forEach (fun z s => k.forEach (fun p s => k.endRest z p s) s) s) (k.settle _)

theorem secondZrt (rollover : Bool) (limit : Nat) (s : State) : K s (secondZrt rollover limit s) := by
  have hsweep : ∀ which s, K s (sweep which s) := fun which s => by
    unfold sweep
    exact k.forEach (fun z s => k.dropWhere z .expired (which s) s) s
  unfold Machine.secondZrt
  refine k.trans ?_ (k.settle _)
  split
  · exact k.trans (hsweep _ s) (k.latest limit _)
  · exact hsweep _ s

/-! ### Calls and cues -/

theorem modifyCall (id : Nat) (f : Call → Call) (s : State) : K s (s.modifyCall id f) := k.ttu s _

theorem recomputeConflicts (z : Nat) (leaver : Option Nat) (s : State) : K s (recomputeConflicts z leaver s) := by
  unfold Machine.recomputeConflicts
  exact k.trans (k.ttu s _) (k.forEach (fun n s => k.generate n s) _)

theorem arrive (c : Call) (t : Capture) (source : TimeSource) (cause : CallCause) (s : State) :
    K s (arrive c t source cause s) :=
  k.trans (k.trans (k.trans (k.modifyCall c.id (fun c =>
    { c with state := .atPlatform, aa := some { time := t.time, source := source, held := t.held } }) s)
    (k.modifyCall c.id computeTimes _)) (k.recomputeConflicts _ _ _)) (k.generate _ _)

theorem depart (c : Call) (t : Capture) (source : TimeSource) (cause : CallCause) (s : State) :
    K s (depart c t source cause s) :=
  k.trans (k.trans (k.modifyCall c.id (fun c =>
    { c with state := .complete, ad := some { time := t.time, source := source, held := t.held } }) s)
    (k.generate _ _)) (k.recomputeConflicts _ _ _)

theorem completions (s : State) : K s (completions s) := by
  have hone : ∀ c s, K s (completeUnconfirmed c s) := fun c s =>
    k.trans (k.trans (k.modifyCall c.id (fun c => { c with state := .complete, unconfirmed := true }) s)
      (k.generate _ _)) (k.recomputeConflicts _ _ _)
  unfold Machine.completions
  exact k.forEach hone s

theorem fireCue (c : Call) (i : Nat) (q : Cue) (t : Int) (s : State) : K s (fireCue c i q t s) := by
  have hmark : K s (setMark c.id i .fired s) := k.modifyCall _ _ s
  have hdropped : ∀ r s, K s (reportDropped c.id i r s) := fun r s => by
    unfold reportDropped
    split
    · exact k.rfl s
    · exact k.generate _ s
    · exact k.generate _ s
  unfold Machine.fireCue
  dsimp only
  split
  · exact k.trans hmark (k.generate _ _)
  · exact k.trans (k.trans (k.trans hmark (k.createWhole _ _)) (hdropped _ _)) (k.generate _ _)

theorem evaluateCue (id i : Nat) (s : State) : K s (evaluateCue id i s) := by
  unfold Machine.evaluateCue
  split
  · exact k.rfl s
  · split
    · exact k.rfl s
    · split
      · split
        · exact k.rfl s
        · dsimp only
          split
          · exact k.rfl s
          · split
            · exact k.fireCue _ _ _ _ s
            · exact k.trans (k.modifyCall _ _ s) (k.generate _ _)
      · exact k.rfl s

theorem fireEventCues (id : Nat) (a : Anchor) (t : Nat) (s : State) : K s (fireEventCues id a t s) := by
  refine k.forEach (fun i s => ?_) s
  unfold fireEventCue
  split
  · exact k.rfl s
  · split
    · exact k.rfl s
    · exact k.ite (k.fireCue _ _ _ _ s)

theorem trainActive (z : Nat) (t : Capture) (input : Nat) (s : State) : K s (trainActive z t input s) := by
  unfold Machine.trainActive
  split
  · exact k.generate _ s
  · split
    · exact k.arrive _ _ _ _ s
    · exact k.generate _ s

theorem trainInactive (z : Nat) (t : Capture) (input : Nat) (s : State) : K s (trainInactive z t input s) := by
  unfold Machine.trainInactive
  split
  · exact k.depart _ _ _ _ s
  · exact k.generate _ s

theorem dispatchActive (z : Nat) (t : Capture) (input : Nat) (s : State) : K s (dispatchActive z t input s) := by
  unfold Machine.dispatchActive
  split
  · exact k.generate _ s
  · split
    · exact k.fireEventCues _ _ _ s
    · exact k.generate _ s

/-! ### The requests on calls, and the rollover -/

theorem recomputeIfCurrent (c : Call) (s : State) : K s (recomputeIfCurrent c s) := k.ite (k.recomputeConflicts _ _ s)

theorem addCall (c : Call) (s : State) : K s (addCall c s) := k.trans (k.ttu s _) (k.recomputeIfCurrent c _)

theorem replaceCall (old c : Call) (s : State) : K s (replaceCall old c s) := by
  have hentered : K s (enterCall c (removeCall old.id (Machine.withdrawCall old.id s))) :=
    k.trans (k.trans (k.withdrawCall old.id s) (k.ttu _ _)) (k.ttu _ _)
  unfold Machine.replaceCall
  dsimp only
  refine k.trans ?_ (k.settle _)
  split
  · exact k.trans hentered (k.recomputeConflicts _ _ _)
  · exact k.trans hentered (k.trans (k.recomputeConflicts _ _ _) (k.recomputeConflicts _ _ _))

theorem deleteFound (c : Call) (s : State) : K s (deleteFound c s) := by
  unfold Machine.deleteFound
  dsimp only
  refine k.trans (k.trans ?_ (k.ttu _ _)) (k.settle _)
  split
  · exact k.trans (k.withdrawCall c.id s) (k.recomputeConflicts _ _ _)
  · exact k.withdrawCall c.id s

theorem delayFound (c : Call) (r : CallDelayReq) (s : State) : K s (delayFound c r s) :=
  k.trans (k.modifyCall _ _ s) (k.recomputeIfCurrent _ _)

theorem changePlatform (c : Call) (z : Nat) (s : State) : K s (changePlatform c z s) := by
  have hmoved := k.trans (k.withdrawCall c.id s) (k.modifyCall c.id (movedTo z) _)
  unfold Machine.changePlatform
  dsimp only
  refine k.trans ?_ (k.settle _)
  split
  · exact k.trans (k.trans (k.trans hmoved (k.recomputeConflicts _ _ _)) (k.recomputeConflicts _ _ _))
      (k.fireEventCues _ _ _ _)
  · exact hmoved

theorem cancelFound (c : Call) (s : State) : K s (cancelFound c s) := by
  have hended := k.trans (k.trans (k.trans (k.withdrawCall c.id s)
    (k.modifyCall c.id (fun c => { c with state := .cancelled }) _))
    (k.generate (.callState c.id c.state .cancelled .cancelled none) _)) (k.recomputeConflicts c.zone none _)
  unfold Machine.cancelFound
  dsimp only
  refine k.trans ?_ (k.settle _)
  split
  · exact k.trans hended (k.fireEventCues _ _ _ _)
  · exact hended

theorem rolloverTable (s : State) : K s (rolloverTable s) := by
  have hlapse : ∀ c s, K s (lapse c s) := fun c s =>
    k.trans (k.trans (k.trans (k.modifyCall c.id (fun c => { c with state := .lapsed }) s) (k.withdrawCall c.id _))
      (k.generate _ _)) (k.recomputeConflicts _ _ _)
  have hpurge : ∀ s, K s (purgeAll s) := fun s => by
    unfold purgeAll
    exact k.forEach (fun id s => k.trans (k.withdrawCall id s) (k.ttu _ _)) s
  have hlapsed : ∀ s, K s (lapseAll s) := fun s => by
    unfold lapseAll
    exact k.forEach hlapse s
  unfold Machine.rolloverTable
  generalize allZones = zs
  exact k.trans (k.trans (k.trans (hlapsed s) (hpurge _)) (k.ttu _ _))
    (k.forEach (fun z s => k.recomputeConflicts z none s) _)

theorem secondTtu (rollover : Bool) (s : State) : K s (secondTtu rollover s) := by
  have hcues : ∀ s, K s (evaluateCues s) := fun s => by
    unfold evaluateCues
    exact k.forEach (fun id s => k.forEach (fun i s => k.evaluateCue id i s) s) s
  unfold Machine.secondTtu
  refine k.trans (k.trans (k.trans ?_ (hcues _)) (k.completions _)) (k.settle _)
  split
  · exact k.rolloverTable s
  · exact k.rfl s

end Placer

/-- A relation from a state to what the requests and the times of the modes make of it, too. -/
structure Worker (K : State → State → Prop) : Prop extends Placer K where
  requestOpen : ∀ cause s, K s (requestOpen cause s)
  requestNight : ∀ cause s, K s (requestNight cause s)
  warmUpEnd : ∀ {t e s}, s.smc.mode = .warming t e → K s (enterTarget t s)
  holdEnd : ∀ {t s}, s.smc.mode = .nightAlert (some t) → K s (enterNight .holdExpired s)

namespace Worker

variable {K : State → State → Prop} (k : Worker K)
include k

theorem takeWarmUpEnd (s : State) : K s (takeWarmUpEnd s) := by
  unfold Machine.takeWarmUpEnd
  split
  next hm => exact k.ite (k.trans (k.warmUpEnd hm) (k.settle _))
  · exact k.rfl s

theorem takeHoldExpiry (s : State) : K s (takeHoldExpiry s) := by
  unfold Machine.takeHoldExpiry
  split
  next hm => exact k.ite (k.trans (k.holdEnd hm) (k.settle _))
  · exact k.rfl s

theorem actOnMode (m : Option Target) (s : State) : K s (actOnMode m s) := by
  unfold Machine.actOnMode
  split
  · exact k.requestOpen _ s
  · exact k.requestNight _ s
  · exact k.rfl s

theorem secondSmc (night opn : Bool) (s : State) : K s (secondSmc night opn s) := by
  unfold Machine.secondSmc
  refine k.trans ?_ (k.settle _)
  split
  · exact k.requestNight _ s
  · exact k.ite (k.requestOpen _ s)

end Worker

end Sys2Proof.Machine


/-! PROOFS. No zone gains what it must not have: a zone that no source covers and that is ISOLATED or cannot be reached
stays without queue and channel, and no zone is attached twice (R107, R126), whatever is played. -/

namespace Sys2Proof.Machine

open Sys2Proof.Claims

/-! ### What touches one zone's record alone -/

/-- The records of the zones other than `z` are unchanged. -/
def OnlyZone (z : Nat) (s t : State) : Prop := ∀ y, y ≠ z → t.zone y = s.zone y

theorem OnlyZone.trans {z : Nat} {s t u : State} (h : OnlyZone z s t) (g : OnlyZone z t u) : OnlyZone z s u :=
  fun y hy => (g y hy).trans (h y hy)

theorem onlyZone_of_zones {z : Nat} {s t : State} (h : t.zrt.zones = s.zrt.zones) : OnlyZone z s t :=
  fun y _ => zone_of_zones h y

theorem enterNew_onlyZone (z : Nat) (p : Placement) (s : State) : OnlyZone z s (enterNew z p s) := fun y hy => by
  unfold enterNew
  rw [enterQueue_zone_ne hy]
  rfl

theorem takeRestored_onlyZone (z : Nat) (p : Placement) (marked : Bool) (s : State) :
    OnlyZone z s (takeRestored z p marked s).2 := by
  unfold takeRestored
  split
  · exact onlyZone_of_zones rfl
  · exact fun y hy => enterQueue_zone_ne hy ..

theorem takeRepeat_onlyZone (z : Nat) (p : Placement) (left : Repeats) (notBefore : RunTime) (marked : Bool) (s : State) :
    OnlyZone z s (takeRepeat z p left notBefore marked s).2 := by
  unfold takeRepeat
  split
  · exact onlyZone_of_zones rfl
  · exact enterNew_onlyZone z _ s

theorem disposePlacement_onlyZone (z : Nat) (a : Attached) (o : RunOutcome) (discard : Bool) (s : State) :
    OnlyZone z s (disposePlacement z a o discard s).2 := by
  unfold disposePlacement
  dsimp only
  split
  · exact takeRestored_onlyZone z _ _ s
  · split
    · exact onlyZone_of_zones rfl
    · exact takeRestored_onlyZone z _ _ s
  · split
    · exact takeRepeat_onlyZone z _ _ _ _ s
    · split
      · exact onlyZone_of_zones rfl
      · exact takeRepeat_onlyZone z _ _ _ _ s

theorem makeCoverage_onlyZone (z a : Nat) (s : State) : OnlyZone z s (makeCoverage z a s) := by
  unfold makeCoverage
  split
  · exact (enterNew_onlyZone z _ s).trans (onlyZone_of_zones (congrArg Zrt.zones (emergencyEvent_zrt _)))
  · exact onlyZone_of_zones rfl

theorem endPart_onlyZone (c : Nat) (o : RunOutcome) (discard : Bool) (z : Nat) (s : State) :
    OnlyZone z s (endPart c o discard z s) := by
  cases h : attachedTo s z c with
  | false =>
    rw [endPart_of_detached h]
    exact onlyZone_of_zones rfl
  | true =>
    obtain ⟨r, a, hr, ha⟩ := attachedTo_eq_true.mp h
    rw [endPart_eq hr ha rfl]
    have hdetached : OnlyZone z s (detachZone c z r s) := fun y hy => by rw [detachZone_zone, if_neg hy]
    have hresumed : ∀ u, OnlyZone z u (resumeCoverage z r.announcement a discard u) := fun u => by
      unfold resumeCoverage
      split
      · exact makeCoverage_onlyZone z _ u
      · exact onlyZone_of_zones rfl
    have hleft : ∀ e u, OnlyZone z u (recordLeft c e u) := fun e u => by
      unfold recordLeft
      split <;> exact onlyZone_of_zones rfl
    exact (hdetached.trans (disposePlacement_onlyZone z a o discard _)).trans ((hresumed _).trans (hleft _ _))

/-! ### Zones that must stay empty -/

/-- No source covers the zone, and none may: it is ISOLATED, or not enabled in a valid group (R96, R107). -/
def Barred (s : State) (z : Nat) : Prop :=
  (s.zone z).covering = none ∧ ((s.zone z).base = .isolated ∨ reachableZone s z = false)

/-- The zone holds no placement and plays on none of the channels. -/
def Sealed (P : Nat → Prop) (s : State) (z : Nat) : Prop := (s.zone z).queue = [] ∧ ∀ c, P c → attachedTo s z c = false

/-- `t` is `s` after work that brings nothing to a zone that must stay empty, and attaches no zone twice. -/
structure Seats (P : Nat → Prop) (s t : State) : Prop where
  barred : ∀ z, Barred s z → Barred t z
  once : ∀ z, AttachedOnce s z → AttachedOnce t z
  sealed : ∀ z, Barred s z → Sealed P s z → Sealed P t z
  base : ∀ z, (t.zone z).base = (s.zone z).base
  channels : t.ple.channels.length = s.ple.channels.length

variable {P : Nat → Prop}

theorem Seats.rfl (s : State) : Seats P s s := ⟨fun _ h => h, fun _ h => h, fun _ _ h => h, fun _ => Eq.refl _, Eq.refl _⟩

theorem Seats.trans {s t u : State} (h : Seats P s t) (g : Seats P t u) : Seats P s u where
  barred := fun z hz => g.barred z (h.barred z hz)
  once := fun z hz => g.once z (h.once z hz)
  sealed := fun z hz hs => g.sealed z (h.barred z hz) (h.sealed z hz hs)
  base := fun z => (g.base z).trans (h.base z)
  channels := g.channels.trans h.channels

theorem attachedTo_congr {s t : State} (h : t.ple.channels = s.ple.channels) (z c : Nat) :
    attachedTo t z c = attachedTo s z c := by
  unfold attachedTo State.channel
  rw [h]

theorem not_barred_of_covered {s : State} {z n : Nat} (h : (s.zone z).covering = some n) : ¬ Barred s z :=
  fun hb => by rw [hb.1] at h; cases h

theorem not_sealed_of_mem {s : State} {z : Nat} {p : Placement} (h : p ∈ (s.zone z).queue) : ¬ Sealed P s z :=
  fun hs => by rw [hs.1] at h; cases h

theorem Plays.barred {s t : State} (h : Plays s t) {z : Nat} (hz : Barred s z) : Barred t z := by
  have hsite := h.sameSites.site z
  refine ⟨(h.covering z).trans hz.1, hz.2.imp (fun hi => hsite.base.trans hi) fun hr => ?_⟩
  rw [reachableZone_congr hsite.enabled hsite.address hsite.groups, hr]

/-- Work that only takes zones off channels is told by what it brings to the queues. -/
theorem Plays.seats {s t : State} (h : Plays s t) (hch : ∀ z c, attachedTo t z c = true → attachedTo s z c = true)
    (hq : ∀ z, Barred s z → Sealed P s z → (t.zone z).queue = []) : Seats P s t where
  barred := fun _ => h.barred
  once := fun z hz c hc d hd hac had => hz c hc d hd (hch z c hac) (hch z d had)
  sealed := fun z hz hs => ⟨hq z hz hs, fun c hP => by
    cases hc : attachedTo t z c with
    | false => rfl
    | true => exact absurd ((hs.2 c hP).symm.trans (hch z c hc)) Bool.false_ne_true⟩
  base := fun z => (h.sameSites.site z).base
  channels := h.channels

/-- Work that leaves the channels alone. -/
theorem Plays.seats_of_ple {s t : State} (h : Plays s t) (hple : t.ple = s.ple)
    (hq : ∀ z, Barred s z → Sealed P s z → (t.zone z).queue = []) : Seats P s t :=
  h.seats (fun z c hc => (attachedTo_congr (congrArg Ple.channels hple) z c).symm.trans hc) hq

/-- Work that leaves the channels and the zones alone. -/
theorem Plays.seats_of_same {s t : State} (h : Plays s t) (hple : t.ple = s.ple) (hz : t.zrt.zones = s.zrt.zones) :
    Seats P s t := h.seats_of_ple hple fun z _ hs => by rw [zone_of_zones hz]; exact hs.1

/-- Work that leaves the channels alone and takes placements out of queues. -/
theorem Plays.seats_of_sublist {s t : State} (h : Plays s t) (hple : t.ple = s.ple)
    (hq : ∀ z, (t.zone z).queue.Sublist (s.zone z).queue) : Seats P s t :=
  h.seats_of_ple hple fun z _ hs => List.sublist_nil.mp (hs.1 ▸ hq z)

theorem forEach_queue_sublist {α : Type} {f : α → State → State}
    (h : ∀ x s z, ((f x s).zone z).queue.Sublist (s.zone z).queue) :
    ∀ (xs : List α) (s : State) (z : Nat), ((forEach xs f s).zone z).queue.Sublist (s.zone z).queue
  | [], _, _ => .refl _
  | x :: xs, s, z => (forEach_queue_sublist h xs (f x s) z).trans (h x s z)

theorem dropForNight_queue_sublist (s : State) (z : Nat) : ((dropForNight s).zone z).queue.Sublist (s.zone z).queue := by
  unfold dropForNight
  exact forEach_queue_sublist (fun y s z => dropWhere_queue_sublist y .night _ s z) _ s z

theorem enterNight_queue_sublist (cause : ModeCause) (s : State) (z : Nat) :
    ((enterNight cause s).zone z).queue.Sublist (s.zone z).queue := by
  unfold enterNight
  rw [zone_of_zones (congrArg Zrt.zones (setMode_zrt .night cause (dropForNight s)))]
  exact dropForNight_queue_sublist s z

theorem enterNightAlert_queue_sublist (cause : ModeCause) (s : State) (z : Nat) :
    ((enterNightAlert cause s).zone z).queue.Sublist (s.zone z).queue := by
  unfold enterNightAlert
  rw [zone_of_zones (congrArg Zrt.zones ((judgeHold_zrt _).trans (setMode_zrt .. : _ = (dropForNight s).zrt)))]
  exact dropForNight_queue_sublist s z

theorem windingTest_queue_sublist (s : State) (z : Nat) : ((windingTest s).zone z).queue.Sublist (s.zone z).queue := by
  unfold windingTest
  split
  · split
    · exact enterNight_queue_sublist _ s z
    · exact enterNightAlert_queue_sublist _ s z
  · exact .refl _

theorem channelIdle_queue_sublist (c : Nat) (o : RunOutcome) (s : State) (z : Nat) :
    ((channelIdle c o s).zone z).queue.Sublist (s.zone z).queue := by
  unfold channelIdle
  split
  · exact .refl _
  next r _ =>
    have hzones : (judgeHold (freeIfDone r.announcement (s.setChannel c none))).zrt.zones = s.zrt.zones := by
      rw [judgeHold_zrt, freeIfDone_zones]
      rfl
    have hsub := windingTest_queue_sublist (judgeHold (freeIfDone r.announcement (s.setChannel c none))) z
    rw [zone_of_zones hzones] at hsub
    exact hsub

/-! ### Creations -/

theorem reachable_of_mem_targetSet {s : State} {target : List Pair} {z : Nat} (h : z ∈ targetSet s target) :
    reachableZone s z = true := by
  have hin := (List.mem_filter.mp h).2
  unfold inTarget at hin
  rw [Bool.and_eq_true] at hin
  exact hin.1

theorem refuseReason_of_barred {s : State} {z : Nat} (h : Barred s z) (hr : reachableZone s z = true) (x : Slot) :
    refuseReason s x z = some .isolated := by
  have hbase : (s.zone z).base = .isolated := h.2.resolve_right (by rw [hr]; simp)
  unfold refuseReason
  exact if_pos ((effective_isolated_iff _).mpr ⟨h.1, hbase⟩)

theorem placeIn_seats (x : Slot) (cs : Counts × State) {z : Nat} (hz : reachableZone cs.2 z = true) :
    Seats P cs.2 (placeIn x cs z).2 := by
  obtain ⟨c, s⟩ := cs
  refine (placeIn_settles x c s z).toPlays.seats_of_ple (placeIn_keepsRuns x (c, s) z).ple fun y hy hs => ?_
  by_cases hyz : y = z
  · subst hyz
    unfold placeIn
    simp only [refuseReason_of_barred hy hz]
    split
    · exact hs.1
    · exact hs.1
  · have honly : OnlyZone z s (placeIn x (c, s) z).2 := by
      unfold placeIn
      dsimp only
      split
      · exact onlyZone_of_zones rfl
      · split
        · exact onlyZone_of_zones rfl
        · exact enterNew_onlyZone z _ s
    rw [honly y hyz]
    exact hs.1

theorem placeAll_seats (x : Slot) (s : State) : Seats P s (placeAll x s).2 := by
  have hfold : ∀ (zs : List Nat) (cs : Counts × State), (∀ z ∈ zs, reachableZone cs.2 z = true) →
      Seats P cs.2 (zs.foldl (placeIn x) cs).2 := by
    intro zs
    induction zs with
    | nil => exact fun cs _ => .rfl cs.2
    | cons z zs ih =>
      intro cs h
      obtain ⟨hz, hzs⟩ := List.forall_mem_cons.mp h
      refine (placeIn_seats x cs hz).trans (ih _ fun y hy => ?_)
      have hsite := (placeIn_settles x cs.1 cs.2 z).toPlays.sameSites.site y
      exact (reachableZone_congr hsite.enabled hsite.address hsite.groups).trans (hzs y hy)
  exact hfold _ (noCounts, s) fun z hz => reachable_of_mem_targetSet hz

theorem dropWhere_seats (z : Nat) (reason : DropReason) (which : Placement → Bool) (s : State) :
    Seats P s (dropWhere z reason which s) :=
  (dropWhere_settles z reason which s).toPlays.seats_of_sublist (dropWhere_keepsRuns z reason which s).ple
    (dropWhere_queue_sublist z reason which s)

theorem removeSlot_zone (a : Nat) (s : State) (z : Nat) : (removeSlot a s).zone z = s.zone z := rfl

theorem makeSlot_seats (p : Nat) (s : State) : Seats P s (makeSlot p s) := by
  refine (makeSlot_settles p s).toPlays.seats_of_sublist (makeSlot_keepsRuns p s).ple fun z => ?_
  unfold makeSlot
  split
  · exact .refl _
  · split
    next v _ =>
      have hzones : (removeSlot v.id (dropEverywhere v.id .displaced s)).zone z =
          (dropEverywhere v.id .displaced s).zone z := removeSlot_zone ..
      rw [hzones]
      unfold dropEverywhere
      exact forEach_queue_sublist (fun y s z => dropWhere_queue_sublist y .displaced _ s z) _ s z
    · exact .refl _

theorem recordSlot_seats (proto : Slot) (a : Nat) (s : State) : Seats P s (recordSlot proto a s) :=
  ⟨fun _ h => h, fun _ h => h, fun _ _ h => h, fun _ => rfl, rfl⟩

theorem removeSlot_seats (a : Nat) (s : State) : Seats P s (removeSlot a s) :=
  ⟨fun _ h => h, fun _ h => h, fun _ _ h => h, fun _ => rfl, rfl⟩

theorem create_seats (proto : Slot) (s : State) : Seats P s (create proto s).2 := by
  unfold create
  split
  · have hplaced : Seats P s (placeAll { proto with id := nextId (makeSlot proto.priority s) }
        (recordSlot proto (nextId (makeSlot proto.priority s)) (makeSlot proto.priority s))).2 :=
      ((makeSlot_seats proto.priority s).trans (recordSlot_seats ..)).trans (placeAll_seats _ _)
    dsimp only
    split
    · exact hplaced
    · exact hplaced.trans (removeSlot_seats ..)
  · exact .rfl s

/-! ### Runs -/

theorem attachmentIn_isSome {r : Run} {z : Nat} : (attachmentIn r z).isSome = true ↔ z ∈ r.zones.map Attached.zone := by
  unfold attachmentIn
  rw [List.find?_isSome, List.mem_map]
  simp only [beq_iff_eq]

/-- A zone attached to a channel after its run was replaced is in the new run, or was attached before. -/
theorem attachedTo_of_set {s t : State} {c z d : Nat} {r' : Option Run}
    (ht : t.ple.channels = s.ple.channels.set c r') (h : attachedTo t z d = true) :
    (d = c ∧ ∃ r, r' = some r ∧ z ∈ r.zones.map Attached.zone) ∨ (d ≠ c ∧ attachedTo s z d = true) := by
  obtain ⟨r, a, hr, ha⟩ := attachedTo_eq_true.mp h
  unfold State.channel at hr
  rw [ht] at hr
  by_cases hd : d = c
  · subst hd
    refine .inl ⟨rfl, r, ?_, attachmentIn_isSome.mp (by rw [ha]; rfl)⟩
    by_cases hlt : d < s.ple.channels.length
    · rwa [channel_set_self hlt] at hr
    · rw [List.set_eq_of_length_le (Nat.le_of_not_lt hlt), List.getD_eq_default _ _ (Nat.le_of_not_lt hlt)] at hr
      cases hr
  · rw [channel_set_ne hd] at hr
    exact .inr ⟨hd, attachedTo_eq_true.mpr ⟨r, a, hr, ha⟩⟩

/-- Where the new run has no zone that the old one had not, no zone is attached anew. -/
theorem attachedTo_of_set_subset {s t : State} {c : Nat} {r r' : Run} (hr : s.channel c = some r)
    (ht : t.ple.channels = s.ple.channels.set c (some r'))
    (hzones : ∀ z ∈ r'.zones.map Attached.zone, z ∈ r.zones.map Attached.zone) (z d : Nat)
    (h : attachedTo t z d = true) : attachedTo s z d = true := by
  obtain ⟨rfl, x, hx, hz⟩ | ⟨-, h⟩ := attachedTo_of_set ht h
  · cases hx
    obtain ⟨a, ha⟩ := Option.isSome_iff_exists.mp (attachmentIn_isSome.mpr (hzones z hz))
    exact attachedTo_eq_true.mpr ⟨r, a, hr, ha⟩
  · exact h

theorem endPart_detaches (c : Nat) (o : RunOutcome) (discard : Bool) (y : Nat) (s : State) (z d : Nat)
    (h : attachedTo (endPart c o discard y s) z d = true) : attachedTo s z d = true := by
  obtain heq | ⟨r, a, fate, hr, -, hple⟩ := endPart_cases c o discard y s
  · rwa [heq] at h
  · refine attachedTo_of_set_subset hr (congrArg Ple.channels hple) (fun w hw => ?_) z d h
    exact (List.filter_sublist.map Attached.zone).subset hw

theorem channelIdle_detaches (c : Nat) (o : RunOutcome) (s : State) (z d : Nat)
    (h : attachedTo (channelIdle c o s) z d = true) : attachedTo s z d = true := by
  obtain ⟨-, r, hr, -⟩ | ⟨-, h⟩ := attachedTo_of_set (congrArg Ple.channels (channelIdle_ple c o s)) h
  · cases hr
  · exact h

theorem rerun_detaches {s : State} {c : Nat} {r r' : Run} (hr : s.channel c = some r) (h : SameRun r r') (z d : Nat)
    (hd : attachedTo (s.setChannel c (some r')) z d = true) : attachedTo s z d = true := by
  have hzones : r'.zones.map Attached.zone = r.zones.map Attached.zone := by
    have hfst := congrArg (List.map Prod.fst) h.zones
    rwa [List.map_map, List.map_map] at hfst
  exact attachedTo_of_set_subset hr rfl (fun w hw => hzones ▸ hw) z d hd

/-- A zone that a run starts in has the announcement at its queue's head, and is attached to no channel (R134, R136). -/
theorem mem_startZones {s : State} {a z : Nat} (h : z ∈ startZones s a) :
    z < 40 ∧ ∃ p, AdmittedHead s z p ∧ p.announcement = a ∧ ∀ c < 8, attachedTo s z c = false := by
  rw [startZones_eq] at h
  obtain ⟨hz, hp⟩ := List.mem_filter.mp h
  obtain ⟨p, hp, hann⟩ := Option.any_eq_true _ _ |>.mp hp
  obtain ⟨hhead, hfree⟩ := eligibleHead_eq_some.mp hp
  exact ⟨List.mem_range.mp hz, p, hhead, by simpa using hann, hfree⟩

theorem started_settles (c : Nat) (x : Slot) (zs : List Nat) (seized : Option Nat) (s : State) :
    Settles s (started c x zs seized s) :=
  (((forEach_settles (fun z => takePlacement_settles z x.id) s).trans (occupyChannel_settles _ _ _)).trans
    (judgeHold_settles _)).trans (generate_settles _ _)

theorem started_seats (c : Nat) (x : Slot) (seized : Option Nat) (s : State) :
    Seats P s (started c x (startZones s x.id) seized s) := by
  have hplays := (started_settles c x (startZones s x.id) seized s).toPlays
  have hattached : ∀ z d, attachedTo (started c x (startZones s x.id) seized s) z d = true →
      (d = c ∧ z ∈ startZones s x.id) ∨ attachedTo s z d = true := by
    intro z d h
    obtain ⟨rfl, r, hr, hz⟩ | ⟨-, h⟩ :=
      attachedTo_of_set (congrArg Ple.channels (started_ple c x (startZones s x.id) seized s)) h
    · cases hr
      obtain ⟨e, he, rfl⟩ := List.mem_map.mp hz
      obtain ⟨y, hy, p, -, rfl⟩ := mem_attachments he
      exact .inl ⟨rfl, hy⟩
    · exact .inr h
  refine ⟨fun z => hplays.barred, fun z hz c1 h1 c2 h2 ha1 ha2 => ?_, fun z hz hs => ?_,
    fun z => (hplays.sameSites.site z).base, hplays.channels⟩
  · by_cases hmem : z ∈ startZones s x.id
    · obtain ⟨-, p, -, -, hfree⟩ := mem_startZones hmem
      have hchannel : ∀ d < 8, attachedTo (started c x (startZones s x.id) seized s) z d = true → d = c := fun d hd h => by
        obtain ⟨h, -⟩ | h := hattached z d h
        · exact h
        · rw [hfree d hd] at h; cases h
      rw [hchannel c1 h1 ha1, hchannel c2 h2 ha2]
    · exact hz c1 h1 c2 h2 ((hattached z c1 ha1).resolve_left fun h => hmem h.2)
        ((hattached z c2 ha2).resolve_left fun h => hmem h.2)
  · have hmem : z ∉ startZones s x.id := fun hmem => by
      obtain ⟨-, p, hhead, -⟩ := mem_startZones hmem
      exact not_sealed_of_mem (List.mem_of_head? hhead.head) hs
    refine ⟨by rw [started_zone, if_neg fun h => hmem h.1]; exact hs.1, fun d hP => ?_⟩
    cases hd : attachedTo (started c x (startZones s x.id) seized s) z d with
    | false => rfl
    | true => exact ((hs.2 d hP).symm.trans ((hattached z d hd).resolve_left fun h => hmem h.2)).symm

/-! ### Every piece of playing work -/

theorem modifyZone_queue_nil {f : Zone → Zone} (hf : ∀ zn, zn.queue = [] → (f zn).queue = []) {s : State} {y : Nat}
    (z : Nat) (h : (s.zone y).queue = []) : ((s.modifyZone z f).zone y).queue = [] := by
  rw [zone_modifyZone]
  split
  · exact hf _ h
  · exact h

theorem setMode_seats (m : Mode) (cause : ModeCause) (s : State) : Seats P s (setMode m cause s) :=
  (setMode_settles m cause s).toPlays.seats_of_same rfl (congrArg Zrt.zones (setMode_zrt m cause s))

theorem enterNight_seats (cause : ModeCause) (s : State) : Seats P s (enterNight cause s) :=
  (enterNight_settles cause s).toPlays.seats_of_sublist (enterNight_keepsRuns cause s).ple
    (enterNight_queue_sublist cause s)

theorem enterNightAlert_seats (cause : ModeCause) (s : State) : Seats P s (enterNightAlert cause s) :=
  (enterNightAlert_settles cause s).toPlays.seats_of_sublist (enterNightAlert_keepsRuns cause s).ple
    (enterNightAlert_queue_sublist cause s)

theorem requestOpen_seats (cause : ModeCause) (s : State) : Seats P s (requestOpen cause s) := by
  unfold requestOpen
  split
  · exact .rfl s
  · exact setMode_seats _ _ s
  · exact setMode_seats _ _ s
  · split
    · exact .rfl s
    · exact setMode_seats _ _ s
  · exact setMode_seats _ _ s

theorem requestNight_seats (cause : ModeCause) (s : State) : Seats P s (requestNight cause s) := by
  unfold requestNight
  split
  · exact (setMode_seats _ _ s).trans ((windingTest_settles _).toPlays.seats_of_sublist (windingTest_keepsRuns _).ple
      (windingTest_queue_sublist _))
  · exact .rfl s
  · exact .rfl s
  · split
    · exact .rfl s
    · exact setMode_seats _ _ s
  · exact .rfl s

/-- A part that ends in a channel of `P` brings nothing to a zone that plays on none of these. -/
theorem endPart_seats {c : Nat} (hc : P c) (o : RunOutcome) (discard : Bool) (z : Nat) (s : State) :
    Seats P s (endPart c o discard z s) :=
  (endPart_settles c o discard z s).toPlays.seats (endPart_detaches c o discard z s) fun y _ hs => by
    by_cases hyz : y = z
    · subst hyz
      rw [endPart_of_detached (hs.2 c hc)]
      exact hs.1
    · rw [endPart_onlyZone c o discard z s y hyz]
      exact hs.1

theorem seats_player (hP : ∀ c < 8, P c) : Player (Seats P) where
  rfl := .rfl
  trans := .trans
  generate n s := (generate_settles n s).toPlays.seats_of_same rfl rfl
  drop z reason p s := (dropPlacement_settles z reason p s).toPlays.seats_of_sublist
    (dropPlacement_keepsRuns z reason p s).ple fun y => by
      rw [dropPlacement_zone]
      split
      · exact List.filter_sublist
      · exact .refl _
  cover {z a s} h := (makeCoverage_settles z a s).toPlays.seats_of_ple (makeCoverage_keepsRuns z a s).ple fun y hy hs => by
    by_cases hyz : y = z
    · subst hyz
      unfold coveredWith at h
      rw [hy.1] at h
      cases h
    · rw [makeCoverage_onlyZone z a s y hyz]
      exact hs.1
  endPart hc := endPart_seats (hP _ hc)
  idle c o s := (channelIdle_settles c o s).toPlays.seats (channelIdle_detaches c o s) fun y _ hs =>
    List.sublist_nil.mp (hs.1 ▸ channelIdle_queue_sublist c o s y)
  rerun hr h := (setChannel_settles _ _ _).toPlays.seats (rerun_detaches hr h) fun _ _ hs => hs.1
  emergency s := (emergencyEvent_settles s).toPlays.seats_of_same (emergencyEvent_keepsRuns s).ple
    (congrArg Zrt.zones (emergencyEvent_zrt s))
  start seized _ _ _ hzs := hzs ▸ started_seats _ _ seized _
  pulse {f} hf z s := by
    have hsettles : Settles s (s.modifyZone z f) := modifyZone_settles (f := f) (fun zn => by rw [hf zn]; rfl)
      (fun zn h => by rw [hf zn]; exact h) z s
    exact hsettles.toPlays.seats_of_ple rfl fun y _ hs =>
      modifyZone_queue_nil (f := f) (fun zn h => by rw [hf zn]; exact h) z hs.1
  createEvac n s := (create_seats _ s).trans ((setVoice_settles ..).toPlays.seats_of_same rfl rfl)

theorem seats_worker : Worker (Seats fun _ => True) where
  toPlayer := seats_player fun _ _ => trivial
  part c := endPart_seats (P := fun _ => True) trivial
  withdrawn a s := (modifySlot_settles (f := fun x => { x with withdrawn := true }) (fun _ => rfl) a s).toPlays.seats_of_same
    rfl rfl
  create := create_seats
  requeue {g} hg z s := (mapQueue_settles (g := g) (fun p => (hg p).2) z s).toPlays.seats_of_ple rfl fun y _ hs =>
    modifyZone_queue_nil (f := fun zn => { zn with queue := zn.queue.map g })
      (fun zn h => List.map_eq_nil_iff.mpr h) z hs.1
  requestOpen := requestOpen_seats
  requestNight := requestNight_seats
  warmUpEnd {t e s} _ := by
    cases t with
    | opn => exact setMode_seats .opn .warmed s
    | nightAlert => exact enterNightAlert_seats .warmed s
    | night => exact enterNight_seats .warmed s
  holdEnd _ := enterNight_seats .holdExpired _
  latest limit s := (reduceLatest_settles limit s).toPlays.seats_of_same rfl rfl
  ttu s x := ⟨fun _ h => h, fun _ h => h, fun _ _ h => h, fun _ => Eq.refl _, Eq.refl _⟩

end Sys2Proof.Machine


/-! PROOFS. The walk through the operations on coverage, base states, groups and sources (`Router`), and an ISOLATED zone
that stays empty (R107, R115). -/

namespace Sys2Proof.Machine

open Sys2Proof.Claims

/-- A relation from a state to what the blocks' work on zones makes of it, the entries of the sources apart. -/
structure Router (K : State → State → Prop) : Prop extends Placer K where
  recover : ∀ {z n s}, n = none ∨ (s.zone z).base ≠ .isolated → K s (setCovering z n s)
  write : ∀ {b} z s, b ≠ .isolated → K s (writeBase z b s)
  isolate : ∀ z s, K s (isolateZone z (setCovering z none (writeBase z .isolated s)))
  groups : ∀ s g, K s (s.withZrt { s.zrt with groups := g })
  configure : ∀ r k m z s, K s (s.modifyZone z (configured r k m))

/-- A zone takes the base state OPEN or CLOSED (R106, R107, R115, R123). -/
theorem changeBase_of_ne {b : Base} (hb : b ≠ .isolated) (z : Nat) (cause : ZoneCause) (s : State) :
    changeBase z b cause s = if (s.zone z).covering.isSome then
      generate (zoneChange (writeBase z b s) z (s.zone z) cause) (writeBase z b s)
    else (coveringOf (writeBase z b s) z).elim
      (generate (zoneChange (baseEffects z b (writeBase z b s)) z (s.zone z) cause) (baseEffects z b (writeBase z b s)))
      (fun n => enterEvacuate z n (s.zone z) cause true (writeBase z b s)) := by
  unfold changeBase
  cases b with
  | isolated => exact absurd rfl hb
  | opn | closed =>
    dsimp only
    refine congrArg (fun t => if (s.zone z).covering.isSome then _ else t) ?_
    cases coveringOf (writeBase z _ s) z <;> rfl

theorem lt_of_coveringOf {s : State} {z n : Nat} (h : coveringOf s z = some n) : z < s.zrt.zones.length := by
  by_contra hz
  rw [coveringOf_of_unreachable (by simp [reachableZone, zone_of_le (Nat.le_of_not_lt hz), coldZone])] at h
  cases h

theorem active_of_covers {s : State} {z n : Nat} (h : covers s n z = true) : (s.source n).state = .active := by
  simp only [covers, Bool.and_eq_true, decide_eq_true_eq] at h
  exact h.1.1

/-- A coverage placement finds, after work on announcements, the source that covers the zone still ACTIVE. -/
theorem covered_of_plays {s t : State} {z n : Nat} (hfound : coveringOf s z = some n)
    (h : Plays (setCovering z (some n) s) t) : (t.zone z).covering = some n ∧ (t.source n).state = .active := by
  refine ⟨(h.covering z).trans (setCovering_recovers (lt_of_coveringOf hfound) (some n)).covering, ?_⟩
  rw [((h.sameSites.site z).sources n).1]
  exact active_of_covers (s := s) (coveringOf_eq_some hfound).1

theorem judgeHold_eq_emergencyEvent {s : State} {h : Option RunTime} (hm : s.smc.mode = .nightAlert h) :
    judgeHold s = emergencyEvent s := (emergencyEvent_of_nightAlert hm).symm

theorem judgeHold_of_ne {s : State} (h : ∀ x, s.smc.mode ≠ .nightAlert x) : judgeHold s = s := by
  unfold judgeHold
  split
  next hm => exact absurd hm (h _)
  · rfl

namespace Player

variable {K : State → State → Prop} (k : Player K)
include k

theorem judge (s : State) : K s (judgeHold s) := by
  by_cases h : ∃ x, s.smc.mode = .nightAlert x
  · obtain ⟨x, hx⟩ := h
    rw [judgeHold_eq_emergencyEvent hx]
    exact k.emergency s
  · rw [judgeHold_of_ne fun x hx => h ⟨x, hx⟩]
    exact k.rfl s

theorem withdrawShare (n z : Nat) (s : State) : K s (withdrawShare n z s) := by
  unfold Machine.withdrawShare
  have hdrop := k.dropWhere z .withdrawn (fun p => ofSource s n p.announcement) s
  dsimp only
  split
  · exact k.trans hdrop (k.ite (k.markZone _ _ _))
  · exact hdrop

theorem cutForEvacuation (z : Nat) (s : State) : K s (cutForEvacuation z s) := by
  unfold Machine.cutForEvacuation
  split
  · exact k.ite (k.cutZone _ _ s)
  · exact k.rfl s

theorem closeZone (z : Nat) (s : State) : K s (closeZone z s) := by
  unfold Machine.closeZone
  have hdrop := k.dropWhere z .closed (fun p => decide (p.priority < 6)) s
  dsimp only
  split
  · exact k.trans hdrop (k.ite (k.markZone _ _ _))
  · exact hdrop

end Player

namespace Router

variable {K : State → State → Prop} (k : Router K)
include k

/-! ### Entering, handing over, leaving -/

theorem enterEvacuate {z n : Nat} {s : State} (h : coveringOf s z = some n) (before : Zone) (cause : ZoneCause)
    (place : Bool) : K s (enterEvacuate z n before cause place s) := by
  unfold Machine.enterEvacuate
  dsimp only
  generalize zoneChange (setCovering z (some n) s) z before cause = notice
  have hset : K s (setCovering z (some n) s) := k.recover (.inr (covers_base (coveringOf_eq_some h).1))
  have hcut := k.trans (k.generate notice (setCovering z (some n) s)) (k.cutForEvacuation z _)
  have hhold := k.requeue (g := holdPlacement) (fun p => by
    unfold holdPlacement; split <;> exact ⟨Eq.refl _, Eq.refl _⟩) z
      (Machine.cutForEvacuation z (Machine.generate notice (setCovering z (some n) s)))
  have hplays : Plays (setCovering z (some n) s) ((Machine.cutForEvacuation z
      (Machine.generate notice (setCovering z (some n) s))).modifyZone z
        (fun zn => { zn with queue := zn.queue.map holdPlacement })) :=
    (((generate_settles _ _).trans (cutForEvacuation_settles z _)).trans (mapQueue_settles (g := holdPlacement) (fun p => by
      unfold holdPlacement; split <;> exact Eq.refl _) z _)).toPlays
  refine k.trans hset (k.trans (k.trans hcut hhold) ?_)
  split
  · obtain ⟨hz, hn⟩ := covered_of_plays h hplays
    exact k.placeCoverage hz hn
  · exact k.rfl _

theorem handOver {z b : Nat} {s : State} (a : Nat) (h : coveringOf s z = some b) (place : Bool) :
    K s (handOver z a b place s) := by
  unfold Machine.handOver
  dsimp only
  generalize zoneChange (setCovering z (some b) s) z (s.zone z) .evacuation = notice
  have hplays := ((generate_settles notice (setCovering z (some b) s)).trans (withdrawShare_settles a z _)).toPlays
  have hset : K s (setCovering z (some b) s) := k.recover (.inr (covers_base (coveringOf_eq_some h).1))
  refine k.trans (k.trans hset (k.trans (k.generate notice _) (k.withdrawShare a z _))) ?_
  split
  · obtain ⟨hz, hn⟩ := covered_of_plays h hplays
    exact k.placeCoverage hz hn
  · exact k.rfl _

theorem leaveEvacuate (z a : Nat) (s : State) : K s (leaveEvacuate z a s) := by
  unfold Machine.leaveEvacuate
  dsimp only
  generalize zoneChange (setCovering z none s) z (s.zone z) .evacuation = notice
  have hset : K s (setCovering z none s) := k.recover (.inl (Eq.refl _))
  have hshare := k.trans (k.generate notice (setCovering z none s)) (k.withdrawShare a z _)
  refine k.trans (k.trans (k.trans hset hshare) (k.requeue (g := releasePlacement) (fun p => by
    unfold releasePlacement; split <;> exact ⟨Eq.refl _, Eq.refl _⟩) z _)) ?_
  exact k.ite (k.dropWhere _ _ _ _)

theorem recomputeZone (place : Bool) (z : Nat) (s : State) : K s (recomputeZone place z s) := by
  unfold Machine.recomputeZone
  split
  · exact k.rfl s
  next hfound => exact k.enterEvacuate hfound _ _ place
  next hfound =>
    split
    · exact k.rfl s
    · exact k.handOver _ hfound place
  · exact k.leaveEvacuate _ _ s

/-! ### Base states and groups -/

theorem changeBase (z : Nat) (b : Base) (cause : ZoneCause) (s : State) : K s (changeBase z b cause s) := by
  by_cases hb : b = .isolated
  · subst hb
    exact k.trans (k.isolate z s) (k.generate _ _)
  · rw [changeBase_of_ne hb]
    refine k.trans (k.write z s hb) ?_
    split
    · exact k.generate _ _
    · cases hfound : coveringOf (writeBase z b s) z with
      | some n =>
        rw [Option.elim_some]
        exact k.enterEvacuate hfound _ _ _
      | none =>
        rw [Option.elim_none]
        refine k.trans ?_ (k.generate _ _)
        cases b with
        | opn => exact k.rfl _
        | closed => exact k.closeZone z _
        | isolated => exact absurd (Eq.refl _) hb

theorem invalidateZone (z : Nat) (s : State) : K s (invalidateZone z s) := by
  unfold Machine.invalidateZone
  dsimp only
  have hempty := k.trans (k.dropWhere z .groupInvalid (fun _ => true) s) (k.cutZone z .groupInvalid _)
  generalize cutZone z .groupInvalid (dropWhere z .groupInvalid (fun _ => true) s) = t at hempty ⊢
  split
  · exact k.trans hempty (k.trans (k.recover (.inl (Eq.refl _))) (k.generate _ _))
  · exact hempty

theorem regrouped (r : GroupSetReq) (s : State) : K s (regrouped r s) := by
  unfold Machine.regrouped
  exact k.trans (k.trans (k.groups s _) (k.forEach (fun g s => k.forEach k.invalidateZone s) _))
    (k.forEach (fun g s => k.forEach (k.recomputeZone true) s) _)

/-! ### Sources -/

theorem activateEntry (hsource : ∀ n f s, (∀ e, (f e).voice = .none) → K s (s.modifySource n f)) (n : Nat)
    (key : SourceKey) (latched : Bool) (s : State) : K s (activateEntry n key latched s) := by
  unfold Machine.activateEntry
  exact k.trans (hsource n _ s fun _ => Eq.refl _) (k.forEach (k.recomputeZone false) _)

theorem activate (hsource : ∀ n f s, (∀ e, (f e).voice = .none) → K s (s.modifySource n f)) (n : Nat)
    (key : SourceKey) (latched : Bool) (s : State) : K s (activate n key latched s).2 :=
  k.trans (k.trans (k.trans (k.activateEntry hsource n key latched s) (k.createEvac n _)) (k.settle _))
    (k.trans (k.trans (k.generate _ _) (k.emergency _)) (k.settle _))

theorem withdrawVoice (v : Voice) (s : State) : K s (withdrawVoice v s) := by
  unfold Machine.withdrawVoice
  split
  · exact k.withdrawAnnouncement _ s
  · exact k.rfl s

theorem clearSource (hsource : ∀ n f s, (∀ e, (f e).voice = .none) → K s (s.modifySource n f)) (n : Nat) (s : State) :
    K s (clearSource n s) := by
  unfold Machine.clearSource
  exact k.trans (k.trans (k.trans (k.trans (hsource n releasedEntry s fun _ => Eq.refl _) (k.withdrawVoice _ _))
    (k.forEach (k.recomputeZone true) _)) (k.judge _)) (k.trans (k.generate _ _) (k.settle _))

/-! ### The edges of input sets -/

theorem panelActive (hactivate : ∀ n key latched s, K s (Machine.activate n key latched s).2) (key : SourceKey)
    (sense : Sense) (s : State) : K s (panelActive key sense s) := by
  unfold Machine.panelActive
  split
  · exact k.rfl s
  · split
    · exact k.generate _ s
    · exact hactivate _ _ _ s

theorem handEdge (hactivate : ∀ n key latched s, K s (Machine.activate n key latched s).2) (f : InputFunction)
    (active : Bool) (t : Capture) (n : Nat) (s : State) : K s (handEdge f active t n s) := by
  unfold Machine.handEdge
  split
  · exact k.trainActive _ _ _ s
  · exact k.trainInactive _ _ _ s
  · exact k.dispatchActive _ _ _ s
  · exact k.ite (k.changeBase _ _ _ s)
  · exact k.ite (k.changeBase _ _ _ s)
  · exact k.panelActive hactivate _ _ s
  · exact k.rfl s

end Router

/-! ### Every step -/

/-- The two states have the same announcements, zones (their windows apart), groups, sources, runs and mode. -/
structure Alike (s t : State) : Prop where
  slots : t.asc.slots = s.asc.slots
  zones : t.zrt.zones.map (fun zn => { zn with window := [] }) = s.zrt.zones.map (fun zn => { zn with window := [] })
  groups : t.zrt.groups = s.zrt.groups
  sources : t.zrt.sources = s.zrt.sources
  channels : t.ple.channels = s.ple.channels
  mode : t.smc.mode = s.smc.mode

theorem reportStatus_alike (n : Nat) (f : Input → Input) (before : Bool) (t : Capture) (s : State) :
    Alike s (reportStatus n before t (s.modifyInput n f)) := by
  unfold reportStatus
  split <;> exact ⟨rfl, rfl, rfl, rfl, rfl, rfl⟩

theorem window_alike (z : Nat) (f : List Nat → List Nat) (s : State) :
    Alike s (s.modifyZone z (fun zn => { zn with window := f zn.window })) where
  slots := rfl
  zones := map_modify (f := fun zn : Zone => { zn with window := f zn.window }) (fun _ => rfl) _ _
  groups := rfl
  sources := rfl
  channels := rfl
  mode := rfl

theorem Alike.zone {s t : State} (h : Alike s t) (z : Nat) :
    { t.zone z with window := [] } = { s.zone z with window := [] } :=
  getD_of_map_eq h.zones coldZone z

namespace Router

variable {K : State → State → Prop} (k : Router K)
include k

theorem effect (w : Worker K) (hblind : ∀ {s t}, Alike s t → K s t)
    (hactivate : ∀ n key latched s, K s (Machine.activate n key latched s).2)
    (hclear : ∀ n s, K s (Machine.clearSource n s)) {s t : State} (h : Effect s t) : K s t := by
  cases h with
  | nothing => exact k.rfl s
  | mask | clock | clockEvent | plan | clearInputs | directory | template | composer | gap =>
    exact hblind ⟨Eq.refl _, Eq.refl _, Eq.refl _, Eq.refl _, Eq.refl _, Eq.refl _⟩
  | addCall => exact k.addCall _ s
  | replaceCall => exact k.replaceCall _ _ s
  | deleteCall => exact k.deleteFound _ s
  | delayCall => exact k.delayFound _ _ s
  | platformCall => exact k.changePlatform _ _ s
  | cancelCall => exact k.cancelFound _ s
  | arrive => exact k.arrive _ _ _ _ s
  | depart => exact k.depart _ _ _ _ s
  | configureInput n f before t => exact hblind (reportStatus_alike n f before t s)
  | announce => exact k.createWhole _ s
  | withdraw a => exact k.trans (k.withdrawAnnouncement a s) (k.settle _)
  | zone kind m hzone hgains => exact k.trans (k.trans (k.configure _ kind m _ s) (k.recomputeZone true _ _)) (k.settle _)
  | groups r => exact k.trans (k.regrouped r s) (k.settle _)
  | base => exact k.trans (k.changeBase _ _ _ s) (k.settle _)
  | activate => exact hactivate _ _ _ s
  | clear => exact hclear _ s
  | mode m warm =>
    have hwarm : K s (s.withSmc { s.smc with warmUp := clampWarmUp warm }) :=
      hblind ⟨Eq.refl _, Eq.refl _, Eq.refl _, Eq.refl _, Eq.refl _, Eq.refl _⟩
    exact k.trans (k.trans hwarm (w.actOnMode m _)) (k.settle _)

/-- What the blocks' work on announcements, calls and zones keeps is kept by every step. -/
theorem keeper (w : Worker K) (hblind : ∀ {s t}, Alike s t → K s t) (hcold : ∀ s, K s (coldReset s))
    (hwarm : ∀ cause s, K s (warmReset cause s))
    (hactivate : ∀ n key latched s, K s (Machine.activate n key latched s).2)
    (hclear : ∀ n s, K s (Machine.clearSource n s)) : Keeper K where
  rfl := k.rfl
  trans := k.trans
  pending _ _ := hblind ⟨Eq.refl _, Eq.refl _, Eq.refl _, Eq.refl _, Eq.refl _, Eq.refl _⟩
  resetLine _ _ := hblind ⟨Eq.refl _, Eq.refl _, Eq.refl _, Eq.refl _, Eq.refl _, Eq.refl _⟩
  pins _ _ := hblind ⟨Eq.refl _, Eq.refl _, Eq.refl _, Eq.refl _, Eq.refl _, Eq.refl _⟩
  clock _ _ := hblind ⟨Eq.refl _, Eq.refl _, Eq.refl _, Eq.refl _, Eq.refl _, Eq.refl _⟩
  fiu _ _ _ := hblind ⟨Eq.refl _, Eq.refl _, Eq.refl _, Eq.refl _, Eq.refl _, Eq.refl _⟩
  lnk _ _ := hblind ⟨Eq.refl _, Eq.refl _, Eq.refl _, Eq.refl _, Eq.refl _, Eq.refl _⟩
  composer _ := hblind ⟨Eq.refl _, Eq.refl _, Eq.refl _, Eq.refl _, Eq.refl _, Eq.refl _⟩
  tick _ _ _ := hblind ⟨Eq.refl _, Eq.refl _, Eq.refl _, Eq.refl _, Eq.refl _, Eq.refl _⟩
  window s z x := hblind (window_alike z (joinWindow (sampleOf x)) s)
  coldReset := hcold
  warmReset := hwarm
  settle := k.settle
  phraseEnd := k.takePhraseEnd
  gapEnd := k.takeGapEnd
  pulseEnd := k.takePulseEnd
  endRests := k.endRests
  warmUpEnd := w.takeWarmUpEnd
  holdExpiry := w.takeHoldExpiry
  create _ _ _ s := k.createWhole _ s
  wake n s := w.requestOpen (.wake n) s
  edge := k.handEdge hactivate
  secondTtu := k.secondTtu
  secondZrt := k.secondZrt
  secondSmc := w.secondSmc
  effect h := k.effect w hblind hactivate hclear h

end Router

/-- What a relation that holds of all playing work implies holds of it too. -/
theorem Worker.mono {K L : State → State → Prop} (k : Worker K) (h : ∀ {s t}, K s t → L s t)
    (htrans : ∀ {s t u}, L s t → L t u → L s u) : Worker L where
  rfl s := h (k.rfl s)
  trans := htrans
  generate n s := h (k.generate n s)
  drop z reason p s := h (k.drop z reason p s)
  cover hc := h (k.cover hc)
  endPart hc o discard z s := h (k.endPart hc o discard z s)
  part c o discard z s := h (k.part c o discard z s)
  idle c o s := h (k.idle c o s)
  rerun hr hsame := h (k.rerun hr hsame)
  emergency s := h (k.emergency s)
  start seized hc hidle hx hzs := h (k.start seized hc hidle hx hzs)
  pulse hf z s := h (k.pulse hf z s)
  createEvac n s := h (k.createEvac n s)
  withdrawn a s := h (k.withdrawn a s)
  create proto s := h (k.create proto s)
  requeue hg z s := h (k.requeue hg z s)
  requestOpen cause s := h (k.requestOpen cause s)
  requestNight cause s := h (k.requestNight cause s)
  warmUpEnd hm := h (k.warmUpEnd hm)
  holdEnd hm := h (k.holdEnd hm)
  latest limit s := h (k.latest limit s)
  ttu s x := h (k.ttu s x)

end Sys2Proof.Machine


/-! PROOFS. An ISOLATED zone stays out of EVACUATE, with an empty queue and no channel, in every step (R107, R115). -/

namespace Sys2Proof.Machine

open Sys2Proof.Claims

/-! ### A zone that is emptied -/

theorem endPart_self_detached (c : Nat) (o : RunOutcome) (discard : Bool) (z : Nat) (s : State) :
    attachedTo (endPart c o discard z s) z c = false := by
  cases hr : s.channel c with
  | none =>
    have hdetached : attachedTo s z c = false := by unfold attachedTo; rw [hr]
    rwa [endPart_of_detached hdetached]
  | some r =>
    obtain ⟨left, hchannel⟩ := endPart_channel hr o discard z
    cases h : attachedTo (endPart c o discard z s) z c with
    | false => rfl
    | true =>
      obtain ⟨r', a, hr', ha⟩ := attachedTo_eq_true.mp h
      rw [hchannel] at hr'
      cases hr'
      have hmem := attachmentIn_isSome.mp (Option.isSome_iff_exists.mpr ⟨a, ha⟩)
      obtain ⟨e, he, rfl⟩ := List.mem_map.mp hmem
      simpa using (List.mem_filter.mp he).2

theorem idleIfEmpty_detaches (c : Nat) (o : RunOutcome) (s : State) (z d : Nat)
    (h : attachedTo (idleIfEmpty c o s) z d = true) : attachedTo s z d = true := by
  unfold idleIfEmpty at h
  split at h
  · split at h
    · exact channelIdle_detaches c o s z d h
    · exact h
  · exact h

/-- A cut leaves the zone attached to no channel. -/
theorem cutZone_detached {s : State} {z : Nat} (h : AttachedOnce s z) (cause : CutCause) :
    ∀ c < 8, attachedTo (cutZone z cause s) z c = false := by
  intro c hc
  unfold cutZone
  cases hz : attachedChannel s z with
  | none => exact attachedChannel_eq_none.mp hz c hc
  | some d =>
    obtain ⟨hd, hattached⟩ := attachedChannel_eq_some hz
    cases hend : attachedTo (idleIfEmpty d .cut (endPart d .cut (discards cause) z s)) z c with
    | false => rfl
    | true =>
      have hpart := idleIfEmpty_detaches _ _ _ _ _ hend
      have hcd : c = d := h c hc d hd (endPart_detaches _ _ _ _ _ _ _ hpart) hattached
      rw [hcd, endPart_self_detached] at hpart
      cases hpart

theorem idleIfEmpty_queue_sublist (c : Nat) (o : RunOutcome) (s : State) (z : Nat) :
    ((idleIfEmpty c o s).zone z).queue.Sublist (s.zone z).queue := by
  unfold idleIfEmpty
  split
  · split
    · exact channelIdle_queue_sublist c o s z
    · exact .refl _
  · exact .refl _

/-- A part that ends discarded brings nothing back to its zone's queue. -/
theorem endPart_discard_queue (c z : Nat) (s : State) (y : Nat) :
    ((endPart c .cut true z s).zone y).queue = (s.zone y).queue := by
  cases h : attachedTo s z c with
  | false => rw [endPart_of_detached h]
  | true =>
    obtain ⟨r, a, hr, ha⟩ := attachedTo_eq_true.mp h
    rw [endPart_eq hr ha (fate := .discarded) (u := detachZone c z r s) rfl]
    have hresumed : resumeCoverage z r.announcement a true (detachZone c z r s) = detachZone c z r s :=
      if_neg fun h => Bool.false_ne_true h.2.1.symm
    have hleft : ∀ e u, (recordLeft c e u).zrt = u.zrt := fun e u => by
      unfold recordLeft
      split <;> rfl
    rw [hresumed, zone_of_zones (congrArg Zrt.zones (hleft _ _)), detachZone_zone]
    split <;> rfl

theorem cutZone_discard_queue {cause : CutCause} (h : discards cause = true) (z : Nat) (s : State) (y : Nat) :
    ((cutZone z cause s).zone y).queue.Sublist (s.zone y).queue := by
  unfold cutZone
  split
  · rw [h, ← endPart_discard_queue _ z s y]
    exact idleIfEmpty_queue_sublist _ _ _ y
  · exact .refl _

/-- A zone whose queue is dropped whole and which is cut with its placement discarded is left empty (R95, R107). -/
theorem emptied_queue {cause : CutCause} (h : discards cause = true) (z : Nat) (reason : DropReason) (s : State) :
    ((cutZone z cause (dropWhere z reason (fun _ => true) s)).zone z).queue = [] := by
  have hdropped : ((dropWhere z reason (fun _ => true) s).zone z).queue = [] :=
    List.eq_nil_iff_forall_not_mem.mpr fun p hp => absurd (dropWhere_queue_none hp).2 (by simp)
  exact List.sublist_nil.mp (hdropped ▸ cutZone_discard_queue h z _ z)

theorem emptied_detached {s : State} {z : Nat} (h : AttachedOnce s z) (cause : CutCause) (reason : DropReason) :
    ∀ c < 8, attachedTo (cutZone z cause (dropWhere z reason (fun _ => true) s)) z c = false :=
  cutZone_detached ((dropWhere_seats (P := (· < 8)) z reason _ s).once z h) cause

/-! ### Isolation -/

/-- The law of isolation carries over. -/
def KeepsIsolation (s t : State) : Prop := IsolationOk s → IsolationOk t

theorem attachedTo_of_le {s : State} {z c : Nat} (h : s.ple.channels.length ≤ c) : attachedTo s z c = false := by
  cases hc : attachedTo s z c with
  | false => rfl
  | true =>
    obtain ⟨r, a, hr, -⟩ := attachedTo_eq_true.mp hc
    exact absurd (lt_of_channel hr) (Nat.not_lt.mpr h)

theorem sealed_iff {s : State} (h : s.ple.channels.length = Config.maxChannels) (z : Nat) :
    Sealed (fun _ => True) s z ↔ (s.zone z).queue = [] ∧ ∀ c < Config.maxChannels, attachedTo s z c = false :=
  and_congr_right fun _ => ⟨fun hz c _ => hz c trivial, fun hz c _ => (Nat.lt_or_ge c Config.maxChannels).elim (hz c)
    fun hc => attachedTo_of_le (h ▸ hc)⟩

/-- The law of isolation, with the zones that must stay empty. -/
theorem isolationOk_iff {s : State} : IsolationOk s ↔ s.ple.channels.length = Config.maxChannels ∧
    (∀ z < Config.maxZones, AttachedOnce s z) ∧
    ∀ z < Config.maxZones, (s.zone z).base = .isolated → (s.zone z).covering = none ∧ Sealed (fun _ => True) s z := by
  constructor
  · intro h
    refine ⟨h.channels, fun z hz c hc d hd => h.alone z hz c hc d hd, fun z hz hb => ?_⟩
    obtain ⟨hcov, hqueue, hch⟩ := h.isolated z hz hb
    exact ⟨hcov, (sealed_iff h.channels z).mpr ⟨hqueue, hch⟩⟩
  · rintro ⟨hlen, honce, hiso⟩
    refine ⟨hlen, fun z hz c hc d hd => honce z hz c hc d hd, fun z hz hb => ?_⟩
    obtain ⟨hcov, hsealed⟩ := hiso z hz hb
    exact ⟨hcov, (sealed_iff hlen z).mp hsealed⟩

theorem Seats.keepsIsolation {s t : State} (h : Seats (fun _ => True) s t) : KeepsIsolation s t := by
  intro hs
  obtain ⟨hlen, honce, hiso⟩ := isolationOk_iff.mp hs
  refine isolationOk_iff.mpr ⟨h.channels.trans hlen, fun z hz => h.once z (honce z hz), fun z hz hb => ?_⟩
  have hbase := (h.base z).symm.trans hb
  obtain ⟨hcov, hsealed⟩ := hiso z hz hbase
  have hbarred : Barred s z := ⟨hcov, .inl hbase⟩
  exact ⟨(h.barred z hbarred).1, h.sealed z hbarred hsealed⟩

theorem sealed_congr {s t : State} {z : Nat} (hq : (t.zone z).queue = (s.zone z).queue)
    (hc : t.ple.channels = s.ple.channels) : Sealed (fun _ => True) t z ↔ Sealed (fun _ => True) s z := by
  unfold Sealed
  rw [hq]
  exact and_congr_right fun _ => forall_congr' fun c => by rw [attachedTo_congr hc]

theorem attachedOnce_congr {s t : State} {z : Nat} (hc : t.ple.channels = s.ple.channels) :
    AttachedOnce t z ↔ AttachedOnce s z := by
  unfold AttachedOnce
  simp only [attachedTo_congr hc]

/-- A change of the zones' records that leaves the ISOLATED ones as they were. -/
theorem keepsIsolation_of_zones {s t : State} (hc : t.ple.channels = s.ple.channels)
    (hz : ∀ z, (t.zone z).base = .isolated → (s.zone z).base = .isolated ∧ (t.zone z).queue = (s.zone z).queue ∧
      ((s.zone z).covering = none → (t.zone z).covering = none)) : KeepsIsolation s t := by
  intro hs
  obtain ⟨hlen, honce, hiso⟩ := isolationOk_iff.mp hs
  refine isolationOk_iff.mpr ⟨(congrArg List.length hc).trans hlen,
    fun z h => (attachedOnce_congr hc).mpr (honce z h), fun z h hb => ?_⟩
  obtain ⟨hbase, hqueue, hcovering⟩ := hz z hb
  obtain ⟨hcov, hsealed⟩ := hiso z h hbase
  exact ⟨hcovering hcov, (sealed_congr hqueue hc).mpr hsealed⟩

theorem setCovering_zone (z : Nat) (n : Option Nat) (s : State) (y : Nat) : (setCovering z n s).zone y =
    if y = z ∧ y < s.zrt.zones.length then { s.zone y with covering := n } else s.zone y := zone_modifyZone ..

theorem setCovering_keepsIsolation {z : Nat} {n : Option Nat} {s : State}
    (h : n = none ∨ (s.zone z).base ≠ .isolated) : KeepsIsolation s (setCovering z n s) := by
  refine keepsIsolation_of_zones rfl fun y hb => ?_
  rw [setCovering_zone] at hb ⊢
  split at hb
  next hy =>
    rw [if_pos hy]
    refine ⟨hb, rfl, fun _ => ?_⟩
    obtain hn | hbase := h
    · exact hn
    · exact absurd (hy.1 ▸ hb) hbase
  next hy => rw [if_neg hy]; exact ⟨hb, rfl, id⟩

theorem writeBase_zone (z : Nat) (b : Base) (s : State) (y : Nat) : (writeBase z b s).zone y =
    if y = z ∧ y < s.zrt.zones.length then { s.zone y with base := b } else s.zone y := zone_modifyZone ..

theorem writeBase_keepsIsolation {b : Base} (h : b ≠ .isolated) (z : Nat) (s : State) :
    KeepsIsolation s (writeBase z b s) := by
  refine keepsIsolation_of_zones rfl fun y hb => ?_
  rw [writeBase_zone] at hb ⊢
  split at hb
  · exact absurd hb h
  next hy => rw [if_neg hy]; exact ⟨hb, rfl, id⟩

/-- A zone that becomes ISOLATED is emptied; the others stay (R107). -/
theorem isolate_keepsIsolation (z : Nat) (s : State) :
    KeepsIsolation s (isolateZone z (setCovering z none (writeBase z .isolated s))) := by
  intro hs
  obtain ⟨hlen, honce, hiso⟩ := isolationOk_iff.mp hs
  set m := setCovering z none (writeBase z .isolated s) with hm
  have hseats : Seats (fun _ => True) m (isolateZone z m) := seats_worker.trans (dropWhere_seats ..) (seats_worker.cutZone ..)
  have hother : ∀ y, y ≠ z → m.zone y = s.zone y := fun y hy => by
    rw [hm, setCovering_zone, if_neg fun h => hy h.1, writeBase_zone, if_neg fun h => hy h.1]
  have honce' : ∀ y < Config.maxZones, AttachedOnce m y := fun y hy => (attachedOnce_congr rfl).mpr (honce y hy)
  refine isolationOk_iff.mpr ⟨hseats.channels.trans hlen, fun y hy => hseats.once y (honce' y hy), fun y hy hb => ?_⟩
  have hbase := (hseats.base y).symm.trans hb
  by_cases hyz : y = z
  · subst hyz
    have hcov : (m.zone y).covering = none := by
      rw [hm, setCovering_zone]
      split
      · rfl
      next hlt =>
        rw [zone_of_le (Nat.le_of_not_lt fun h => hlt ⟨rfl, h⟩)]
        rfl
    refine ⟨(hseats.barred y ⟨hcov, .inl hbase⟩).1, (sealed_iff (hseats.channels.trans hlen) y).mpr ⟨?_, ?_⟩⟩
    · exact emptied_queue rfl y .isolated m
    · exact emptied_detached (honce' y hy) .isolation .isolated
  · rw [hother y hyz] at hbase
    obtain ⟨hcov, hsealed⟩ := hiso y hy hbase
    have hbarred : Barred m y := ⟨by rw [hother y hyz]; exact hcov, .inl (by rw [hother y hyz]; exact hbase)⟩
    have hsealed' : Sealed (fun _ => True) m y := (sealed_congr (congrArg Zone.queue (hother y hyz)) rfl).mpr hsealed
    exact ⟨(hseats.barred y hbarred).1, hseats.sealed y hbarred hsealed'⟩

theorem isolation_worker : Worker KeepsIsolation := seats_worker.mono (fun h => h.keepsIsolation) (fun h g hs => g (h hs))

theorem isolation_router : Router KeepsIsolation where
  toPlacer := isolation_worker.toPlacer
  recover := setCovering_keepsIsolation
  write z s hb := writeBase_keepsIsolation hb z s
  isolate := isolate_keepsIsolation
  groups s g := keepsIsolation_of_zones rfl fun _ hb => ⟨hb, rfl, id⟩
  configure r k m z s := keepsIsolation_of_zones rfl fun y hb => by
    rw [zone_modifyZone] at hb ⊢
    split at hb
    next hy => rw [if_pos hy]; exact ⟨hb, rfl, id⟩
    next hy => rw [if_neg hy]; exact ⟨hb, rfl, id⟩

theorem source_keepsIsolation (n : Nat) (f : Source → Source) (s : State) : KeepsIsolation s (s.modifySource n f) :=
  keepsIsolation_of_zones rfl fun _ hb => ⟨hb, rfl, id⟩

theorem Alike.keepsIsolation {s t : State} (h : Alike s t) : KeepsIsolation s t :=
  keepsIsolation_of_zones h.channels fun z hb => by
    have hbase : (t.zone z).base = (s.zone z).base := (congrArg Zone.base (h.zone z) :)
    have hqueue : (t.zone z).queue = (s.zone z).queue := (congrArg Zone.queue (h.zone z) :)
    have hcovering : (t.zone z).covering = (s.zone z).covering := (congrArg Zone.covering (h.zone z) :)
    exact ⟨hbase.symm.trans hb, hqueue, fun hc => hcovering.trans hc⟩

/-! ### Resets -/

theorem reissue_worker {K : State → State → Prop} (k : Player K) (n : Nat) (s : State) : K s (reissue n s) :=
  k.trans (k.trans (k.createEvac n s) (k.settle _)) (k.generate _ _)

theorem reportWarmMode_worker {K : State → State → Prop} (k : Player K) (m : Mode) (s : State) :
    K s (reportWarmMode m s) := by
  unfold reportWarmMode
  split
  · exact k.generate _ s
  · exact k.generate _ s
  · exact k.rfl s

theorem informActive_worker {K : State → State → Prop} (k : Player K) (s : State) : K s (informActive s) := by
  unfold informActive
  split
  · exact k.judge s
  · exact k.trans (k.emergency s) (k.judge _)

/-- A law of the blocks as a warm reset leaves them, which the recovery of coverage and the re-issue keep, holds after it
(R124, R154). -/
theorem warmReset_of_router {P : State → Prop} (k : Router (fun s t => P s → P t)) (cause : RestartCause) {s : State}
    (h : P (warmBlocks s)) : P (warmReset cause s) := by
  have hrecover : ∀ z s, P s → P (recoverZone z s) := fun z s => by
    refine k.recover ?_
    cases hc : coveringOf s z with
    | none => exact .inl rfl
    | some n => exact .inr (covers_base (coveringOf_eq_some hc).1)
  have hrecovered : P (forEach allZones recoverZone (generate (.restarted cause) (warmBlocks s))) :=
    k.forEach hrecover _ (k.generate _ _ h)
  exact k.settle _ (informActive_worker k.toPlayer _ (reportWarmMode_worker k.toPlayer _ _
    (k.forEach (reissue_worker k.toPlayer) _ hrecovered)))

theorem warmBlocks_queue (z : Nat) (s : State) : ((warmBlocks s).zone z).queue = [] := by
  simp only [State.zone, warmBlocks, warmZrt, List.getD_eq_getElem?_getD, List.getElem?_map]
  cases s.zrt.zones[z]? <;> rfl

theorem warmBlocks_base (z : Nat) (s : State) : ((warmBlocks s).zone z).base = (s.zone z).base := by
  simp only [State.zone, warmBlocks, warmZrt, List.getD_eq_getElem?_getD, List.getElem?_map]
  cases s.zrt.zones[z]? <;> rfl

theorem warmBlocks_covering (z : Nat) (s : State) : ((warmBlocks s).zone z).covering = (s.zone z).covering := by
  simp only [State.zone, warmBlocks, warmZrt, List.getD_eq_getElem?_getD, List.getElem?_map]
  cases s.zrt.zones[z]? <;> rfl

theorem warmBlocks_channel (s : State) (c : Nat) : (warmBlocks s).channel c = none := by
  simp only [State.channel, warmBlocks, warmPle, List.getD_eq_getElem?_getD, List.getElem?_replicate]
  split <;> rfl

theorem warmBlocks_attachedTo (s : State) (z c : Nat) : attachedTo (warmBlocks s) z c = false := by
  unfold attachedTo
  rw [warmBlocks_channel]

theorem warmReset_keepsIsolation (cause : RestartCause) (s : State) : KeepsIsolation s (warmReset cause s) := by
  intro hs
  refine warmReset_of_router (P := IsolationOk) isolation_router cause (isolationOk_iff.mpr ⟨List.length_replicate .., ?_, ?_⟩)
  · intro z _ c _ d _ h
    rw [warmBlocks_attachedTo] at h
    cases h
  · intro z hz hb
    rw [warmBlocks_base] at hb
    refine ⟨(warmBlocks_covering z s).trans ((isolationOk_iff.mp hs).2.2 z hz hb).1, warmBlocks_queue z s,
      fun c _ => warmBlocks_attachedTo s z c⟩

theorem keepsIsolation_keeper : Keeper KeepsIsolation :=
  isolation_router.keeper isolation_worker (fun h => h.keepsIsolation) (fun _ _ => { reset_isolation with })
    warmReset_keepsIsolation
    (isolation_router.activate fun n f s _ => source_keepsIsolation n f s)
    (isolation_router.clearSource fun n f s _ => source_keepsIsolation n f s)

/-- Settles O25. -/
theorem everyStepKeepsIsolatedZonesEmpty : Obligations.EveryStepKeepsIsolatedZonesEmpty := by
  unfold Obligations.EveryStepKeepsIsolatedZonesEmpty
  exact fun s t _ hs h => keepsIsolation_keeper.step h hs

end Sys2Proof.Machine


/-! PROOFS. The law of the store: every queued placement, run and voice is of an announcement in the store, and each
announcement there has a placement or a run (R81 to R84, R99, R120, R126). -/

namespace Sys2Proof.Machine

open Sys2Proof.Claims

/-! ### The law, with announcements whose use is still open -/

/-- Announcement `a` is in the store with the priority. -/
def Stored (s : State) (a prio : Nat) : Prop := ∃ x, s.slot? a = some x ∧ x.priority = prio

/-- Announcement `a` has a placement or a run. -/
def Used (s : State) (a : Nat) : Prop :=
  (∃ y, ∃ p ∈ (s.zone y).queue, p.announcement = a) ∨ ∃ c r, s.channel c = some r ∧ r.announcement = a

/-- The law of the store, but that the announcements in `E` may be without placement and run. -/
structure StoreLaw (E : Nat → Prop) (s : State) : Prop where
  zones : s.zrt.zones.length = Config.maxZones
  sources : s.zrt.sources.length = Config.maxSources
  channels : s.ple.channels.length = Config.maxChannels
  queued : ∀ y, ∀ p ∈ (s.zone y).queue, Stored s p.announcement p.priority
  playing : ∀ c r, s.channel c = some r → Stored s r.announcement r.priority ∧
    ∀ a ∈ r.zones, a.placement.announcement = r.announcement ∧ a.placement.priority = r.priority
  voiced : ∀ n a, (s.source n).state = .active → (s.source n).voice = .voiced a → Stored s a 7
  used : ∀ x ∈ s.asc.slots, ¬ E x.id → Used s x.id

theorem zone_of_mem_zones {s : State} {z : Zone} (hz : z ∈ s.zrt.zones) : ∃ y, s.zone y = z := by
  obtain ⟨y, hy, rfl⟩ := List.getElem_of_mem hz
  exact ⟨y, by simp [State.zone, List.getD_eq_getElem?_getD, hy]⟩

theorem placementCount_pos_iff {s : State} {a : Nat} :
    0 < placementCount s a ↔ ∃ y, ∃ p ∈ (s.zone y).queue, p.announcement = a := by
  unfold placementCount
  rw [List.countP_pos_iff]
  constructor
  · rintro ⟨z, hz, hany⟩
    obtain ⟨p, hp, ha⟩ := List.any_eq_true.mp hany
    obtain ⟨y, rfl⟩ := zone_of_mem_zones hz
    exact ⟨y, p, hp, by simpa using ha⟩
  · rintro ⟨y, p, hp, rfl⟩
    exact ⟨s.zone y, mem_zones_of_mem_queue hp, List.any_eq_true.mpr ⟨p, hp, by simp⟩⟩

theorem mem_runs_iff {s : State} {r : Run} : r ∈ runs s ↔ ∃ c, s.channel c = some r := by
  unfold runs State.channel
  rw [List.mem_filterMap]
  constructor
  · rintro ⟨x, hx, rfl⟩
    obtain ⟨c, hc, hget⟩ := List.getElem_of_mem hx
    exact ⟨c, by simp [List.getD_eq_getElem?_getD, hc, hget]⟩
  · rintro ⟨c, hc⟩
    refine ⟨some r, ?_, rfl⟩
    rw [List.getD_eq_getElem?_getD] at hc
    cases hget : s.ple.channels[c]? with
    | none => rw [hget] at hc; cases hc
    | some x =>
      rw [hget] at hc
      cases hc
      exact List.mem_of_getElem? hget

theorem runCount_pos_iff {s : State} {a : Nat} : 0 < runCount s a ↔ ∃ c r, s.channel c = some r ∧ r.announcement = a := by
  unfold runCount
  rw [List.countP_pos_iff]
  constructor
  · rintro ⟨r, hr, ha⟩
    obtain ⟨c, hc⟩ := mem_runs_iff.mp hr
    exact ⟨c, r, hc, by simpa using ha⟩
  · rintro ⟨c, r, hc, rfl⟩
    exact ⟨r, mem_runs_iff.mpr ⟨c, hc⟩, by simp⟩

theorem used_iff {s : State} {a : Nat} : Used s a ↔ 0 < placementCount s a ∨ 0 < runCount s a := by
  rw [placementCount_pos_iff, runCount_pos_iff]; rfl

theorem stored_congr {s t : State} (h : t.asc.slots = s.asc.slots) (a prio : Nat) : Stored t a prio ↔ Stored s a prio := by
  unfold Stored State.slot?
  rw [h]

theorem Stored.unique {s : State} {a p q : Nat} (h : Stored s a p) (g : Stored s a q) : p = q := by
  obtain ⟨x, hx, rfl⟩ := h
  obtain ⟨y, hy, rfl⟩ := g
  rw [hx] at hy
  cases hy
  rfl

section
variable {E : Nat → Prop} {s t : State}

theorem StoreLaw.weaken {F : Nat → Prop} (h : StoreLaw E s) (hEF : ∀ a, E a → F a) : StoreLaw F s :=
  { h with used := fun x hx hF => h.used x hx fun hE => hF (hEF _ hE) }

/-- A change that leaves the announcements, the queues, the runs and the sources as they are. -/
theorem StoreLaw.congr (h : StoreLaw E s) (hslots : t.asc.slots = s.asc.slots)
    (hlen : t.zrt.zones.length = s.zrt.zones.length) (hq : ∀ y, (t.zone y).queue = (s.zone y).queue)
    (hsources : t.zrt.sources = s.zrt.sources) (hch : t.ple.channels = s.ple.channels) : StoreLaw E t := by
  have hsource : ∀ n, t.source n = s.source n := fun n => by unfold State.source; rw [hsources]
  have hchannel : ∀ c, t.channel c = s.channel c := fun c => by unfold State.channel; rw [hch]
  exact
    { zones := hlen.trans h.zones
      sources := (congrArg List.length hsources).trans h.sources
      channels := (congrArg List.length hch).trans h.channels
      queued := fun y p hp => (stored_congr hslots _ _).mpr (h.queued y p (hq y ▸ hp))
      playing := fun c r hr => by
        obtain ⟨hstored, hzones⟩ := h.playing c r ((hchannel c).symm.trans hr)
        exact ⟨(stored_congr hslots _ _).mpr hstored, hzones⟩
      voiced := fun n a hstate hvoice => (stored_congr hslots _ _).mpr
        (h.voiced n a (hsource n ▸ hstate) (hsource n ▸ hvoice))
      used := fun x hx hE => by
        obtain ⟨y, p, hp, ha⟩ | ⟨c, r, hr, ha⟩ := h.used x (hslots ▸ hx) hE
        · exact .inl ⟨y, p, (hq y).symm ▸ hp, ha⟩
        · exact .inr ⟨c, r, (hchannel c).trans hr, ha⟩ }

theorem StoreLaw.generate (h : StoreLaw E s) (n : Notice) : StoreLaw E (generate n s) :=
  h.congr rfl rfl (fun _ => rfl) rfl rfl

theorem StoreLaw.setMode (h : StoreLaw E s) (m : Mode) (cause : ModeCause) : StoreLaw E (setMode m cause s) :=
  h.congr rfl rfl (fun _ => rfl) rfl rfl

theorem StoreLaw.judgeHold (h : StoreLaw E s) : StoreLaw E (judgeHold s) :=
  h.congr (congrArg Asc.slots (judgeHold_asc s)) (congrArg (fun z => z.zones.length) (judgeHold_zrt s))
    (fun y => congrArg Zone.queue (zone_of_zones (congrArg Zrt.zones (judgeHold_zrt s)) y))
    (congrArg Zrt.sources (judgeHold_zrt s)) (congrArg Ple.channels (judgeHold_ple s))

theorem forEach_storeLaw {α : Type} {f : α → State → State} (h : ∀ x s, StoreLaw E s → StoreLaw E (f x s)) :
    ∀ (xs : List α) (s : State), StoreLaw E s → StoreLaw E (forEach xs f s)
  | [], _, hs => hs
  | x :: xs, s, hs => forEach_storeLaw h xs (f x s) (h x s hs)

/-! ### The freeing of a slot -/

theorem StoreLaw.take (h : StoreLaw E s) (z a : Nat) : StoreLaw (fun b => E b ∨ b = a) (takePlacement z a s) := by
  have hmem : ∀ y p, p ∈ ((takePlacement z a s).zone y).queue → p ∈ (s.zone y).queue := fun y p hp => by
    rw [takePlacement_zone] at hp
    split at hp
    · exact List.mem_of_mem_filter hp
    · exact hp
  exact
    { zones := (List.length_modify ..).trans h.zones
      sources := h.sources
      channels := h.channels
      queued := fun y p hp => h.queued y p (hmem y p hp)
      playing := h.playing
      voiced := h.voiced
      used := fun x hx hE => by
        obtain ⟨y, p, hp, ha⟩ | hrun := h.used x hx fun hx => hE (.inl hx)
        · refine .inl ⟨y, p, ?_, ha⟩
          rw [takePlacement_zone]
          split
          · exact List.mem_filter.mpr ⟨hp, by simpa [ha] using fun heq => hE (.inr heq)⟩
          · exact hp
        · exact .inr hrun }

end

/-- `t` has the sources of `s`, some of them fallen silent. -/
structure Hushes (s t : State) : Prop where
  state : ∀ n, (t.source n).state = (s.source n).state
  voice : ∀ n, (t.source n).voice = (s.source n).voice ∨ (t.source n).voice = .silent

theorem silence_source (n : Nat) (s : State) (m : Nat) : (silence n s).source m =
    if m = n ∧ m < s.zrt.sources.length then { s.source m with voice := .silent } else s.source m := by
  have hsource : (silence n s).source m = (setVoice n .silent s).source m := by
    unfold silence reportVoice
    split <;> rfl
  rw [hsource]
  unfold setVoice
  by_cases hm : m = n
  · subst hm
    by_cases hlt : m < s.zrt.sources.length
    · rw [source_modifySource_of_lt hlt, if_pos ⟨rfl, hlt⟩]
    · rw [if_neg fun h => hlt h.2]
      simp [State.source, State.modifySource, List.getD_eq_getElem?_getD, List.getElem?_eq_none (Nat.le_of_not_lt hlt)]
  · rw [source_modifySource_of_ne hm, if_neg fun h => hm h.1]

theorem silence_hushes (n : Nat) (s : State) : Hushes s (silence n s) where
  state m := by rw [silence_source]; split <;> rfl
  voice m := by
    rw [silence_source]
    split
    · exact .inr rfl
    · exact .inl rfl

theorem Hushes.trans {s t u : State} (h : Hushes s t) (g : Hushes t u) : Hushes s u where
  state n := (g.state n).trans (h.state n)
  voice n := by
    obtain hg | hg := g.voice n
    · rw [hg]; exact h.voice n
    · exact .inr hg

theorem Hushes.rfl (s : State) : Hushes s s := ⟨fun _ => Eq.refl _, fun _ => .inl (Eq.refl _)⟩

/-- A voice that is still heard was heard before. -/
theorem Hushes.voiced {s t : State} (h : Hushes s t) {n a : Nat} (ht : (t.source n).voice = .voiced a) :
    (s.source n).voice = .voiced a := by
  obtain hv | hv := h.voice n
  · exact hv.symm.trans ht
  · rw [hv] at ht; cases ht

/-- The step of `silenceVoices` for source `n`. -/
def silenceVoice (a n : Nat) (s : State) : State :=
  if (s.source n).state = .active ∧ (s.source n).voice = .voiced a then silence n s else s

theorem silenceVoice_hushes (a n : Nat) (s : State) : Hushes s (silenceVoice a n s) := by
  unfold silenceVoice
  split
  · exact silence_hushes n s
  · exact .rfl s

theorem silenceVoice_self (a n : Nat) (s : State) (hstate : ((silenceVoice a n s).source n).state = .active) :
    ((silenceVoice a n s).source n).voice ≠ .voiced a := by
  intro hvoice
  have hbefore := (silenceVoice_hushes a n s).voiced hvoice
  rw [(silenceVoice_hushes a n s).state] at hstate
  unfold silenceVoice at hvoice
  rw [if_pos ⟨hstate, hbefore⟩, silence_source] at hvoice
  split at hvoice
  · cases hvoice
  next hlt =>
    have hle : s.zrt.sources.length ≤ n := Nat.le_of_not_lt fun h => hlt ⟨rfl, h⟩
    rw [State.source, List.getD_eq_default _ _ hle] at hstate
    cases hstate

theorem forEach_silenceVoice (a : Nat) : ∀ (ns : List Nat) (s : State), Hushes s (forEach ns (silenceVoice a) s) ∧
    ∀ n ∈ ns, ((forEach ns (silenceVoice a) s).source n).state = .active →
      ((forEach ns (silenceVoice a) s).source n).voice ≠ .voiced a
  | [], s => ⟨.rfl s, fun _ h => absurd h List.not_mem_nil⟩
  | m :: ns, s => by
    obtain ⟨hh, hn⟩ := forEach_silenceVoice a ns (silenceVoice a m s)
    refine ⟨(silenceVoice_hushes a m s).trans hh, fun n hmem hstate => ?_⟩
    rcases List.mem_cons.mp hmem with rfl | hmem
    · intro hvoice
      exact silenceVoice_self a n s ((hh.state n).symm.trans hstate) (hh.voiced hvoice)
    · exact hn n hmem hstate

theorem silenceVoices_spec (a : Nat) (s : State) : Hushes s (silenceVoices a s) ∧
    ∀ n < Config.maxSources, ((silenceVoices a s).source n).state = .active →
      ((silenceVoices a s).source n).voice ≠ .voiced a := by
  obtain ⟨hh, hn⟩ := forEach_silenceVoice a allSources s
  exact ⟨hh, fun n hlt => hn n (List.mem_range.mpr hlt)⟩

theorem slot?_eq_none_of_removed {s : State} {a : Nat} : (removeSlot a s).slot? a = none := by
  unfold State.slot? removeSlot
  exact List.find?_eq_none.mpr fun x hx => by simpa using (List.mem_filter.mp hx).2

section
variable {E : Nat → Prop} {s : State}

/-- Stored announcements, runs and placements do not name one that is out of use. -/
theorem StoreLaw.freeIfDone {a : Nat} (h : StoreLaw (fun b => E b ∨ b = a) s) : StoreLaw E (freeIfDone a s) := by
  unfold Machine.freeIfDone
  split
  next hdone =>
    obtain ⟨-, hplaced, hplayed⟩ := hdone
    have hunused : ¬ Used s a := fun h => by
      rw [used_iff] at h
      omega
    obtain ⟨hhush, hsilent⟩ := silenceVoices_spec a (removeSlot a s)
    have hasc := silenceVoices_asc a (removeSlot a s)
    have hple := (silenceVoices_keepsRuns a (removeSlot a s)).ple
    have hzones := silenceVoices_zones a (removeSlot a s)
    have hsources := (silenceVoices_settles a (removeSlot a s)).toPlays.sameSites.sources
    generalize silenceVoices a (removeSlot a s) = t at *
    have hzone : ∀ y, t.zone y = s.zone y := fun y => zone_of_zones hzones y
    have hchannel : ∀ c, t.channel c = s.channel c := fun c => by unfold State.channel; rw [hple]; rfl
    have hstored : ∀ b prio, b ≠ a → Stored s b prio → Stored t b prio := by
      rintro b prio hb ⟨x, hx, hp⟩
      refine ⟨x, ?_, hp⟩
      unfold State.slot? at hx ⊢
      rw [hasc]
      exact (slot?_removeSlot_of_ne hb s).trans hx
    exact
      { zones := (congrArg List.length hzones).trans h.zones
        sources := hsources.trans h.sources
        channels := (congrArg (fun p => p.channels.length) hple).trans h.channels
        queued := fun y p hp => by
          rw [hzone] at hp
          exact hstored _ _ (fun heq => hunused (.inl ⟨y, p, hp, heq⟩)) (h.queued y p hp)
        playing := fun c r hr => by
          rw [hchannel] at hr
          obtain ⟨hst, hzs⟩ := h.playing c r hr
          exact ⟨hstored _ _ (fun heq => hunused (.inr ⟨c, r, hr, heq⟩)) hst, hzs⟩
        voiced := fun n b hstate hvoice => by
          have hn : n < Config.maxSources := by
            by_contra hle
            rw [State.source, List.getD_eq_default _ _ (by rw [hsources]; exact h.sources ▸ Nat.le_of_not_lt hle)] at hstate
            cases hstate
          have hb : b ≠ a := fun heq => hsilent n hn hstate (heq ▸ hvoice)
          exact hstored b 7 hb (h.voiced n b ((hhush.state n).symm.trans hstate) (hhush.voiced hvoice))
        used := fun x hx hE => by
          rw [hasc] at hx
          obtain ⟨hx, hid⟩ := List.mem_filter.mp hx
          obtain ⟨y, p, hp, ha⟩ | ⟨c, r, hr, ha⟩ := h.used x hx fun hc => hc.elim hE (by simpa using hid)
          · exact .inl ⟨y, p, (hzone y).symm ▸ hp, ha⟩
          · exact .inr ⟨c, r, (hchannel c).trans hr, ha⟩ }
  next hkept =>
    refine { h with used := fun x hx hE => ?_ }
    by_cases hxa : x.id = a
    · by_contra hunused
      rw [used_iff, not_or, hxa] at hunused
      refine hkept ⟨?_, by omega, by omega⟩
      exact List.find?_isSome.mpr ⟨x, hx, by simpa using hxa⟩
    · exact h.used x hx fun hc => hc.elim hE hxa

theorem StoreLaw.drop (h : StoreLaw E s) (z : Nat) (reason : DropReason) (p : Placement) :
    StoreLaw E (dropPlacement z reason p s) :=
  ((h.take z p.announcement).generate _).freeIfDone.judgeHold

theorem StoreLaw.dropWhere (h : StoreLaw E s) (z : Nat) (reason : DropReason) (which : Placement → Bool) :
    StoreLaw E (dropWhere z reason which s) :=
  forEach_storeLaw (fun p _ hs => hs.drop z reason p) _ s h

theorem StoreLaw.dropForNight (h : StoreLaw E s) : StoreLaw E (dropForNight s) := by
  unfold Machine.dropForNight
  exact forEach_storeLaw (fun z _ hs => hs.dropWhere z .night _) _ s h

theorem StoreLaw.enterNight (h : StoreLaw E s) (cause : ModeCause) : StoreLaw E (enterNight cause s) :=
  h.dropForNight.setMode _ _

theorem StoreLaw.enterNightAlert (h : StoreLaw E s) (cause : ModeCause) : StoreLaw E (enterNightAlert cause s) :=
  (h.dropForNight.setMode _ _).judgeHold

theorem StoreLaw.windingTest (h : StoreLaw E s) : StoreLaw E (windingTest s) := by
  unfold Machine.windingTest
  split
  · split
    · exact h.enterNight _
    · exact h.enterNightAlert _
  · exact h

theorem StoreLaw.emergencyEvent (h : StoreLaw E s) : StoreLaw E (emergencyEvent s) := by
  unfold Machine.emergencyEvent
  split
  · exact h
  · exact h
  · exact h.setMode _ _
  · exact h.setMode _ _
  · exact h
  · exact h.judgeHold

/-! ### A placement that enters a queue -/

theorem slot?_dropPlacement_of_ne {b : Nat} {p : Placement} (h : b ≠ p.announcement) (z : Nat) (reason : DropReason)
    (s : State) : (dropPlacement z reason p s).slot? b = s.slot? b := by
  have hasc : (dropPlacement z reason p s).asc =
      (Machine.freeIfDone p.announcement (generate (dropNotice z p reason) (takePlacement z p.announcement s))).asc :=
    judgeHold_asc _
  unfold State.slot?
  rw [hasc]
  obtain hkept | ⟨-, -, hfreed⟩ := freeIfDone_asc p.announcement
    (generate (dropNotice z p reason) (takePlacement z p.announcement s))
  · rw [hkept]; rfl
  · rw [hfreed]
    exact slot?_removeSlot_of_ne h _

/-- What is stored with the newcomer's priority is not the victim of its entry. -/
theorem StoreLaw.stored_makeRoom (h : StoreLaw E s) {a prio : Nat} (z : Nat) (ha : Stored s a prio) :
    Stored (makeRoom z prio s) a prio := by
  unfold makeRoom
  split
  · exact ha
  · split
    next v hv =>
      obtain ⟨hmem, hlow⟩ := queueVictim_mem hv
      have hne : a ≠ v.announcement := fun heq => by
        have hsame := (heq ▸ ha : Stored s v.announcement prio).unique (h.queued z v hmem)
        omega
      obtain ⟨x, hx, hp⟩ := ha
      exact ⟨x, (slot?_dropPlacement_of_ne hne ..).trans hx, hp⟩
    · exact ha

theorem StoreLaw.makeRoom (h : StoreLaw E s) (z p : Nat) : StoreLaw E (makeRoom z p s) := by
  unfold Machine.makeRoom
  split
  · exact h
  · split
    · exact h.drop z .displaced _
    · exact h

theorem enterQueue_asc (z : Nat) (p : Placement) (s : State) : (enterQueue z p s).asc = (Machine.makeRoom z p.priority s).asc :=
  judgeHold_asc _

theorem stored_of_asc {t : State} (h : t.asc = s.asc) {a prio : Nat} (ha : Stored s a prio) : Stored t a prio :=
  (stored_congr (congrArg Asc.slots h) a prio).mpr ha

theorem StoreLaw.stored_enterQueue (h : StoreLaw E s) {a prio : Nat} (ha : Stored s a prio) (z : Nat) {p : Placement}
    (hp : p.priority = prio) : Stored (Machine.enterQueue z p s) a prio := by
  subst hp
  exact stored_of_asc (enterQueue_asc z p s) (h.stored_makeRoom z ha)

/-- Where it enters, a placement stands beside what room was made of. -/
theorem mem_enterQueue_zone {z y : Nat} {p q : Placement} (h : q ∈ ((enterQueue z p s).zone y).queue) :
    (y = z ∧ q = p) ∨ q ∈ ((Machine.makeRoom z p.priority s).zone y).queue := by
  rw [enterQueue_zone] at h
  split at h
  next hyz =>
    rcases mem_insertPlacement.mp h with hq | hq
    · exact .inl ⟨hyz.1, hq⟩
    · exact .inr hq
  · exact .inr h

theorem mem_enterQueue_of_mem {z y : Nat} {p q : Placement} (h : q ∈ ((Machine.makeRoom z p.priority s).zone y).queue) :
    q ∈ ((enterQueue z p s).zone y).queue := by
  rw [enterQueue_zone]
  split
  · exact mem_insertPlacement.mpr (.inr h)
  · exact h

theorem StoreLaw.enterQueue (h : StoreLaw E s) (z : Nat) {p : Placement} (hp : Stored s p.announcement p.priority) :
    StoreLaw E (enterQueue z p s) := by
  have hm := h.makeRoom z p.priority
  have hasc := enterQueue_asc z p s
  have hple : (Machine.enterQueue z p s).ple = (Machine.makeRoom z p.priority s).ple := judgeHold_ple _
  have hsrc : (Machine.enterQueue z p s).zrt.sources = (Machine.makeRoom z p.priority s).zrt.sources := by
    unfold Machine.enterQueue
    rw [judgeHold_zrt]
    rfl
  have hlen : (Machine.enterQueue z p s).zrt.zones.length = (Machine.makeRoom z p.priority s).zrt.zones.length := by
    unfold Machine.enterQueue
    rw [judgeHold_zrt]
    exact List.length_modify ..
  have hstored : ∀ {a prio}, Stored (Machine.makeRoom z p.priority s) a prio → Stored (Machine.enterQueue z p s) a prio :=
    fun h => stored_of_asc hasc h
  have hsource : ∀ n, (Machine.enterQueue z p s).source n = (Machine.makeRoom z p.priority s).source n := fun n => by
    unfold State.source; rw [hsrc]
  have hchannel : ∀ c, (Machine.enterQueue z p s).channel c = (Machine.makeRoom z p.priority s).channel c := fun c => by
    unfold State.channel; rw [hple]
  exact
    { zones := hlen.trans hm.zones
      sources := (congrArg List.length hsrc).trans hm.sources
      channels := (congrArg (fun p => p.channels.length) hple).trans hm.channels
      queued := fun y q hq => by
        obtain ⟨-, rfl⟩ | hq := mem_enterQueue_zone hq
        · exact hstored (h.stored_makeRoom z hp)
        · exact hstored (hm.queued y q hq)
      playing := fun c r hr => by
        obtain ⟨hst, hzs⟩ := hm.playing c r ((hchannel c).symm.trans hr)
        exact ⟨hstored hst, hzs⟩
      voiced := fun n a hstate hvoice => hstored (hm.voiced n a (hsource n ▸ hstate) (hsource n ▸ hvoice))
      used := fun x hx hE => by
        obtain ⟨y, q, hq, ha⟩ | ⟨c, r, hr, ha⟩ := hm.used x (hasc ▸ hx) hE
        · exact .inl ⟨y, q, mem_enterQueue_of_mem hq, ha⟩
        · exact .inr ⟨c, r, (hchannel c).trans hr, ha⟩ }

theorem StoreLaw.enterNew (h : StoreLaw E s) (z : Nat) {p : Placement} (hp : Stored s p.announcement p.priority) :
    StoreLaw E (enterNew z p s) := by
  have hadvanced : StoreLaw E (advanceStamp s) := h.congr rfl rfl (fun _ => rfl) rfl rfl
  exact hadvanced.enterQueue z hp

theorem stored_of_coveredWith (h : StoreLaw E s) {z a : Nat} (hc : coveredWith s z a = true) : Stored s a 7 := by
  unfold coveredWith at hc
  split at hc
  next n _ =>
    simp only [Bool.and_eq_true, decide_eq_true_eq] at hc
    exact h.voiced n a hc.1 hc.2
  · cases hc

theorem StoreLaw.makeCoverage (h : StoreLaw E s) {z a : Nat} (hc : Stored s a 7) : StoreLaw E (makeCoverage z a s) := by
  unfold Machine.makeCoverage
  split
  · exact (h.enterNew z (p := coveragePlacement a) hc).emergencyEvent
  · exact h.generate _

/-! ### The end of a part, and of a run -/

theorem StoreLaw.takeRestored (h : StoreLaw E s) (z : Nat) {p : Placement} (marked : Bool)
    (hp : Stored s p.announcement p.priority) : StoreLaw E (takeRestored z p marked s).2 := by
  unfold Machine.takeRestored
  split
  · exact h.generate _
  · exact h.enterQueue z (p := { p with condition := _, interrupted := 1 }) hp

theorem StoreLaw.takeRepeat (h : StoreLaw E s) (z : Nat) {p : Placement} (left : Repeats) (notBefore : RunTime)
    (marked : Bool) (hp : Stored s p.announcement p.priority) : StoreLaw E (takeRepeat z p left notBefore marked s).2 := by
  unfold Machine.takeRepeat
  split
  · exact h.generate _
  · exact h.enterNew z (p := { p with condition := .resting notBefore, repeats := left }) hp

theorem StoreLaw.disposePlacement (h : StoreLaw E s) (z : Nat) {a : Attached} (o : RunOutcome) (discard : Bool)
    (hp : Stored s a.placement.announcement a.placement.priority) : StoreLaw E (disposePlacement z a o discard s).2 := by
  unfold Machine.disposePlacement
  dsimp only
  split
  · exact h.takeRestored z _ hp
  · split
    · exact h
    · exact h.takeRestored z _ hp
  · split
    · exact h.takeRepeat z _ _ _ hp
    · split
      · exact h
      · exact h.takeRepeat z _ _ _ hp

/-- A run that goes on, of the same announcement, with no more zones than it had. -/
theorem StoreLaw.setChannel (h : StoreLaw E s) {c : Nat} {r r' : Run} (hr : s.channel c = some r)
    (hann : r'.announcement = r.announcement) (hprio : r'.priority = r.priority)
    (hzones : ∀ a ∈ r'.zones, ∃ b ∈ r.zones, a.placement = b.placement) : StoreLaw E (s.setChannel c (some r')) := by
  have hlt := lt_of_channel hr
  refine { h with channels := (List.length_set ..).trans h.channels, playing := fun d q hq => ?_, used := fun x hx hE => ?_ }
  · by_cases hd : d = c
    · subst hd
      rw [channel_setChannel hlt] at hq
      cases hq
      obtain ⟨hst, hzs⟩ := h.playing d r hr
      refine ⟨by rw [hann, hprio]; exact hst, fun a ha => ?_⟩
      obtain ⟨b, hb, hab⟩ := hzones a ha
      rw [hab, hann, hprio]
      exact hzs b hb
    · rw [channel_setChannel_ne s hd] at hq
      exact h.playing d q hq
  · obtain hplaced | ⟨d, q, hq, ha⟩ := h.used x hx hE
    · exact .inl hplaced
    · by_cases hd : d = c
      · subst hd
        rw [hr] at hq
        cases hq
        exact .inr ⟨d, r', channel_setChannel hlt _, hann.trans ha⟩
      · exact .inr ⟨d, q, (channel_setChannel_ne s hd _).trans hq, ha⟩

theorem modifyZone_queue {f : Zone → Zone} (hf : ∀ zn, (f zn).queue = zn.queue) (z : Nat) (s : State) (y : Nat) :
    ((s.modifyZone z f).zone y).queue = (s.zone y).queue := by
  rw [zone_modifyZone]
  split
  · exact hf _
  · rfl

theorem StoreLaw.endPart (h : StoreLaw E s) (c : Nat) (o : RunOutcome) (discard : Bool) (z : Nat) :
    StoreLaw E (endPart c o discard z s) := by
  cases hattached : attachedTo s z c with
  | false => rwa [endPart_of_detached hattached]
  | true =>
    obtain ⟨r, a, hr, ha⟩ := attachedTo_eq_true.mp hattached
    have hmem : a ∈ r.zones := List.mem_of_find?_eq_some ha
    obtain ⟨hst, hzs⟩ := h.playing c r hr
    obtain ⟨hann, hprio⟩ := hzs a hmem
    rw [endPart_eq hr ha rfl]
    have hdetached : StoreLaw E (detachZone c z r s) :=
      (h.setChannel hr (r' := { r with zones := r.zones.filter (fun a => a.zone != z) }) rfl rfl
        fun b hb => ⟨b, List.mem_of_mem_filter hb, rfl⟩).congr rfl (List.length_modify ..)
        (fun y => modifyZone_queue (f := fun zn => { zn with pulseEnd := none }) (fun _ => rfl) z _ y) rfl rfl
    have hstored : Stored (detachZone c z r s) a.placement.announcement a.placement.priority := by
      rw [hann, hprio]; exact hst
    have hdisposed := hdetached.disposePlacement z o discard hstored
    have hresumed : StoreLaw E (resumeCoverage z r.announcement a discard
        (Machine.disposePlacement z a o discard (detachZone c z r s)).2) := by
      unfold resumeCoverage
      split
      next hc => exact hdisposed.makeCoverage (stored_of_coveredWith hdisposed hc.2.2.1)
      · exact hdisposed
    unfold recordLeft
    split
    next q hq => exact hresumed.setChannel hq rfl rfl fun b hb => ⟨b, hb, rfl⟩
    · exact hresumed

/-- A channel let go, and its announcement's slot freed where nothing of it is left. -/
theorem StoreLaw.idled (h : StoreLaw E s) {c : Nat} {r : Run} (hr : s.channel c = some r) :
    StoreLaw E (Machine.freeIfDone r.announcement (s.setChannel c none)) := by
  have hlt := lt_of_channel hr
  have hempty : StoreLaw (fun b => E b ∨ b = r.announcement) (s.setChannel c none) := by
    refine { h with channels := (List.length_set ..).trans h.channels, playing := fun d q hq => ?_, used := fun x hx hE => ?_ }
    · by_cases hd : d = c
      · subst hd; rw [channel_setChannel hlt] at hq; cases hq
      · rw [channel_setChannel_ne s hd] at hq; exact h.playing d q hq
    · obtain hplaced | ⟨d, q, hq, ha⟩ := h.used x hx fun hx => hE (.inl hx)
      · exact .inl hplaced
      · refine .inr ⟨d, q, ?_, ha⟩
        by_cases hd : d = c
        · subst hd
          rw [hr] at hq
          cases hq
          exact absurd ha.symm fun hc => hE (.inr hc)
        · exact (channel_setChannel_ne s hd _).trans hq
  exact hempty.freeIfDone

theorem StoreLaw.channelIdle (h : StoreLaw E s) (c : Nat) (o : RunOutcome) : StoreLaw E (channelIdle c o s) := by
  unfold Machine.channelIdle
  split
  · exact h
  next r hr => exact (h.idled hr).judgeHold.windingTest.generate _

end

end Sys2Proof.Machine


/-! PROOFS. The law of the store through a creation (R81 to R83, R97), the start of a run (R126), withdrawals and the
rollover's reduction of latest starts. -/

namespace Sys2Proof.Machine

open Sys2Proof.Claims

section
variable {E : Nat → Prop} {s : State}

/-! ### The slot of a new announcement -/

/-- No placement of a victim stays in the queues. -/
theorem dropEverywhere_queue_ne (a : Nat) (reason : DropReason) (s : State) {y : Nat} (hy : y < 40) :
    ∀ p ∈ ((dropEverywhere a reason s).zone y).queue, p.announcement ≠ a := by
  have hpass : ∀ (zs : List Nat) (s : State), y ∈ zs →
      ∀ p ∈ ((forEach zs (fun z => dropWhere z reason (fun p => p.announcement == a)) s).zone y).queue,
        p.announcement ≠ a := by
    intro zs
    induction zs with
    | nil => exact fun _ h => absurd h List.not_mem_nil
    | cons z zs ih =>
      intro s hmem p hp
      by_cases hin : y ∈ zs
      · exact ih _ hin p hp
      · have hyz : y = z := (List.mem_cons.mp hmem).resolve_right hin
        subst hyz
        have hsub := forEach_queue_sublist (f := fun z => dropWhere z reason (fun p => p.announcement == a))
          (fun z s w => dropWhere_queue_sublist z reason _ s w) zs (dropWhere y reason (fun p => p.announcement == a) s) y
        have := (dropWhere_queue_none (hsub.subset hp)).2
        simpa using this
  exact hpass allZones s (List.mem_range.mpr hy)

theorem StoreLaw.dropEverywhere (h : StoreLaw E s) (a : Nat) (reason : DropReason) :
    StoreLaw E (dropEverywhere a reason s) := by
  unfold Machine.dropEverywhere
  exact forEach_storeLaw (fun z _ hs => hs.dropWhere z reason _) _ s h

theorem StoreLaw.zone_lt (h : StoreLaw E s) {y : Nat} {p : Placement} (hp : p ∈ (s.zone y).queue) : y < 40 := by
  have hlen : s.zrt.zones.length = 40 := h.zones
  by_contra hy
  rw [zone_of_le (by omega)] at hp
  cases hp

/-- A victim of a full store that does not play is gone with its placements: its slot has been freed by the last drop. -/
theorem StoreLaw.removed_victim (h : StoreLaw (fun _ => False) s) {a : Nat} (hrun : runCount s a = 0) (reason : DropReason) :
    removeSlot a (Machine.dropEverywhere a reason s) = Machine.dropEverywhere a reason s := by
  have hlaw := h.dropEverywhere a reason
  have hple := (dropEverywhere_keepsRuns a reason s).ple
  have hqueue : ∀ {y}, y < 40 → ∀ p ∈ ((Machine.dropEverywhere a reason s).zone y).queue, p.announcement ≠ a :=
    dropEverywhere_queue_ne a reason s
  generalize Machine.dropEverywhere a reason s = t at *
  have hunused : ¬ Used t a := by
    rintro (⟨y, p, hp, ha⟩ | hplays)
    · exact hqueue (hlaw.zone_lt hp) p hp ha
    · rw [← runCount_pos_iff] at hplays
      have hsame : runCount t a = runCount s a := by unfold runCount runs; rw [hple]
      omega
  have hslots : t.asc.slots.filter (fun x => x.id != a) = t.asc.slots :=
    List.filter_eq_self.mpr fun x hx => by
      simpa using fun heq : x.id = a => hunused (heq ▸ hlaw.used x hx id)
  unfold removeSlot
  rw [hslots]
  rfl

theorem StoreLaw.makeSlot (h : StoreLaw (fun _ => False) s) (p : Nat) : StoreLaw (fun _ => False) (makeSlot p s) := by
  unfold Machine.makeSlot
  split
  · exact h
  · split
    next v hv =>
      rw [h.removed_victim (storeVictim_mem hv).2.2]
      exact h.dropEverywhere _ _
    · exact h

/-! ### Its placements -/

/-- The placements of an announcement in the store outlast the room made for one of its priority. -/
theorem StoreLaw.used_makeRoom (h : StoreLaw E s) {a prio : Nat} (z : Nat) (ha : Stored s a prio) (hu : Used s a) :
    Used (Machine.makeRoom z prio s) a := by
  unfold Machine.makeRoom
  split
  · exact hu
  · split
    next v hv =>
      obtain ⟨hmem, hlow⟩ := queueVictim_mem hv
      have hne : a ≠ v.announcement := fun heq => by
        have hsame := (heq ▸ ha : Stored s v.announcement prio).unique (h.queued z v hmem)
        omega
      obtain ⟨y, p, hp, hann⟩ | ⟨c, r, hr, hann⟩ := hu
      · refine .inl ⟨y, p, ?_, hann⟩
        rw [dropPlacement_zone]
        split
        · exact List.mem_filter.mpr ⟨hp, by simpa [hann] using hne⟩
        · exact hp
      · exact .inr ⟨c, r, ((dropPlacement_keepsRuns z .displaced v s).channel c).trans hr, hann⟩
    · exact hu

theorem used_enterQueue {a z : Nat} {p : Placement} (h : Used (Machine.makeRoom z p.priority s) a) :
    Used (Machine.enterQueue z p s) a := by
  have hple : (Machine.enterQueue z p s).ple = (Machine.makeRoom z p.priority s).ple := judgeHold_ple _
  obtain ⟨y, q, hq, hann⟩ | ⟨c, r, hr, hann⟩ := h
  · exact .inl ⟨y, q, mem_enterQueue_of_mem hq, hann⟩
  · exact .inr ⟨c, r, by unfold State.channel; rw [hple]; exact hr, hann⟩

/-- A placement that enters a zone of the station makes its announcement used. -/
theorem used_of_enterQueue {z : Nat} {p : Placement} (hz : z < s.zrt.zones.length) :
    Used (Machine.enterQueue z p s) p.announcement :=
  .inl ⟨z, p, (by rw [enterQueue_zone, if_pos ⟨rfl, hz⟩]; exact mem_insertPlacement.mpr (.inl rfl)), rfl⟩

/-- What holds as an announcement is placed zone by zone: it alone may be without a placement, until it has one. -/
structure Placing (x : Slot) (cs : Counts × State) : Prop where
  law : StoreLaw (fun b => b = x.id) cs.2
  stored : Stored cs.2 x.id x.priority
  used : 0 < cs.1.placed → Used cs.2 x.id

theorem placeIn_placing {x : Slot} {cs : Counts × State} {z : Nat} (hz : z < 40) (h : Placing x cs) :
    Placing x (placeIn x cs z) := by
  obtain ⟨c, s⟩ := cs
  unfold placeIn
  dsimp only
  split
  · exact h
  · split
    · exact ⟨h.law.generate _, h.stored, h.used⟩
    · have hadvanced : StoreLaw (fun b => b = x.id) (advanceStamp s) :=
        h.law.congr rfl rfl (fun _ => rfl) rfl rfl
      exact
        { law := h.law.enterNew z (p := newPlacement s x z) h.stored
          stored := hadvanced.stored_enterQueue (p := { newPlacement s x z with stamp := s.zrt.stampCounter })
            h.stored z rfl
          used := fun _ => used_of_enterQueue (p := { newPlacement s x z with stamp := s.zrt.stampCounter })
            (show z < s.zrt.zones.length from h.law.zones ▸ hz) }

theorem foldl_placeIn_placing {x : Slot} : ∀ {zs : List Nat} {cs : Counts × State}, (∀ z ∈ zs, z < 40) → Placing x cs →
    Placing x (zs.foldl (placeIn x) cs)
  | [], _, _, h => h
  | z :: zs, _, hzs, h => by
    obtain ⟨hz, hrest⟩ := List.forall_mem_cons.mp hzs
    exact foldl_placeIn_placing (cs := placeIn _ _ z) hrest (placeIn_placing hz h)

/-- A creation that places nothing has only reported refusals. -/
theorem foldl_placeIn_unplaced {x : Slot} : ∀ {zs : List Nat} {cs : Counts × State},
    (zs.foldl (placeIn x) cs).1.placed = 0 → cs.1.placed = 0 ∧ (zs.foldl (placeIn x) cs).2.asc = cs.2.asc ∧
      (zs.foldl (placeIn x) cs).2.zrt = cs.2.zrt ∧ (zs.foldl (placeIn x) cs).2.ple = cs.2.ple ∧
      (zs.foldl (placeIn x) cs).2.smc = cs.2.smc
  | [], _, h => ⟨h, rfl, rfl, rfl, rfl⟩
  | z :: zs, (c, s), h => by
    obtain ⟨hplaced, hasc, hzrt, hple, hsmc⟩ := foldl_placeIn_unplaced (zs := zs) h
    rw [List.foldl_cons, hasc, hzrt, hple, hsmc]
    unfold placeIn at hplaced ⊢
    dsimp only at hplaced ⊢
    split at hplaced
    next hdeferred =>
      rw [if_pos hdeferred]
      exact ⟨hplaced, rfl, rfl, rfl, rfl⟩
    next hdeferred =>
      rw [if_neg hdeferred]
      split at hplaced
      · exact ⟨hplaced, rfl, rfl, rfl, rfl⟩
      · exact absurd hplaced (Nat.succ_ne_zero _)

theorem lt_of_mem_targetSet {target : List Pair} {z : Nat} (h : z ∈ targetSet s target) : z < 40 :=
  List.mem_range.mp (List.mem_of_mem_filter h)

/-! ### A creation -/

theorem slot?_recordSlot_of_some {a b : Nat} {x y : Slot} (h : s.slot? b = some x) :
    (recordSlot y a s).slot? b = some x := by
  unfold State.slot? at h ⊢
  exact (List.find?_append ..).trans (by rw [h]; rfl)

theorem slot?_recordSlot_self {a : Nat} {y : Slot} (h : s.slot? a = none) :
    (recordSlot y a s).slot? a = some { y with id := a, seq := s.asc.created } := by
  unfold State.slot? at h ⊢
  refine (List.find?_append ..).trans ?_
  rw [h]
  simp

/-- The new announcement is in the store, without a placement as yet. -/
theorem recordSlot_placing (h : StoreLaw (fun _ => False) s) {a : Nat} (ha : s.slot? a = none) (x : Slot) :
    Placing { x with id := a } (noCounts, recordSlot x a s) where
  law :=
    { zones := h.zones
      sources := h.sources
      channels := h.channels
      queued := fun y p hp => by
        obtain ⟨e, he, hprio⟩ := h.queued y p hp
        exact ⟨e, slot?_recordSlot_of_some he, hprio⟩
      playing := fun c r hr => by
        obtain ⟨⟨e, he, hprio⟩, hzs⟩ := h.playing c r hr
        exact ⟨⟨e, slot?_recordSlot_of_some he, hprio⟩, hzs⟩
      voiced := fun n b hstate hvoice => by
        obtain ⟨e, he, hprio⟩ := h.voiced n b hstate hvoice
        exact ⟨e, slot?_recordSlot_of_some he, hprio⟩
      used := fun e he hne => by
        rcases List.mem_append.mp he with he | he
        · exact h.used e he id
        · rw [List.mem_singleton.mp he] at hne
          exact absurd rfl hne }
  stored := ⟨_, slot?_recordSlot_self ha, rfl⟩
  used h := absurd h (Nat.lt_irrefl 0)

theorem nextId_fresh {p : Nat} (ha : slotAvailable s p = true) (hs : s.asc.slots.length ≤ 64) :
    (Machine.makeSlot p s).slot? (nextId (Machine.makeSlot p s)) = none := by
  have hlt : (Machine.makeSlot p s).asc.slots.length < 64 := makeSlot_length ha hs
  exact Option.isNone_iff_eq_none.mp (nextId_spec (by omega)).1

/-- A creation keeps the law of the store, and what it keeps is in the store with its priority (R81, R84). -/
theorem StoreLaw.create (h : StoreLaw (fun _ => False) s) (hs : s.asc.slots.length ≤ 64) (x : Slot) :
    StoreLaw (fun _ => False) (create x s).2 ∧ ∀ a n, (create x s).1 = .kept a n → Stored (create x s).2 a x.priority := by
  unfold Machine.create
  split
  next hslot =>
    have hmade := h.makeSlot x.priority
    have hfresh := nextId_fresh hslot hs
    dsimp only
    generalize Machine.makeSlot x.priority s = m at *
    generalize nextId m = a at *
    have hplaced : Placing { x with id := a } (placeAll { x with id := a } (recordSlot x a m)) :=
      foldl_placeIn_placing (fun z hz => lt_of_mem_targetSet hz) (recordSlot_placing hmade hfresh x)
    split
    next hpos =>
      refine ⟨{ hplaced.law with used := fun y hy _ => ?_ }, fun b n hb => ?_⟩
      · by_cases hya : y.id = a
        · exact hya ▸ hplaced.used hpos
        · exact hplaced.law.used y hy hya
      · cases hb
        exact hplaced.stored
    next hzero =>
      obtain ⟨-, hasc, hzrt, hple, -⟩ := foldl_placeIn_unplaced (x := { x with id := a })
        (zs := targetSet (recordSlot x a m) x.target) (cs := (noCounts, recordSlot x a m)) (Nat.eq_zero_of_not_pos hzero)
      refine ⟨hmade.congr ?_ (congrArg (fun z => z.zones.length) hzrt)
        (fun y => congrArg Zone.queue (zone_of_zones (congrArg Zrt.zones hzrt) y)) (congrArg Zrt.sources hzrt)
        (congrArg Ple.channels hple), fun b n hb => by cases hb⟩
      have hslots : (removeSlot a (placeAll { x with id := a } (recordSlot x a m)).2).asc.slots =
          (m.asc.slots ++ [{ x with id := a, seq := m.asc.created }]).filter (fun y => y.id != a) :=
        congrArg (fun l : Asc => l.slots.filter (fun y : Slot => y.id != a)) hasc
      have hold : m.asc.slots.filter (fun y => y.id != a) = m.asc.slots :=
        List.filter_eq_self.mpr fun y hy => by simpa using List.find?_eq_none.mp hfresh y hy
      rw [hslots, List.filter_append, hold]
      simp
  · exact ⟨h, fun _ _ hk => by cases hk⟩

theorem source_setVoice (n : Nat) (v : Voice) (s : State) (m : Nat) : (setVoice n v s).source m =
    if m = n ∧ m < s.zrt.sources.length then { s.source m with voice := v } else s.source m := by
  unfold setVoice
  by_cases hm : m = n
  · subst hm
    by_cases hlt : m < s.zrt.sources.length
    · rw [source_modifySource_of_lt hlt, if_pos ⟨rfl, hlt⟩]
    · rw [if_neg fun h => hlt h.2]
      simp [State.source, State.modifySource, List.getD_eq_getElem?_getD, List.getElem?_eq_none (Nat.le_of_not_lt hlt)]
  · rw [source_modifySource_of_ne hm, if_neg fun h => hm h.1]

theorem StoreLaw.setVoice (h : StoreLaw E s) (n : Nat) {v : Voice} (hv : ∀ a, v = .voiced a → Stored s a 7) :
    StoreLaw E (setVoice n v s) :=
  { h with
    sources := (List.length_modify ..).trans h.sources
    voiced := fun m a hstate hvoice => by
      rw [source_setVoice] at hstate hvoice
      split at hvoice
      · exact hv a hvoice
      next hm => exact h.voiced m a (by rwa [if_neg hm] at hstate) hvoice }

theorem eq_kept_of_voiceOf {r : Created} {a : Nat} (h : voiceOf r = .voiced a) : ∃ n, r = .kept a n := by
  cases r with
  | kept b n => cases h; exact ⟨n, rfl⟩
  | storeFull | noTarget n => cases h

theorem StoreLaw.createEvac (h : StoreLaw (fun _ => False) s) (hs : s.asc.slots.length ≤ 64) (n : Nat) :
    StoreLaw (fun _ => False) (createEvac n s).2 := by
  obtain ⟨hlaw, hkept⟩ := h.create hs (evacProto s n)
  exact hlaw.setVoice n fun a ha => by
    obtain ⟨c, hr⟩ := eq_kept_of_voiceOf ha
    exact hkept a c hr

/-! ### The start of a run -/

theorem started_asc (c : Nat) (x : Slot) (zs : List Nat) (seized : Option Nat) (s : State) :
    (started c x zs seized s).asc = s.asc := by
  unfold started
  rw [generate_asc, judgeHold_asc]
  exact forEach_asc (f := fun z => takePlacement z x.id) (fun _ _ => rfl) zs s

theorem forEach_takePlacement_sources (a : Nat) : ∀ (zs : List Nat) (s : State),
    (forEach zs (fun z => takePlacement z a) s).zrt.sources = s.zrt.sources
  | [], _ => rfl
  | z :: zs, s => forEach_takePlacement_sources a zs (takePlacement z a s)

theorem started_sources (c : Nat) (x : Slot) (zs : List Nat) (seized : Option Nat) (s : State) :
    (started c x zs seized s).zrt.sources = s.zrt.sources := by
  unfold started
  rw [generate_zrt, judgeHold_zrt]
  exact forEach_takePlacement_sources x.id zs s

/-- The placement a starting run takes over is one of its announcement, and of its priority. -/
theorem StoreLaw.attachment (h : StoreLaw E s) {x : Slot} (hx : s.slot? x.id = some x) {zs : List Nat} {e : Attached}
    (he : e ∈ attachments s x.priority x.id zs) : e.placement.announcement = x.id ∧ e.placement.priority = x.priority := by
  obtain ⟨z, -, p, hp, rfl⟩ := mem_attachments he
  have hann : p.announcement = x.id := by simpa using List.find?_some hp
  have hstored := h.queued z p (List.mem_of_find?_eq_some hp)
  exact ⟨hann, (hann ▸ hstored : Stored s x.id p.priority).unique ⟨x, hx, rfl⟩⟩

theorem StoreLaw.started (h : StoreLaw E s) {c : Nat} {x : Slot} {zs : List Nat} (seized : Option Nat) (hc : c < 8)
    (hidle : s.channel c = none) (hx : s.slot? x.id = some x) : StoreLaw E (started c x zs seized s) := by
  set run := newRun s x (resolve s x) (attachments s x.priority x.id zs) with hrun
  have hasc := started_asc c x zs seized s
  have hsrc := started_sources c x zs seized s
  have hple : (Machine.started c x zs seized s).ple.channels = s.ple.channels.set c (some run) :=
    congrArg Ple.channels (started_ple c x zs seized s)
  have hlt : c < s.ple.channels.length := h.channels ▸ hc
  have hself : (Machine.started c x zs seized s).channel c = some run := by
    unfold State.channel; rw [hple]; exact channel_set_self hlt _
  have hother : ∀ d, d ≠ c → (Machine.started c x zs seized s).channel d = s.channel d := fun d hd => by
    unfold State.channel; rw [hple]; exact channel_set_ne hd _
  have hstored : ∀ {a prio}, Stored s a prio → Stored (Machine.started c x zs seized s) a prio :=
    fun ha => stored_of_asc hasc ha
  have hsource : ∀ n, (Machine.started c x zs seized s).source n = s.source n := fun n => by unfold State.source; rw [hsrc]
  exact
    { zones := (started_zones_length c x zs seized s).trans h.zones
      sources := (congrArg List.length hsrc).trans h.sources
      channels := (congrArg List.length hple).trans ((List.length_set ..).trans h.channels)
      queued := fun y p hp => by
        rw [started_zone] at hp
        split at hp
        · exact hstored (h.queued y p (List.mem_of_mem_filter hp))
        · exact hstored (h.queued y p hp)
      playing := fun d r hr => by
        by_cases hd : d = c
        · subst hd
          rw [hself] at hr
          cases hr
          exact ⟨hstored ⟨x, hx, rfl⟩, fun e he => h.attachment hx he⟩
        · rw [hother d hd] at hr
          obtain ⟨hst, hzs⟩ := h.playing d r hr
          exact ⟨hstored hst, hzs⟩
      voiced := fun n a hstate hvoice => hstored (h.voiced n a (hsource n ▸ hstate) (hsource n ▸ hvoice))
      used := fun e he hE => by
        by_cases hex : e.id = x.id
        · exact .inr ⟨c, run, hself, hex.symm⟩
        · obtain ⟨y, p, hp, hann⟩ | ⟨d, r, hr, hann⟩ := h.used e (hasc ▸ he) hE
          · refine .inl ⟨y, p, ?_, hann⟩
            rw [started_zone]
            split
            · exact List.mem_filter.mpr ⟨hp, by simpa [hann] using hex⟩
            · exact hp
          · refine .inr ⟨d, r, ?_, hann⟩
            rw [hother d fun hd => by rw [hd, hidle] at hr; cases hr]
            exact hr }

/-! ### Changes of slots and of queued placements -/

/-- A change of slots that keeps their ids and priorities. -/
theorem StoreLaw.mapSlots (h : StoreLaw E s) {f : Slot → Slot} (hf : ∀ x, (f x).id = x.id ∧ (f x).priority = x.priority) :
    StoreLaw E (s.withAsc { s.asc with slots := s.asc.slots.map f }) := by
  have hstored : ∀ {a prio}, Stored s a prio → Stored (s.withAsc { s.asc with slots := s.asc.slots.map f }) a prio := by
    rintro a prio ⟨x, hx, hprio⟩
    refine ⟨f x, ?_, (hf x).2.trans hprio⟩
    unfold State.slot? at hx ⊢
    refine (List.find?_map ..).trans ?_
    have hsame : (fun y : Slot => y.id == a) ∘ f = fun y => y.id == a := funext fun y => by simp [(hf y).1]
    rw [hsame, hx]
    rfl
  exact
    { h with
      queued := fun y p hp => hstored (h.queued y p hp)
      playing := fun c r hr => ⟨hstored (h.playing c r hr).1, (h.playing c r hr).2⟩
      voiced := fun n a hstate hvoice => hstored (h.voiced n a hstate hvoice)
      used := fun x hx hE => by
        obtain ⟨y, hy, rfl⟩ := List.mem_map.mp hx
        rw [(hf y).1] at hE ⊢
        exact h.used y hy hE }

theorem StoreLaw.withdrawn (h : StoreLaw E s) (a : Nat) :
    StoreLaw E (s.modifySlot a (fun x => { x with withdrawn := true })) :=
  h.mapSlots fun x => by split <;> exact ⟨rfl, rfl⟩

theorem StoreLaw.latest (h : StoreLaw E s) (limit : Nat) : StoreLaw E (reduceLatest limit s) :=
  h.mapSlots fun x => by split <;> exact ⟨rfl, rfl⟩

/-- A change of a zone's record under which its placements stay those of their announcements. -/
theorem StoreLaw.requeue (h : StoreLaw E s) {f : Zone → Zone} {g : Placement → Placement}
    (hf : ∀ zn, (f zn).queue = zn.queue.map g)
    (hg : ∀ p, (g p).announcement = p.announcement ∧ (g p).priority = p.priority) (z : Nat) :
    StoreLaw E (s.modifyZone z f) :=
  { h with
    zones := (List.length_modify ..).trans h.zones
    queued := fun y p hp => by
      rw [zone_modifyZone] at hp
      split at hp
      · rw [hf] at hp
        obtain ⟨q, hq, rfl⟩ := List.mem_map.mp hp
        rw [(hg q).1, (hg q).2]
        exact h.queued y q hq
      · exact h.queued y p hp
    used := fun x hx hE => by
      obtain ⟨y, p, hp, hann⟩ | hrun := h.used x hx hE
      · by_cases hy : y = z ∧ y < s.zrt.zones.length
        · refine .inl ⟨y, g p, ?_, (hg p).1.trans hann⟩
          rw [zone_modifyZone, if_pos hy, hf]
          exact List.mem_map_of_mem hp
        · refine .inl ⟨y, p, ?_, hann⟩
          rwa [zone_modifyZone, if_neg hy]
      · exact .inr hrun }

end

end Sys2Proof.Machine


/-! PROOFS. The law of the modes as far as it speaks of runs and queues (R134, R144, R147, R148), through the work on
announcements. -/

namespace Sys2Proof.Machine

open Sys2Proof.Claims

/-! ### What a mode lets play -/

/-- A run of the priority may be playing in the mode; while the alert hold runs, none is. -/
def lets : Mode → Nat → Prop
  | .opn, _ => True
  | .winding, _ => True
  | .night, _ => False
  | .warming _ _, _ => False
  | .nightAlert none, p => 6 ≤ p
  | .nightAlert (some _), _ => False

/-- Each run is one that the mode lets play, and in NIGHT and NIGHT_ALERT no placement is below 6. -/
structure Hush (s : State) : Prop where
  plays : ∀ c r, s.channel c = some r → lets s.smc.mode r.priority
  queues : inNight s.smc.mode = true → ∀ y, ∀ p ∈ (s.zone y).queue, 6 ≤ p.priority

/-- No channel is playing. -/
def Silent (s : State) : Prop := ∀ c, s.channel c = none

theorem runs_eq_nil_iff {s : State} : runs s = [] ↔ Silent s := by
  rw [List.eq_nil_iff_forall_not_mem]
  refine ⟨fun h c => Option.eq_none_iff_forall_not_mem.mpr fun r hr => h r (mem_runs_iff.mpr ⟨c, hr⟩), fun h r hr => ?_⟩
  obtain ⟨c, hc⟩ := mem_runs_iff.mp hr
  rw [h c] at hc
  cases hc

theorem silent_of_quiet {s : State} (h : quiet s = true) : Silent s := by
  unfold quiet at h
  rw [Bool.and_eq_true] at h
  exact runs_eq_nil_iff.mp (List.isEmpty_iff.mp h.1)

theorem lowRunPlaying_iff {s : State} : lowRunPlaying s = true ↔ ∃ c r, s.channel c = some r ∧ r.priority < 6 := by
  unfold lowRunPlaying
  rw [List.any_eq_true]
  constructor
  · rintro ⟨r, hr, hlow⟩
    obtain ⟨c, hc⟩ := mem_runs_iff.mp hr
    exact ⟨c, r, hc, by simpa using hlow⟩
  · rintro ⟨c, r, hc, hlow⟩
    exact ⟨r, mem_runs_iff.mpr ⟨c, hc⟩, by simpa using hlow⟩

/-- A judgement leaves the mode, or starts or stops the hold, which starts at quiet only (R151). -/
theorem judgeHold_mode_cases (s : State) : (judgeHold s).smc.mode = s.smc.mode ∨
    ∃ h, s.smc.mode = .nightAlert h ∧ ((judgeHold s).smc.mode = .nightAlert none ∨
      quiet s = true ∧ ∃ t, (judgeHold s).smc.mode = .nightAlert (some t)) := by
  unfold judgeHold
  split
  next hold hm =>
    split
    next hq =>
      split
      · exact .inl rfl
      · exact .inr ⟨_, hm, .inr ⟨hq, _, rfl⟩⟩
    · exact .inr ⟨_, hm, .inl rfl⟩
  · exact .inl rfl

theorem inNight_judgeHold (s : State) : inNight (judgeHold s).smc.mode = inNight s.smc.mode := by
  obtain h | ⟨hold, hm, h | ⟨-, t, h⟩⟩ := judgeHold_mode_cases s
  · rw [h]
  · rw [h, hm]; rfl
  · rw [h, hm]; rfl

theorem silence_smc (n : Nat) (s : State) : (silence n s).smc = s.smc := by
  unfold silence reportVoice
  split <;> rfl

theorem freeIfDone_smc (a : Nat) (s : State) : (freeIfDone a s).smc = s.smc := by
  unfold freeIfDone
  split
  · exact forEach_view (view := State.smc) (f := silenceVoice a) (fun n s => by
      unfold silenceVoice
      split
      · exact silence_smc n s
      · rfl) allSources (removeSlot a s)
  · rfl

section
variable {E : Nat → Prop} {s t : State}

/-- A change that leaves the mode and brings no run and no placement of another priority. -/
theorem Hush.shrink (h : Hush s) (hmode : t.smc.mode = s.smc.mode)
    (hch : ∀ c r, t.channel c = some r → ∃ d q, s.channel d = some q ∧ q.priority = r.priority)
    (hq : ∀ y, ∀ p ∈ (t.zone y).queue, ∃ z, ∃ q ∈ (s.zone z).queue, q.priority = p.priority) : Hush t where
  plays c r hr := by
    obtain ⟨d, q, hq, hp⟩ := hch c r hr
    rw [hmode, ← hp]
    exact h.plays d q hq
  queues hn y p hp := by
    obtain ⟨z, q, hq, hprio⟩ := hq y p hp
    rw [← hprio]
    exact h.queues (hmode ▸ hn) z q hq

/-- A change that leaves the mode, the channels and the queues. -/
theorem Hush.congr (h : Hush s) (hmode : t.smc.mode = s.smc.mode) (hch : t.ple.channels = s.ple.channels)
    (hq : ∀ y, (t.zone y).queue = (s.zone y).queue) : Hush t :=
  h.shrink hmode (fun c r hr => ⟨c, r, by unfold State.channel at hr ⊢; rwa [← hch], rfl⟩)
    fun y p hp => ⟨y, p, hq y ▸ hp, rfl⟩

theorem Hush.generate (h : Hush s) (n : Notice) : Hush (generate n s) := h.congr rfl rfl fun _ => rfl

theorem Hush.judgeHold (h : Hush s) : Hush (judgeHold s) where
  plays c r hr := by
    have hr : s.channel c = some r := by
      unfold State.channel at hr ⊢
      rwa [judgeHold_ple] at hr
    have hlets := h.plays c r hr
    obtain hm | ⟨hold, hm, hm' | ⟨hq, -⟩⟩ := judgeHold_mode_cases s
    · rwa [hm]
    · rw [hm']
      rw [hm] at hlets
      cases hold with
      | none => exact hlets
      | some t => exact hlets.elim
    · rw [silent_of_quiet hq c] at hr
      cases hr
  queues hn y p hp := by
    rw [zone_of_zones (congrArg Zrt.zones (judgeHold_zrt s))] at hp
    exact h.queues (inNight_judgeHold s ▸ hn) y p hp

theorem Hush.freeIfDone (h : Hush s) (a : Nat) : Hush (freeIfDone a s) :=
  h.congr (congrArg Smc.mode (freeIfDone_smc a s)) (congrArg Ple.channels (freeIfDone_keepsRuns a s).ple)
    fun y => congrArg Zone.queue (zone_of_zones (freeIfDone_zones a s) y)

theorem forEach_hush {α : Type} {f : α → State → State} (h : ∀ x s, Hush s → Hush (f x s)) :
    ∀ (xs : List α) (s : State), Hush s → Hush (forEach xs f s)
  | [], _, hs => hs
  | x :: xs, s, hs => forEach_hush h xs (f x s) (h x s hs)

theorem Hush.take (h : Hush s) (z a : Nat) : Hush (takePlacement z a s) :=
  h.shrink rfl (fun c r hr => ⟨c, r, hr, rfl⟩) fun y p hp => by
    rw [takePlacement_zone] at hp
    split at hp
    · exact ⟨y, p, List.mem_of_mem_filter hp, rfl⟩
    · exact ⟨y, p, hp, rfl⟩

theorem Hush.drop (h : Hush s) (z : Nat) (reason : DropReason) (p : Placement) : Hush (dropPlacement z reason p s) :=
  (((h.take z p.announcement).generate _).freeIfDone _).judgeHold

theorem Hush.dropWhere (h : Hush s) (z : Nat) (reason : DropReason) (which : Placement → Bool) :
    Hush (dropWhere z reason which s) := forEach_hush (fun p _ hs => hs.drop z reason p) _ s h

theorem Hush.dropEverywhere (h : Hush s) (a : Nat) (reason : DropReason) : Hush (dropEverywhere a reason s) := by
  unfold Machine.dropEverywhere
  exact forEach_hush (fun z _ hs => hs.dropWhere z reason _) _ s h

/-! ### Changes of mode -/

/-- A mode that lets every run there is play and is not a night mode. -/
theorem Hush.setMode {m : Mode} (h : ∀ c r, s.channel c = some r → lets m r.priority) (hm : inNight m = false)
    (cause : ModeCause) : Hush (setMode m cause s) where
  plays c r hr := by rw [setMode_mode]; exact h c r hr
  queues hn := by rw [setMode_mode, hm] at hn; cases hn

/-- Entry to NIGHT of a part on which nothing plays. -/
theorem Hush.enterNight (hs : StoreLaw E s) (h : Silent s) (cause : ModeCause) : Hush (enterNight cause s) where
  plays c r hr := by
    rw [(enterNight_keepsRuns cause s).channel, h c] at hr
    cases hr
  queues _ y p hp := enterNight_noLow cause s y ((hs.enterNight cause).zone_lt hp) p hp

/-- NIGHT_ALERT with the hold judged, where nothing below 6 plays or is queued. -/
theorem Hush.of_judged {now : RunTime} (hm : s.smc.mode = .nightAlert (if quiet s then some now else none))
    (h : ∀ c r, s.channel c = some r → 6 ≤ r.priority) (hq : ∀ y, ∀ p ∈ (s.zone y).queue, 6 ≤ p.priority) : Hush s where
  plays c r hr := by
    rw [hm]
    split
    next hquiet => rw [silent_of_quiet hquiet c] at hr; cases hr
    · exact h c r hr
  queues _ := hq

/-- Entry to NIGHT_ALERT of a part on which nothing below 6 plays. -/
theorem Hush.enterNightAlert (hs : StoreLaw E s) (h : ∀ c r, s.channel c = some r → 6 ≤ r.priority) (cause : ModeCause) :
    Hush (enterNightAlert cause s) := by
  have hmode := (enterNightAlert_mode cause s).1
  have hchannel := (enterNightAlert_keepsRuns cause s).channel
  have hlow := enterNightAlert_noLow cause s
  have hlaw := hs.enterNightAlert cause
  generalize Machine.enterNightAlert cause s = t at *
  exact Hush.of_judged hmode (fun c r hr => h c r (hchannel c ▸ hr)) fun y p hp => hlow y (hlaw.zone_lt hp) p hp

theorem Hush.windingTest (h : Hush s) (hs : StoreLaw E s) : Hush (windingTest s) := by
  unfold Machine.windingTest
  split
  next hw =>
    split
    next hq => exact Hush.enterNight hs (silent_of_quiet hq) _
    · refine Hush.enterNightAlert hs (fun c r hr => ?_) _
      by_contra hlow
      have := lowRunPlaying_iff.mpr ⟨c, r, hr, Nat.lt_of_not_le hlow⟩
      rw [hw.2] at this
      cases this
  · exact h

theorem Hush.emergencyEvent (h : Hush s) : Hush (emergencyEvent s) := by
  have hwarming : ∀ e, (∀ p, ¬ lets s.smc.mode p) → Hush (Machine.setMode (.warming .nightAlert e) .emergency s) :=
    fun e hnone => Hush.setMode (fun c r hr => absurd (h.plays c r hr) (hnone _)) rfl _
  unfold Machine.emergencyEvent
  split
  · exact h
  · exact h
  next hm => exact hwarming _ (by rw [hm]; exact fun _ hl => hl)
  next hm => exact hwarming _ (by rw [hm]; exact fun _ hl => hl)
  · exact h
  · exact h.judgeHold

theorem Hush.requestOpen (h : Hush s) (cause : ModeCause) : Hush (requestOpen cause s) := by
  have hwarming : ∀ e, (∀ p, ¬ lets s.smc.mode p) → Hush (Machine.setMode (.warming .opn e) cause s) :=
    fun e hnone => Hush.setMode (fun c r hr => absurd (h.plays c r hr) (hnone _)) rfl _
  unfold Machine.requestOpen
  split
  · exact h
  · exact Hush.setMode (m := .opn) (fun _ _ _ => trivial) rfl _
  next hm => exact hwarming _ (by rw [hm]; exact fun _ hl => hl)
  next hm =>
    split
    · exact h
    · exact hwarming _ (by rw [hm]; exact fun _ hl => hl)
  · exact Hush.setMode (m := .opn) (fun _ _ _ => trivial) rfl _

theorem Hush.requestNight (h : Hush s) (hs : StoreLaw E s) (cause : ModeCause) : Hush (requestNight cause s) := by
  unfold Machine.requestNight
  split
  · exact Hush.windingTest (Hush.setMode (m := .winding) (fun _ _ _ => trivial) rfl _) (hs.setMode _ _)
  · exact h
  · exact h
  next hm =>
    split
    · exact h
    · exact Hush.setMode (fun c r hr => by
        have := h.plays c r hr
        rw [hm] at this
        exact this.elim) rfl _
  · exact h

/-! ### A placement that enters a queue -/

theorem Hush.makeRoom (h : Hush s) (z p : Nat) : Hush (makeRoom z p s) := by
  unfold Machine.makeRoom
  split
  · exact h
  · split
    · exact h.drop z .displaced _
    · exact h

theorem inNight_makeRoom (z p : Nat) (s : State) : inNight (makeRoom z p s).smc.mode = inNight s.smc.mode := by
  unfold makeRoom
  split
  · rfl
  · split
    · unfold dropPlacement
      rw [inNight_judgeHold, freeIfDone_smc]
      rfl
    · rfl

theorem Hush.enterQueue (h : Hush s) (z : Nat) {p : Placement} (hp : inNight s.smc.mode = true → 6 ≤ p.priority) :
    Hush (enterQueue z p s) := by
  have hm := h.makeRoom z p.priority
  have hin := inNight_makeRoom z p.priority s
  have hinserted : Hush ((Machine.makeRoom z p.priority s).modifyZone z (fun zn =>
      { zn with queue := insertPlacement (Machine.makeRoom z p.priority s).zrt.stampCounter p zn.queue })) :=
    { plays := hm.plays
      queues := fun hn y q hq => by
        rw [zone_modifyZone] at hq
        split at hq
        · rcases mem_insertPlacement.mp hq with rfl | hq
          · exact hp (hin ▸ hn)
          · exact hm.queues hn y q hq
        · exact hm.queues hn y q hq }
  exact hinserted.judgeHold

theorem Hush.enterNew (h : Hush s) (z : Nat) {p : Placement} (hp : inNight s.smc.mode = true → 6 ≤ p.priority) :
    Hush (enterNew z p s) := by
  have hadvanced : Hush (advanceStamp s) := h.congr rfl rfl fun _ => rfl
  exact hadvanced.enterQueue z hp

theorem Hush.makeCoverage (h : Hush s) (z a : Nat) : Hush (makeCoverage z a s) := by
  unfold Machine.makeCoverage
  split
  · have hseven : 6 ≤ (coveragePlacement a).priority := Nat.le_succ 6
    exact (h.enterNew z fun _ => hseven).emergencyEvent
  · exact h.generate _

/-! ### The end of a part, and of a run -/

theorem Hush.takeRestored (h : Hush s) (z : Nat) {p : Placement} (marked : Bool)
    (hp : inNight s.smc.mode = true → 6 ≤ p.priority) : Hush (takeRestored z p marked s).2 := by
  unfold Machine.takeRestored
  split
  · exact h.generate _
  · exact h.enterQueue z hp

theorem Hush.takeRepeat (h : Hush s) (z : Nat) {p : Placement} (left : Repeats) (notBefore : RunTime) (marked : Bool)
    (hp : inNight s.smc.mode = true → 6 ≤ p.priority) : Hush (takeRepeat z p left notBefore marked s).2 := by
  unfold Machine.takeRepeat
  split
  · exact h.generate _
  · exact h.enterNew z hp

theorem Hush.disposePlacement (h : Hush s) (z : Nat) {a : Attached} (o : RunOutcome) (discard : Bool)
    (hp : inNight s.smc.mode = true → 6 ≤ a.placement.priority) : Hush (disposePlacement z a o discard s).2 := by
  unfold Machine.disposePlacement
  dsimp only
  split
  · exact h.takeRestored z _ hp
  · split
    · exact h
    · exact h.takeRestored z _ hp
  · split
    · exact h.takeRepeat z _ _ _ hp
    · split
      · exact h
      · exact h.takeRepeat z _ _ _ hp

/-- A run that goes on with its priority. -/
theorem Hush.setChannel (h : Hush s) {c : Nat} {r r' : Run} (hr : s.channel c = some r) (hp : r'.priority = r.priority) :
    Hush (s.setChannel c (some r')) := by
  refine h.shrink rfl (fun d q hq => ?_) fun y p hp => ⟨y, p, hp, rfl⟩
  by_cases hd : d = c
  · subst hd
    rw [channel_setChannel (lt_of_channel hr)] at hq
    cases hq
    exact ⟨d, r, hr, hp.symm⟩
  · exact ⟨d, q, (channel_setChannel_ne s hd _).symm.trans hq, rfl⟩

theorem six_le_of_lets {m : Mode} {p : Nat} (h : lets m p) (hn : inNight m = true) : 6 ≤ p := by
  cases m with
  | nightAlert hold =>
    cases hold with
    | none => exact h
    | some t => exact h.elim
  | night => exact h.elim
  | opn | winding | warming g e => cases hn

theorem Hush.endPart (h : Hush s) (hs : StoreLaw E s) (c : Nat) (o : RunOutcome) (discard : Bool) (z : Nat) :
    Hush (endPart c o discard z s) := by
  cases hattached : attachedTo s z c with
  | false => rwa [endPart_of_detached hattached]
  | true =>
    obtain ⟨r, a, hr, ha⟩ := attachedTo_eq_true.mp hattached
    obtain ⟨-, hzs⟩ := hs.playing c r hr
    rw [endPart_eq hr ha rfl]
    have hdetached : Hush (detachZone c z r s) :=
      (h.setChannel hr (r' := { r with zones := r.zones.filter (fun a => a.zone != z) }) rfl).congr rfl rfl
        fun y => modifyZone_queue (f := fun zn => { zn with pulseEnd := none }) (fun _ => rfl) z _ y
    have hprio : inNight (detachZone c z r s).smc.mode = true → 6 ≤ a.placement.priority := fun hn => by
      rw [(hzs a (List.mem_of_find?_eq_some ha)).2]
      exact six_le_of_lets (h.plays c r hr) hn
    have hdisposed := hdetached.disposePlacement z o discard hprio
    have hresumed : Hush (resumeCoverage z r.announcement a discard
        (Machine.disposePlacement z a o discard (detachZone c z r s)).2) := by
      unfold resumeCoverage
      split
      · exact hdisposed.makeCoverage z _
      · exact hdisposed
    unfold recordLeft
    split
    next q hq => exact hresumed.setChannel hq rfl
    · exact hresumed

theorem Hush.channelIdle (h : Hush s) (hs : StoreLaw E s) (c : Nat) (o : RunOutcome) : Hush (channelIdle c o s) := by
  unfold Machine.channelIdle
  split
  · exact h
  next r hr =>
    have hgone : Hush (s.setChannel c none) := by
      refine h.shrink rfl (fun d q hq => ?_) fun y p hp => ⟨y, p, hp, rfl⟩
      by_cases hd : d = c
      · subst hd; rw [channel_setChannel (lt_of_channel hr)] at hq; cases hq
      · exact ⟨d, q, (channel_setChannel_ne s hd _).symm.trans hq, rfl⟩
    exact ((hgone.freeIfDone r.announcement).judgeHold.windingTest (hs.idled hr).judgeHold).generate _

/-! ### Creations and starts -/

theorem six_le_of_refuseReason {x : Slot} {z : Nat} (h : refuseReason s x z = none) (hn : inNight s.smc.mode = true) :
    6 ≤ x.priority := by
  by_contra hlow
  unfold refuseReason at h
  dsimp only at h
  split at h
  · cases h
  · split at h
    · cases h
    · rw [if_pos ⟨hn, Nat.lt_of_not_le hlow⟩] at h
      cases h

theorem Hush.placeIn {x : Slot} {cs : Counts × State} (h : Hush cs.2) (z : Nat) : Hush (placeIn x cs z).2 := by
  obtain ⟨c, s⟩ := cs
  unfold Machine.placeIn
  dsimp only
  split
  · exact h
  · split
    · exact h.generate _
    next hr => exact h.enterNew z (p := newPlacement s x z) (six_le_of_refuseReason hr)

theorem Hush.foldl_placeIn {x : Slot} : ∀ (zs : List Nat) {cs : Counts × State}, Hush cs.2 →
    Hush (zs.foldl (Machine.placeIn x) cs).2
  | [], _, h => h
  | z :: zs, cs, h => Hush.foldl_placeIn zs (cs := Machine.placeIn x cs z) (h.placeIn z)

theorem Hush.removeSlot (h : Hush s) (a : Nat) : Hush (removeSlot a s) := h.congr rfl rfl fun _ => rfl

theorem Hush.makeSlot (h : Hush s) (p : Nat) : Hush (makeSlot p s) := by
  unfold Machine.makeSlot
  split
  · exact h
  · split
    · exact (h.dropEverywhere _ .displaced).removeSlot _
    · exact h

theorem Hush.create (h : Hush s) (x : Slot) : Hush (create x s).2 := by
  unfold Machine.create
  split
  · have hmade := h.makeSlot x.priority
    dsimp only
    generalize Machine.makeSlot x.priority s = m at *
    generalize nextId m = a
    have hrecorded : Hush (recordSlot x a m) := hmade.congr rfl rfl fun _ => rfl
    have hplaced : Hush (placeAll { x with id := a } (recordSlot x a m)).2 :=
      Hush.foldl_placeIn _ (cs := (noCounts, recordSlot x a m)) hrecorded
    split
    · exact hplaced
    · exact hplaced.removeSlot a
  · exact h

theorem Hush.createEvac (h : Hush s) (n : Nat) : Hush (createEvac n s).2 :=
  (h.create (evacProto s n)).congr rfl rfl fun _ => rfl

theorem lets_of_admitted {z : Nat} {p : Placement} (h : AdmittedHead s z p) (hn : ∀ x, s.smc.mode ≠ .nightAlert x) :
    lets s.smc.mode p.priority := by
  obtain hm | ⟨-, hm | ⟨x, hm⟩⟩ := h.mode
  · rw [hm]; trivial
  · rw [hm]; trivial
  · exact absurd hm (hn x)

/-- A start happens in a mode that admits the announcement; where the alert hold ran, the run stops it. -/
theorem Hush.started (h : Hush s) (hs : StoreLaw E s) {c : Nat} {x : Slot} {z : Nat} {zs : List Nat} (seized : Option Nat)
    (hc : c < 8) (hidle : s.channel c = none) (hx : s.slot? x.id = some x) (hzs : startZones s x.id = z :: zs) :
    Hush (started c x (z :: zs) seized s) := by
  obtain ⟨-, p, hhead, hann, -⟩ := mem_startZones (hzs ▸ List.mem_cons_self .. : z ∈ startZones s x.id)
  have hprio : p.priority = x.priority := by
    have hstored := hs.queued z p (List.mem_of_head? hhead.head)
    exact (hann ▸ hstored : Stored s x.id p.priority).unique ⟨x, hx, rfl⟩
  set run := newRun s x (resolve s x) (attachments s x.priority x.id (z :: zs)) with hrun
  set occupied := occupyChannel c run (forEach (z :: zs) (fun z => takePlacement z x.id) s) with hoccupied
  have hlt : c < s.ple.channels.length := hs.channels ▸ hc
  have hmode : occupied.smc.mode = s.smc.mode := congrArg Smc.mode
    (forEach_view (view := State.smc) (f := fun z => takePlacement z x.id) (fun _ _ => rfl) (z :: zs) s)
  have hchannels : occupied.ple.channels = s.ple.channels.set c (some run) := congrArg (fun p : Ple => p.channels.set c (some run))
    (forEach_view (view := State.ple) (f := fun z => takePlacement z x.id) (fun _ _ => rfl) (z :: zs) s)
  have hself : occupied.channel c = some run := by
    unfold State.channel; rw [hchannels]; exact channel_set_self hlt _
  have hloud : quiet occupied = false := by
    cases hq : quiet occupied with
    | false => rfl
    | true => rw [silent_of_quiet hq c] at hself; cases hself
  have hruns : ∀ d r, occupied.channel d = some r → r = run ∨ s.channel d = some r := fun d r hr => by
    by_cases hd : d = c
    · subst hd
      rw [hself] at hr
      cases hr
      exact .inl rfl
    · refine .inr ?_
      unfold State.channel at hr ⊢
      rwa [hchannels, channel_set_ne hd] at hr
  have hqueues : ∀ y, ∀ p ∈ (occupied.zone y).queue, p ∈ (s.zone y).queue := fun y p hp => by
    have hzone : occupied.zone y = (forEach (z :: zs) (fun z => takePlacement z x.id) s).zone y := rfl
    rw [hzone, forEach_takePlacement_zone] at hp
    split at hp
    · exact List.mem_of_mem_filter hp
    · exact hp
  have hqueued : ∀ m, inNight m = inNight s.smc.mode → inNight m = true →
      ∀ y, ∀ p ∈ (occupied.zone y).queue, 6 ≤ p.priority :=
    fun m hm hn y p hp => h.queues (hm ▸ hn) y p (hqueues y p hp)
  have hjudged : Hush (Machine.judgeHold occupied) := by
    by_cases hn : ∃ hold, s.smc.mode = .nightAlert hold
    · obtain ⟨hold, hm⟩ := hn
      rw [judgeHold_of_loud (hmode.trans hm) hloud]
      refine ⟨fun d r hr => ?_, hqueued _ (by rw [hm]; rfl)⟩
      show 6 ≤ r.priority
      obtain rfl | hr := hruns d r hr
      · obtain ho | ⟨hsix, -⟩ := hhead.mode
        · rw [hm] at ho; cases ho
        · exact hsix.trans_eq hprio
      · exact six_le_of_lets (h.plays d r hr) (by rw [hm]; rfl)
    · have hne : ∀ hold, s.smc.mode ≠ .nightAlert hold := fun hold hm => hn ⟨hold, hm⟩
      rw [judgeHold_of_ne fun hold => hmode ▸ hne hold]
      refine ⟨fun d r hr => ?_, hqueued _ (by rw [hmode])⟩
      rw [hmode]
      obtain rfl | hr := hruns d r hr
      · have := lets_of_admitted hhead hne
        rwa [hprio] at this
      · exact h.plays d r hr
  exact hjudged.generate _

end

end Sys2Proof.Machine


/-! PROOFS. The law of the store and what the modes let play are kept together, by every step. -/

namespace Sys2Proof.Machine

open Sys2Proof.Claims

/-- The store within its capacity, the law of the store, and runs and queues that the mode lets be. -/
structure Lawful (s : State) : Prop where
  slots : SlotsOk s.asc.slots
  store : StoreLaw (fun _ => False) s
  hush : Hush s

/-- What is lawful stays so. -/
def KeepsLaw (s t : State) : Prop := Lawful s → Lawful t

theorem Lawful.capacity {s : State} (h : Lawful s) : s.asc.slots.length ≤ 64 := h.slots.capacity

/-- Work that settles keeps the law where it keeps its two parts. -/
theorem Settles.keepsLaw {s t : State} (h : Settles s t)
    (hstore : Lawful s → StoreLaw (fun _ => False) t) (hhush : Lawful s → Hush t) : KeepsLaw s t :=
  fun hs => ⟨h.slots hs.slots, hstore hs, hhush hs⟩

/-- A change that leaves the announcements, the queues, the runs, the sources and the mode as they are. -/
theorem keepsLaw_of_same {s t : State} (hslots : t.asc.slots = s.asc.slots)
    (hlen : t.zrt.zones.length = s.zrt.zones.length) (hq : ∀ y, (t.zone y).queue = (s.zone y).queue)
    (hsources : t.zrt.sources = s.zrt.sources) (hch : t.ple.channels = s.ple.channels) (hmode : t.smc.mode = s.smc.mode) :
    KeepsLaw s t := fun hs =>
  ⟨hslots ▸ hs.slots, hs.store.congr hslots hlen hq hsources hch, hs.hush.congr hmode hch hq⟩

/-- A change of a zone's record that leaves its queue. -/
theorem modifyZone_keepsLaw {f : Zone → Zone} (hf : ∀ zn, (f zn).queue = zn.queue) (z : Nat) (s : State) :
    KeepsLaw s (s.modifyZone z f) :=
  keepsLaw_of_same rfl (List.length_modify ..) (modifyZone_queue hf z s) rfl rfl rfl

theorem requeue_hush {s : State} (h : Hush s) {g : Placement → Placement} (hg : ∀ p, (g p).priority = p.priority) (z : Nat) :
    Hush (s.modifyZone z (fun zn => { zn with queue := zn.queue.map g })) :=
  h.shrink rfl (fun c r hr => ⟨c, r, hr, rfl⟩) fun y p hp => by
    rw [zone_modifyZone] at hp
    split at hp
    · obtain ⟨q, hq, rfl⟩ := List.mem_map.mp hp
      exact ⟨y, q, hq, (hg q).symm⟩
    · exact ⟨y, p, hp, rfl⟩

theorem sameRun_zones {r r' : Run} (h : SameRun r r') : ∀ a ∈ r'.zones, ∃ b ∈ r.zones, a.placement = b.placement := by
  intro a ha
  have hmem : (a.zone, a.placement) ∈ r'.zones.map (fun a => (a.zone, a.placement)) := List.mem_map_of_mem ha
  rw [h.zones] at hmem
  obtain ⟨b, hb, heq⟩ := List.mem_map.mp hmem
  exact ⟨b, hb, (congrArg Prod.snd heq).symm⟩

theorem silent_of_warming {s : State} (h : Hush s) {g : Target} {e : RunTime} (hm : s.smc.mode = .warming g e) : Silent s :=
  fun c => by
    cases hr : s.channel c with
    | none => rfl
    | some r =>
      have := h.plays c r hr
      rw [hm] at this
      exact this.elim

theorem silent_of_hold {s : State} (h : Hush s) {t : RunTime} (hm : s.smc.mode = .nightAlert (some t)) : Silent s :=
  fun c => by
    cases hr : s.channel c with
    | none => rfl
    | some r =>
      have := h.plays c r hr
      rw [hm] at this
      exact this.elim

theorem endPart_keepsLaw (c : Nat) (o : RunOutcome) (discard : Bool) (z : Nat) (s : State) :
    KeepsLaw s (endPart c o discard z s) :=
  (endPart_settles c o discard z s).keepsLaw (fun h => h.store.endPart c o discard z)
    fun h => h.hush.endPart h.store c o discard z

theorem law_worker : Worker KeepsLaw where
  rfl _ h := h
  trans h g hs := g (h hs)
  generate n s := (generate_settles n s).keepsLaw (fun h => h.store.generate n) fun h => h.hush.generate n
  drop z reason p s := (dropPlacement_settles z reason p s).keepsLaw (fun h => h.store.drop z reason p)
    fun h => h.hush.drop z reason p
  cover {z a s} hc := (makeCoverage_settles z a s).keepsLaw (fun h => h.store.makeCoverage (stored_of_coveredWith h.store hc))
    fun h => h.hush.makeCoverage z a
  endPart {c} _ := endPart_keepsLaw c
  part := endPart_keepsLaw
  idle c o s := (channelIdle_settles c o s).keepsLaw (fun h => h.store.channelIdle c o)
    fun h => h.hush.channelIdle h.store c o
  rerun hr h := (setChannel_settles _ _ _).keepsLaw
    (fun hs => hs.store.setChannel hr h.announcement h.priority (sameRun_zones h)) fun hs => hs.hush.setChannel hr h.priority
  emergency s := (emergencyEvent_settles s).keepsLaw (fun h => h.store.emergencyEvent) fun h => h.hush.emergencyEvent
  start {c x z zs s} seized hc hidle hx hzs := (started_settles c x (z :: zs) seized s).keepsLaw
    (fun h => h.store.started seized hc hidle hx) fun h => h.hush.started h.store seized hc hidle hx hzs
  pulse {f} hf z s := modifyZone_keepsLaw (f := f) (fun zn => by rw [hf zn]) z s
  createEvac n s := ((create_settles _ s).trans (setVoice_settles ..)).keepsLaw (fun h => h.store.createEvac h.capacity n)
    fun h => h.hush.createEvac n
  withdrawn a s := (modifySlot_settles (f := fun x => { x with withdrawn := true }) (fun _ => rfl) a s).keepsLaw
    (fun h => h.store.withdrawn a) fun h => h.hush.congr rfl rfl fun _ => rfl
  create x s := (create_settles x s).keepsLaw (fun h => (h.store.create h.capacity x).1) fun h => h.hush.create x
  requeue {g} hg z s := (mapQueue_settles (g := g) (fun p => (hg p).2) z s).keepsLaw
    (fun h => h.store.requeue (f := fun zn => { zn with queue := zn.queue.map g }) (fun _ => rfl) hg z)
    fun h => requeue_hush h.hush (fun p => (hg p).2) z
  requestOpen cause s hs := by
    have hstore : StoreLaw (fun _ => False) (requestOpen cause s) := by
      unfold requestOpen
      split
      · exact hs.store
      · exact hs.store.setMode _ _
      · exact hs.store.setMode _ _
      · split
        · exact hs.store
        · exact hs.store.setMode _ _
      · exact hs.store.setMode _ _
    exact ⟨(requestOpen_settles cause s).slots hs.slots, hstore, hs.hush.requestOpen cause⟩
  requestNight cause s hs := by
    have hstore : StoreLaw (fun _ => False) (requestNight cause s) := by
      unfold requestNight
      split
      · exact (hs.store.setMode _ _).windingTest
      · exact hs.store
      · exact hs.store
      · split
        · exact hs.store
        · exact hs.store.setMode _ _
      · exact hs.store
    exact ⟨(requestNight_settles cause s).slots hs.slots, hstore, hs.hush.requestNight hs.store cause⟩
  warmUpEnd {t e s} hm := by
    cases t with
    | opn =>
      exact (setMode_settles .opn .warmed s).keepsLaw (fun hs => hs.store.setMode .opn .warmed)
        fun _ => Hush.setMode (m := .opn) (fun _ _ _ => trivial) (Eq.refl _) .warmed
    | nightAlert =>
      exact (enterNightAlert_settles .warmed s).keepsLaw (fun hs => hs.store.enterNightAlert .warmed)
        fun hs => Hush.enterNightAlert hs.store (fun c r hr => by rw [silent_of_warming hs.hush hm c] at hr; cases hr) .warmed
    | night =>
      exact (enterNight_settles .warmed s).keepsLaw (fun hs => hs.store.enterNight .warmed)
        fun hs => Hush.enterNight hs.store (silent_of_warming hs.hush hm) .warmed
  holdEnd {t s} hm := (enterNight_settles .holdExpired s).keepsLaw (fun hs => hs.store.enterNight .holdExpired)
    fun hs => Hush.enterNight hs.store (silent_of_hold hs.hush hm) .holdExpired
  latest limit s := (reduceLatest_settles limit s).keepsLaw (fun h => h.store.latest limit)
    fun h => h.hush.congr rfl rfl fun _ => rfl
  ttu s x := keepsLaw_of_same rfl rfl (fun _ => rfl) rfl rfl rfl

theorem law_router : Router KeepsLaw where
  toPlacer := law_worker.toPlacer
  recover {z n s} _ := modifyZone_keepsLaw (f := fun zn => { zn with covering := n }) (fun _ => rfl) z s
  write {b} z s _ := modifyZone_keepsLaw (f := fun zn => { zn with base := b }) (fun _ => rfl) z s
  isolate z s := by
    have hwrite : KeepsLaw s (writeBase z .isolated s) :=
      modifyZone_keepsLaw (f := fun zn => { zn with base := .isolated }) (fun _ => rfl) z s
    have hset := modifyZone_keepsLaw (f := fun zn => { zn with covering := none }) (fun _ => rfl) z (writeBase z .isolated s)
    exact law_worker.trans (law_worker.trans hwrite hset)
      (law_worker.trans (law_worker.dropWhere _ _ _ _) (law_worker.cutZone _ _ _))
  groups s g := keepsLaw_of_same rfl rfl (fun _ => rfl) rfl rfl rfl
  configure r k m z s := modifyZone_keepsLaw (f := configured r k m) (fun _ => rfl) z s

/-- An entry of a source that is set anew has no voice yet. -/
theorem source_keepsLaw (n : Nat) (f : Source → Source) (s : State) (hf : ∀ e, (f e).voice = .none) :
    KeepsLaw s (s.modifySource n f) := fun hs =>
  { slots := hs.slots
    hush := hs.hush.congr rfl rfl fun _ => rfl
    store :=
      { hs.store with
        sources := (List.length_modify ..).trans hs.store.sources
        voiced := fun m a hstate hvoice => by
          by_cases hm : m = n
          · subst hm
            by_cases hlt : m < s.zrt.sources.length
            · rw [source_modifySource_of_lt hlt, hf] at hvoice
              cases hvoice
            · rw [State.source, List.getD_eq_default _ _ (by
                exact (List.length_modify ..).trans_le (Nat.le_of_not_lt hlt))] at hvoice
              cases hvoice
          · rw [source_modifySource_of_ne hm] at hstate hvoice
            exact hs.store.voiced m a hstate hvoice } }

theorem Alike.keepsLaw {s t : State} (h : Alike s t) : KeepsLaw s t :=
  keepsLaw_of_same h.slots (by simpa using congrArg List.length h.zones)
    (fun y => (congrArg Zone.queue (h.zone y) :)) h.sources h.channels h.mode

/-! ### Resets -/

/-- A part without announcements, placements, runs and voices is lawful. -/
theorem lawful_of_empty {s : State} (hslots : s.asc.slots = []) (hzones : s.zrt.zones.length = Config.maxZones)
    (hsources : s.zrt.sources.length = Config.maxSources) (hchannels : s.ple.channels.length = Config.maxChannels)
    (hqueue : ∀ y, (s.zone y).queue = []) (hsilent : Silent s) (hvoice : ∀ n a, (s.source n).voice ≠ .voiced a) :
    Lawful s where
  slots := by
    rw [hslots]
    exact ⟨Nat.zero_le _, List.nodup_nil, fun _ h => absurd h List.not_mem_nil⟩
  store :=
    { zones := hzones
      sources := hsources
      channels := hchannels
      queued := fun y p hp => by rw [hqueue] at hp; cases hp
      playing := fun c r hr => by rw [hsilent c] at hr; cases hr
      voiced := fun n a _ h => absurd h (hvoice n a)
      used := fun x hx => by rw [hslots] at hx; cases hx }
  hush :=
    { plays := fun c r hr => by rw [hsilent c] at hr; cases hr
      queues := fun _ y p hp => by rw [hqueue] at hp; cases hp }

theorem coldReset_keepsLaw (s : State) : KeepsLaw s (coldReset s) := fun _ => by
  have hzone : ∀ y, (coldReset s).zone y = coldZone := fun y => getD_replicate_self coldZone _ y
  have hsource : ∀ n, (coldReset s).source n = coldSource := fun n => getD_replicate_self coldSource _ n
  exact lawful_of_empty rfl (List.length_replicate ..) (List.length_replicate ..) (List.length_replicate ..)
    (fun y => by rw [hzone]; rfl) (fun c => getD_replicate_self none _ c) fun n a => by
      rw [hsource]
      exact fun h => by cases h

theorem warmReset_keepsLaw (cause : RestartCause) (s : State) : KeepsLaw s (warmReset cause s) := fun hs => by
  refine warmReset_of_router (P := Lawful) law_router cause (lawful_of_empty rfl ?_ ?_ (List.length_replicate ..)
    (fun y => warmBlocks_queue y s) (warmBlocks_channel s) fun n a => ?_)
  · exact (List.length_map ..).trans hs.store.zones
  · exact (List.length_map ..).trans hs.store.sources
  · have hvoice : ((warmBlocks s).source n).voice = .none := by
      simp only [State.source, warmBlocks, warmZrt, List.getD_eq_getElem?_getD, List.getElem?_map]
      cases s.zrt.sources[n]? <;> rfl
    rw [hvoice]
    exact fun h => by cases h

theorem law_keeper : Keeper KeepsLaw :=
  law_router.keeper law_worker (fun h => h.keepsLaw) coldReset_keepsLaw warmReset_keepsLaw
    (law_router.activate fun n f s hf => source_keepsLaw n f s hf)
    (law_router.clearSource fun n f s hf => source_keepsLaw n f s hf)

end Sys2Proof.Machine


/-! PROOFS. How the station mode moves while announcements are worked on: what settles, places and withdraws asks for no
mode, so that only an emergency, the end of winding and the alert hold change it (R147, R149, R151). -/

namespace Sys2Proof.Machine

open Sys2Proof.Claims

/-- The mode `m` becomes without a request for OPEN or NIGHT, a warm-up that begins ending at `ends`. -/
inductive Slides (ends : RunTime) : Mode → Mode → Prop where
  | stay (m : Mode) : Slides ends m m
  | hold (h h' : Option RunTime) : Slides ends (.nightAlert h) (.nightAlert h')
  | wake : Slides ends .night (.warming .nightAlert ends)
  | redirect (e : RunTime) : Slides ends (.warming .night e) (.warming .nightAlert e)
  | wound {m : Mode} (h : m = .night ∨ (∃ x, m = .nightAlert x) ∨ m = .warming .nightAlert ends) : Slides ends .winding m

theorem Slides.trans {ends : RunTime} {a b c : Mode} (h : Slides ends a b) (g : Slides ends b c) : Slides ends a c := by
  cases h with
  | stay => exact g
  | hold x y => cases g with
    | stay => exact .hold x y
    | hold _ z => exact .hold x z
  | wake => cases g with
    | stay => exact .wake
  | redirect e => cases g with
    | stay => exact .redirect e
  | wound h =>
    obtain rfl | ⟨x, rfl⟩ | rfl := h
    · cases g with
      | stay => exact .wound (.inl rfl)
      | wake => exact .wound (.inr (.inr rfl))
    · cases g with
      | stay => exact .wound (.inr (.inl ⟨x, rfl⟩))
      | hold _ y => exact .wound (.inr (.inl ⟨y, rfl⟩))
    · cases g with
      | stay => exact .wound (.inr (.inr rfl))

theorem Slides.winding {ends : RunTime} {m : Mode} (h : Slides ends m .winding) : m = .winding := by
  cases h <;> rfl

/-- A source is ACTIVE. -/
def Alarmed (s : State) : Prop := ∃ e ∈ s.zrt.sources, e.state = .active

theorem quiet_of_alarmed {s : State} (h : Alarmed s) : quiet s = false := by
  obtain ⟨e, he, hstate⟩ := h
  have hany : s.zrt.sources.any (fun e => decide (e.state = .active)) = true :=
    List.any_eq_true.mpr ⟨e, he, by simpa using hstate⟩
  simp [quiet, emergencyExists, hany]

/-- The mode moves on as it does without a request; a stopped alert hold stays stopped while a source is ACTIVE. -/
structure Drifts (s t : State) : Prop where
  slides : Slides (warmUpEnds s) s.smc.mode t.smc.mode
  loud : Alarmed s → s.smc.mode = .nightAlert none → t.smc.mode = .nightAlert none
  ends : warmUpEnds t = warmUpEnds s
  alarmed : Alarmed s → Alarmed t

theorem Drifts.rfl (s : State) : Drifts s s := ⟨.stay _, fun _ h => h, Eq.refl _, id⟩

theorem Drifts.trans {s t u : State} (h : Drifts s t) (g : Drifts t u) : Drifts s u where
  slides := h.slides.trans (h.ends ▸ g.slides)
  loud ha hm := g.loud (h.alarmed ha) (h.loud ha hm)
  ends := g.ends.trans h.ends
  alarmed := g.alarmed ∘ h.alarmed

theorem alarmed_of_states {s t : State} (h : t.zrt.sources.map Source.state = s.zrt.sources.map Source.state)
    (ha : Alarmed s) : Alarmed t := by
  obtain ⟨e, he, hstate⟩ := ha
  have hmem : e.state ∈ t.zrt.sources.map Source.state := h ▸ List.mem_map_of_mem he
  obtain ⟨f, hf, hfe⟩ := List.mem_map.mp hmem
  exact ⟨f, hf, hfe.trans hstate⟩

theorem Plays.states {s t : State} (h : Plays s t) : t.zrt.sources.map Source.state = s.zrt.sources.map Source.state := by
  have := congrArg (List.map Source.state) h.sources
  rwa [List.map_map, List.map_map] at this

theorem Plays.warmUpEnds {s t : State} (h : Plays s t) : Machine.warmUpEnds t = Machine.warmUpEnds s := by
  unfold Machine.warmUpEnds State.after
  rw [h.clock, h.warmUp]

theorem Plays.drifts {s t : State} (h : Plays s t) (hs : Slides (Machine.warmUpEnds s) s.smc.mode t.smc.mode)
    (hl : Alarmed s → s.smc.mode = .nightAlert none → t.smc.mode = .nightAlert none) : Drifts s t :=
  ⟨hs, hl, h.warmUpEnds, alarmed_of_states h.states⟩

theorem Plays.drifts_of_mode {s t : State} (h : Plays s t) (hm : t.smc.mode = s.smc.mode) : Drifts s t :=
  h.drifts (hm ▸ .stay _) fun _ hn => hm.trans hn

/-- A change that touches neither SMC, nor the clock, nor the sources' states. -/
theorem drifts_of_same {s t : State} (hsmc : t.smc = s.smc) (hclock : t.clock = s.clock)
    (hsources : t.zrt.sources.map Source.state = s.zrt.sources.map Source.state) : Drifts s t where
  slides := hsmc ▸ .stay _
  loud _ h := hsmc ▸ h
  ends := by unfold Machine.warmUpEnds State.after; rw [hsmc, hclock]
  alarmed := alarmed_of_states hsources

theorem forEach_drifts {α : Type} {xs : List α} {f : α → State → State} (h : ∀ x s, Drifts s (f x s)) (s : State) :
    Drifts s (forEach xs f s) := by
  unfold forEach
  induction xs generalizing s with
  | nil => exact .rfl s
  | cons x xs ih => exact (h x s).trans (ih (f x s))

/-! ### The alert hold, emergencies and the end of winding -/

theorem judgeHold_drifts (s : State) : Drifts s (judgeHold s) := by
  obtain hm | ⟨h, hm, hm' | ⟨hq, t, hm'⟩⟩ := judgeHold_mode_cases s
  · exact (judgeHold_settles s).toPlays.drifts_of_mode hm
  · exact (judgeHold_settles s).toPlays.drifts (by rw [hm, hm']; exact .hold _ _) fun _ _ => hm'
  · exact (judgeHold_settles s).toPlays.drifts (by rw [hm, hm']; exact .hold _ _) fun ha _ => by
      rw [quiet_of_alarmed ha] at hq
      cases hq

theorem emergencyEvent_drifts (s : State) : Drifts s (emergencyEvent s) := by
  have hmode : ∀ m, Slides (warmUpEnds s) s.smc.mode m → (∀ x, s.smc.mode ≠ .nightAlert x) →
      Drifts s (setMode m .emergency s) := fun m hs hn =>
    (setMode_settles m .emergency s).toPlays.drifts hs fun _ hm => absurd hm (hn _)
  unfold emergencyEvent
  split
  · exact .rfl s
  · exact .rfl s
  next hm => exact hmode _ (by rw [hm]; exact .wake) fun x h => by rw [hm] at h; cases h
  next e hm => exact hmode _ (by rw [hm]; exact .redirect e) fun x h => by rw [hm] at h; cases h
  · exact .rfl s
  · exact judgeHold_drifts s

theorem windingTest_drifts (s : State) : Drifts s (windingTest s) := by
  unfold windingTest
  split
  next hw =>
    have hwound : ∀ t, Plays s t → t.smc.mode = .night ∨ (∃ x, t.smc.mode = .nightAlert x) → Drifts s t := fun t hp hm =>
      hp.drifts (by rw [hw.1]; exact .wound (hm.imp_right .inl)) fun _ hn => by rw [hw.1] at hn; cases hn
    split
    · exact hwound _ (enterNight_settles .woundDown s).toPlays (.inl (enterNight_mode .woundDown s).1)
    · exact hwound _ (enterNightAlert_settles .woundDown s).toPlays (.inr ⟨_, (enterNightAlert_mode .woundDown s).1⟩)
  · exact .rfl s

/-! ### Queues and runs -/

theorem drop_drifts (z : Nat) (reason : DropReason) (p : Placement) (s : State) : Drifts s (dropPlacement z reason p s) := by
  have hfreed : Drifts s (freeIfDone p.announcement (generate (dropNotice z p reason) (takePlacement z p.announcement s))) :=
    (((takePlacement_settles z p.announcement s).trans (generate_settles _ _)).trans
      (freeIfDone_settles _ _)).toPlays.drifts_of_mode (by rw [freeIfDone_smc]; rfl)
  exact hfreed.trans (judgeHold_drifts _)

theorem makeRoom_drifts (z p : Nat) (s : State) : Drifts s (makeRoom z p s) := by
  unfold makeRoom
  split
  · exact .rfl s
  · split
    · exact drop_drifts z .displaced _ s
    · exact .rfl s

theorem modifyZone_drifts (z : Nat) (f : Zone → Zone) (s : State) : Drifts s (s.modifyZone z f) := drifts_of_same rfl rfl rfl

theorem enterQueue_drifts (z : Nat) (p : Placement) (s : State) : Drifts s (enterQueue z p s) :=
  ((makeRoom_drifts z p.priority s).trans (modifyZone_drifts z _ _)).trans (judgeHold_drifts _)

theorem enterNew_drifts (z : Nat) (p : Placement) (s : State) : Drifts s (enterNew z p s) :=
  (drifts_of_same (s := s) (t := advanceStamp s) rfl rfl rfl).trans (enterQueue_drifts z _ _)

theorem generate_drifts (n : Notice) (s : State) : Drifts s (generate n s) := drifts_of_same rfl rfl rfl

theorem makeCoverage_drifts (z a : Nat) (s : State) : Drifts s (makeCoverage z a s) := by
  unfold makeCoverage
  split
  · exact (enterNew_drifts z _ s).trans (emergencyEvent_drifts _)
  · exact generate_drifts _ s

theorem takeRestored_drifts (z : Nat) (p : Placement) (marked : Bool) (s : State) : Drifts s (takeRestored z p marked s).2 := by
  unfold takeRestored
  split
  · exact generate_drifts _ s
  · exact enterQueue_drifts z _ s

theorem takeRepeat_drifts (z : Nat) (p : Placement) (left : Repeats) (notBefore : RunTime) (marked : Bool) (s : State) :
    Drifts s (takeRepeat z p left notBefore marked s).2 := by
  unfold takeRepeat
  split
  · exact generate_drifts _ s
  · exact enterNew_drifts z _ s

theorem disposePlacement_drifts (z : Nat) (a : Attached) (o : RunOutcome) (discard : Bool) (s : State) :
    Drifts s (disposePlacement z a o discard s).2 := by
  unfold disposePlacement
  dsimp only
  split
  · exact takeRestored_drifts z _ _ s
  · split
    · exact .rfl s
    · exact takeRestored_drifts z _ _ s
  · split
    · exact takeRepeat_drifts z _ _ _ _ s
    · split
      · exact .rfl s
      · exact takeRepeat_drifts z _ _ _ _ s

theorem endPart_drifts (c : Nat) (o : RunOutcome) (discard : Bool) (z : Nat) (s : State) :
    Drifts s (endPart c o discard z s) := by
  cases h : attachedTo s z c with
  | false => rw [endPart_of_detached h]; exact .rfl s
  | true =>
    obtain ⟨r, a, hr, ha⟩ := attachedTo_eq_true.mp h
    rw [endPart_eq hr ha rfl]
    have hresumed : ∀ u, Drifts u (resumeCoverage z r.announcement a discard u) := fun u => by
      unfold resumeCoverage
      split
      · exact makeCoverage_drifts z _ u
      · exact .rfl u
    have hleft : ∀ e u, Drifts u (recordLeft c e u) := fun e u => by
      unfold recordLeft
      split
      · exact drifts_of_same rfl rfl rfl
      · exact .rfl u
    exact (((drifts_of_same (s := s) (t := detachZone c z r s) rfl rfl rfl).trans (disposePlacement_drifts z a o discard _)).trans
      (hresumed _)).trans (hleft _ _)

theorem freeIfDone_drifts (a : Nat) (s : State) : Drifts s (freeIfDone a s) :=
  (freeIfDone_settles a s).toPlays.drifts_of_mode (by rw [freeIfDone_smc])

theorem channelIdle_drifts (c : Nat) (o : RunOutcome) (s : State) : Drifts s (channelIdle c o s) := by
  unfold channelIdle
  split
  · exact .rfl s
  · exact (((drifts_of_same (s := s) (t := s.setChannel c none) rfl rfl rfl).trans (freeIfDone_drifts _ _)).trans
      ((judgeHold_drifts _).trans (windingTest_drifts _))).trans (generate_drifts _ _)

theorem started_drifts (c : Nat) (x : Slot) (zs : List Nat) (seized : Option Nat) (s : State) :
    Drifts s (started c x zs seized s) := by
  have htaken : Drifts s (forEach zs (fun z => takePlacement z x.id) s) :=
    forEach_drifts (fun z s => modifyZone_drifts z _ s) s
  have hoccupied : ∀ r u, Drifts u (occupyChannel c r u) := fun _ _ => drifts_of_same rfl rfl rfl
  exact ((htaken.trans (hoccupied _ _)).trans (judgeHold_drifts _)).trans (generate_drifts _ _)

/-! ### Creations -/

theorem placeIn_drifts (x : Slot) (cs : Counts × State) (z : Nat) : Drifts cs.2 (placeIn x cs z).2 := by
  obtain ⟨c, s⟩ := cs
  unfold placeIn
  dsimp only
  split
  · exact .rfl s
  · split
    · exact generate_drifts _ s
    · exact enterNew_drifts z _ s

theorem foldl_placeIn_drifts (x : Slot) : ∀ (zs : List Nat) (cs : Counts × State),
    Drifts cs.2 (zs.foldl (placeIn x) cs).2
  | [], cs => .rfl cs.2
  | z :: zs, cs => (placeIn_drifts x cs z).trans (foldl_placeIn_drifts x zs (placeIn x cs z))

theorem removeSlot_drifts (a : Nat) (s : State) : Drifts s (removeSlot a s) := drifts_of_same rfl rfl rfl

theorem makeSlot_drifts (p : Nat) (s : State) : Drifts s (makeSlot p s) := by
  unfold makeSlot
  split
  · exact .rfl s
  · split
    next v _ =>
      have hdropped : ∀ s, Drifts s (dropEverywhere v.id .displaced s) := fun s => by
        unfold dropEverywhere
        exact forEach_drifts (fun z s => forEach_drifts (fun p s => drop_drifts z .displaced p s) s) s
      exact (hdropped s).trans (removeSlot_drifts _ _)
    · exact .rfl s

theorem create_drifts (x : Slot) (s : State) : Drifts s (create x s).2 := by
  unfold create
  split
  · have hmade := makeSlot_drifts x.priority s
    dsimp only
    generalize makeSlot x.priority s = m at hmade ⊢
    generalize nextId m = a
    have hrecorded : Drifts m (recordSlot x a m) := drifts_of_same rfl rfl rfl
    have hplaced : Drifts s (placeAll { x with id := a } (recordSlot x a m)).2 :=
      (hmade.trans hrecorded).trans (foldl_placeIn_drifts _ _ (noCounts, recordSlot x a m))
    split
    · exact hplaced
    · exact hplaced.trans (removeSlot_drifts _ _)
  · exact .rfl s

theorem drift_player : Player Drifts where
  rfl := .rfl
  trans := .trans
  generate := generate_drifts
  drop := drop_drifts
  cover _ := makeCoverage_drifts _ _ _
  endPart {c} _ := endPart_drifts c
  idle := channelIdle_drifts
  rerun _ _ := drifts_of_same (Eq.refl _) (Eq.refl _) (Eq.refl _)
  emergency := emergencyEvent_drifts
  start seized _ _ _ _ := started_drifts _ _ _ seized _
  pulse _ z s := modifyZone_drifts z _ s
  createEvac _ s := (create_drifts _ s).trans ((setVoice_settles ..).toPlays.drifts_of_mode (Eq.refl _))

theorem drift_router : Router Drifts where
  toPlayer := drift_player
  part := endPart_drifts
  withdrawn _ _ := drifts_of_same (Eq.refl _) (Eq.refl _) (Eq.refl _)
  create := create_drifts
  requeue _ z s := modifyZone_drifts z _ s
  latest _ _ := drifts_of_same (Eq.refl _) (Eq.refl _) (Eq.refl _)
  ttu _ _ := drifts_of_same (Eq.refl _) (Eq.refl _) (Eq.refl _)
  recover _ := modifyZone_drifts _ _ _
  write z s _ := modifyZone_drifts z _ s
  isolate z s :=
    ((modifyZone_drifts z (fun zn => { zn with base := .isolated }) s).trans
      (modifyZone_drifts z (fun zn => { zn with covering := none }) _)).trans
      ((drift_player.dropWhere z .isolated (fun _ => true) _).trans (drift_player.cutZone z .isolation _))
  groups _ _ := drifts_of_same (Eq.refl _) (Eq.refl _) (Eq.refl _)
  configure _ _ _ z s := modifyZone_drifts z _ s

end Sys2Proof.Machine


/-! PROOFS. WINDING lasts while a run below 6 plays (R147), the alert hold runs while the station is quiet (R151), and the
laws of the store and of the modes are kept by every step. -/

namespace Sys2Proof.Machine

open Sys2Proof.Claims

/-! ### Winding -/

/-- In WINDING a run below 6 is playing. -/
def WindOk (s : State) : Prop := s.smc.mode = .winding → lowRunPlaying s = true

/-- The law of WINDING carries over. -/
def KeepsWind (s t : State) : Prop := WindOk s → WindOk t

/-- Where the mode drifts, WINDING has not begun, and runs of low priority are to be kept. -/
theorem Drifts.keepsWind {s t : State} (h : Drifts s t) (hruns : lowRunPlaying s = true → lowRunPlaying t = true) :
    KeepsWind s t := fun hs hm => hruns (hs (by
  have hslides := h.slides
  rw [hm] at hslides
  exact hslides.winding))

theorem lowRunPlaying_congr {s t : State} (h : t.ple.channels = s.ple.channels) : lowRunPlaying t = lowRunPlaying s := by
  unfold lowRunPlaying runs
  rw [h]

theorem Drifts.keepsWind_of_channels {s t : State} (h : Drifts s t) (hc : t.ple.channels = s.ple.channels) :
    KeepsWind s t := h.keepsWind fun hl => (lowRunPlaying_congr hc).trans hl

/-- A run that is replaced by one of its priority. -/
theorem lowRunPlaying_of_set {s t : State} {c : Nat} {r r' : Run} (hr : s.channel c = some r)
    (hp : r'.priority = r.priority) (ht : t.ple.channels = s.ple.channels.set c (some r'))
    (h : lowRunPlaying s = true) : lowRunPlaying t = true := by
  obtain ⟨d, q, hq, hlow⟩ := lowRunPlaying_iff.mp h
  refine lowRunPlaying_iff.mpr ?_
  by_cases hd : d = c
  · subst hd
    rw [hr] at hq
    cases hq
    exact ⟨d, r', by unfold State.channel; rw [ht]; exact channel_set_self (lt_of_channel hr) _, by rwa [hp]⟩
  · exact ⟨d, q, by unfold State.channel at hq ⊢; rw [ht, channel_set_ne hd]; exact hq, hlow⟩

theorem windingTest_windOk (s : State) : WindOk (windingTest s) := by
  unfold windingTest
  split
  · split
    · exact fun hm => by rw [(enterNight_mode .woundDown s).1] at hm; cases hm
    · exact fun hm => by rw [(enterNightAlert_mode .woundDown s).1] at hm; cases hm
  next hw =>
    intro hm
    by_contra hlow
    exact hw ⟨hm, Bool.eq_false_iff.mpr hlow⟩

theorem channelIdle_keepsWind (c : Nat) (o : RunOutcome) (s : State) : KeepsWind s (channelIdle c o s) := by
  unfold channelIdle
  split
  · exact fun h => h
  · exact fun _ => windingTest_windOk _

theorem setMode_keepsWind {m : Mode} (h : m ≠ .winding) (cause : ModeCause) (s : State) : KeepsWind s (setMode m cause s) :=
  fun _ hm => absurd (setMode_mode m cause s ▸ hm) h

theorem endPart_keepsWind (c : Nat) (o : RunOutcome) (discard : Bool) (z : Nat) (s : State) :
    KeepsWind s (endPart c o discard z s) :=
  (endPart_drifts c o discard z s).keepsWind fun h => by
    obtain heq | ⟨r, a, fate, hr, -, hple⟩ := endPart_cases c o discard z s
    · rwa [heq]
    · exact lowRunPlaying_of_set (r' := partEnded z { zone := z, outcome := o, fate := fate } r) hr (Eq.refl _)
        (congrArg Ple.channels hple) h

theorem wind_player : Player KeepsWind where
  rfl _ h := h
  trans h g hs := g (h hs)
  generate n s := (generate_drifts n s).keepsWind_of_channels (Eq.refl _)
  drop z reason p s := (drop_drifts z reason p s).keepsWind_of_channels
    (congrArg Ple.channels (dropPlacement_keepsRuns z reason p s).ple)
  cover {z a s} _ := (makeCoverage_drifts z a s).keepsWind_of_channels
    (congrArg Ple.channels (makeCoverage_keepsRuns z a s).ple)
  endPart {c} _ := endPart_keepsWind c
  idle := channelIdle_keepsWind
  rerun {c r r' s} hr h := (drift_player.rerun hr h).keepsWind fun hl =>
    lowRunPlaying_of_set hr h.priority (Eq.refl _) hl
  emergency s := (emergencyEvent_drifts s).keepsWind_of_channels
    (congrArg Ple.channels (emergencyEvent_keepsRuns s).ple)
  start {c x z zs s} seized _ hidle _ _ := (started_drifts c x (z :: zs) seized s).keepsWind fun h => by
    obtain ⟨d, q, hq, hlow⟩ := lowRunPlaying_iff.mp h
    have hd : d ≠ c := fun hd => by rw [hd, hidle] at hq; cases hq
    refine lowRunPlaying_iff.mpr ⟨d, q, ?_, hlow⟩
    unfold State.channel at hq ⊢
    rw [started_ple]
    exact (channel_set_ne hd _).trans hq
  pulse {f} _ z s := (modifyZone_drifts z f s).keepsWind_of_channels (Eq.refl _)
  createEvac n s := (drift_player.createEvac n s).keepsWind_of_channels
    (congrArg Ple.channels (create_keepsRuns (evacProto s n) s).ple)

theorem wind_router : Router KeepsWind where
  toPlayer := wind_player
  part := endPart_keepsWind
  withdrawn a s := (drift_router.withdrawn a s).keepsWind_of_channels (Eq.refl _)
  create x s := (create_drifts x s).keepsWind_of_channels (congrArg Ple.channels (create_keepsRuns x s).ple)
  requeue {g} _ z s := (modifyZone_drifts z (fun zn => { zn with queue := zn.queue.map g }) s).keepsWind_of_channels (Eq.refl _)
  latest limit s := (drift_router.latest limit s).keepsWind_of_channels (Eq.refl _)
  ttu s x := (drift_router.ttu s x).keepsWind_of_channels (Eq.refl _)
  recover h := (drift_router.recover h).keepsWind_of_channels (Eq.refl _)
  write z s h := (drift_router.write z s h).keepsWind_of_channels (Eq.refl _)
  isolate z s := by
    have hset : KeepsWind s (setCovering z none (writeBase z .isolated s)) :=
      ((modifyZone_drifts z (fun zn => { zn with base := .isolated }) s).trans
        (modifyZone_drifts z (fun zn => { zn with covering := none }) _)).keepsWind_of_channels (Eq.refl _)
    have hdrop := wind_player.dropWhere z .isolated (fun _ => true) (setCovering z none (writeBase z .isolated s))
    have hcut := wind_player.cutZone z .isolation
      (dropWhere z .isolated (fun _ => true) (setCovering z none (writeBase z .isolated s)))
    exact fun hs => hcut (hdrop (hset hs))
  groups s g := (drift_router.groups s g).keepsWind_of_channels (Eq.refl _)
  configure r k m z s := (drift_router.configure r k m z s).keepsWind_of_channels (Eq.refl _)

theorem ne_winding_of_nightAlert {m : Mode} {h : Option RunTime} (hm : m = .nightAlert h) : m ≠ .winding := by
  rw [hm]
  simp

theorem wind_worker : Worker KeepsWind where
  toPlacer := wind_router.toPlacer
  requestOpen cause s := by
    unfold requestOpen
    split
    · exact fun h => h
    · exact setMode_keepsWind (by simp) cause s
    · exact setMode_keepsWind (by simp) cause s
    · split
      · exact fun h => h
      · exact setMode_keepsWind (by simp) cause s
    · exact setMode_keepsWind (by simp) cause s
  requestNight cause s := by
    unfold requestNight
    split
    · exact fun _ => windingTest_windOk _
    · exact fun h => h
    · exact fun h => h
    · split
      · exact fun h => h
      · exact setMode_keepsWind (by simp) cause s
    · exact fun h => h
  warmUpEnd {t e s} _ := by
    cases t with
    | opn => exact setMode_keepsWind (m := .opn) (by simp) .warmed s
    | nightAlert =>
      obtain ⟨-, -, halert⟩ := enterTarget_spec .nightAlert s
      obtain ⟨-, -, hmode⟩ := halert (Eq.refl _)
      exact fun _ hm => absurd hm (ne_winding_of_nightAlert hmode)
    | night =>
      obtain ⟨-, hnight, -⟩ := enterTarget_spec .night s
      exact fun _ hm => absurd ((hnight (Eq.refl _)).1.symm.trans hm) (by simp)
  holdEnd {t s} _ := fun _ hm => by rw [(enterNight_mode .holdExpired s).1] at hm; cases hm

theorem source_keepsWind (n : Nat) (f : Source → Source) (s : State) : KeepsWind s (s.modifySource n f) := fun h => h

theorem Alike.keepsWind {s t : State} (h : Alike s t) : KeepsWind s t := fun hs hm =>
  (lowRunPlaying_congr h.channels).trans (hs (h.mode ▸ hm))

theorem wind_keeper : Keeper KeepsWind :=
  wind_router.keeper wind_worker (fun h => h.keepsWind) (fun _ _ hm => by cases hm)
    (fun cause s _ => warmReset_of_router (P := WindOk) wind_router cause fun hm => by
      have hmode : warmMode s.smc.mode s.smc.warmUp = .winding := hm
      cases hs : s.smc.mode <;> rw [hs] at hmode <;> cases hmode)
    (wind_router.activate fun n f s _ => source_keepsWind n f s)
    (wind_router.clearSource fun n f s _ => source_keepsWind n f s)

/-! ### The alert hold -/

/-- In NIGHT_ALERT the hold runs exactly while the station is quiet. -/
def HoldOk (s : State) : Prop := ∀ h, s.smc.mode = .nightAlert h → h.isSome = quiet s

/-- The law of the alert hold carries over. -/
def KeepsHold (s t : State) : Prop := HoldOk s → HoldOk t

theorem judgeHold_holdOk (s : State) : HoldOk (judgeHold s) := by
  intro h hm
  rw [judgeHold_quiet]
  unfold judgeHold at hm
  split at hm
  next hold hs =>
    split at hm
    next hq =>
      cases hold with
      | none => cases hm; exact hq.symm
      | some t =>
        dsimp only at hm
        rw [hs] at hm
        cases hm
        exact hq.symm
    next hq => cases hm; exact (Bool.eq_false_iff.mpr hq).symm
  next hne => exact absurd hm (hne h)

theorem emergencyEvent_holdOk (s : State) : HoldOk (emergencyEvent s) := by
  unfold emergencyEvent
  split
  next hm => exact fun h hn => by rw [hm] at hn; cases hn
  next hm => exact fun h hn => by rw [hm] at hn; cases hn
  · exact fun h hn => by cases hn
  · exact fun h hn => by cases hn
  next hm => exact fun h hn => by rw [hm] at hn; cases hn
  · exact judgeHold_holdOk s

theorem generate_keepsHold (n : Notice) (s : State) : KeepsHold s (generate n s) := fun h => h

theorem enterNightAlert_holdOk (cause : ModeCause) (s : State) : HoldOk (enterNightAlert cause s) := judgeHold_holdOk _

theorem enterNight_holdOk (cause : ModeCause) (s : State) : HoldOk (enterNight cause s) := fun h hm => by
  rw [(enterNight_mode cause s).1] at hm
  cases hm

theorem windingTest_keepsHold (s : State) : KeepsHold s (windingTest s) := by
  unfold windingTest
  split
  · split
    · exact fun _ => enterNight_holdOk _ s
    · exact fun _ => enterNightAlert_holdOk _ s
  · exact fun h => h

/-- A change after which the part is as quiet as before, in the same mode. -/
theorem keepsHold_of_quiet {s t : State} (hm : t.smc.mode = s.smc.mode) (hq : quiet t = quiet s) : KeepsHold s t :=
  fun h hold hn => (h hold (hm ▸ hn)).trans hq.symm

/-- How quiet a part is depends on whether it plays, on the priorities in its queues, and on its ACTIVE sources. -/
theorem quiet_congr {s t : State} (hruns : (runs t).isEmpty = (runs s).isEmpty)
    (hzones : t.zrt.zones.map (fun z => z.queue.map Placement.priority) =
      s.zrt.zones.map (fun z => z.queue.map Placement.priority))
    (hsources : t.zrt.sources.map Source.state = s.zrt.sources.map Source.state) : quiet t = quiet s := by
  have hany : ∀ u : State, u.zrt.zones.any (fun z => z.queue.any (fun p => decide (6 ≤ p.priority))) =
      (u.zrt.zones.map (fun z => z.queue.map Placement.priority)).any (fun ps => ps.any (fun p => decide (6 ≤ p))) :=
    fun u => by rw [List.any_map]; congr 1; funext z; simp [List.any_map, Function.comp_def]
  have hactive : ∀ u : State, u.zrt.sources.any (fun e => decide (e.state = .active)) =
      (u.zrt.sources.map Source.state).any (fun x => decide (x = .active)) := fun u => by rw [List.any_map]; rfl
  unfold quiet emergencyExists
  rw [hruns, hany, hany, hzones, hactive, hactive, hsources]

theorem map_queue_modify {f : Zone → Zone} (hf : ∀ zn, (f zn).queue.map Placement.priority = zn.queue.map Placement.priority)
    (z : Nat) (s : State) : (s.modifyZone z f).zrt.zones.map (fun z => z.queue.map Placement.priority) =
      s.zrt.zones.map (fun z => z.queue.map Placement.priority) := map_modify (f := f) hf _ _

theorem modifyZone_keepsHold {f : Zone → Zone}
    (hf : ∀ zn, (f zn).queue.map Placement.priority = zn.queue.map Placement.priority) (z : Nat) (s : State) :
    KeepsHold s (s.modifyZone z f) := keepsHold_of_quiet rfl (quiet_congr rfl (map_queue_modify hf z s) rfl)

theorem runs_isEmpty_of_set {s t : State} {c : Nat} {r r' : Run} (hr : s.channel c = some r)
    (ht : t.ple.channels = s.ple.channels.set c (some r')) : (runs t).isEmpty = (runs s).isEmpty := by
  have hs : (runs s).isEmpty = false := by
    rw [List.isEmpty_eq_false_iff]
    exact List.ne_nil_of_mem (mem_runs_iff.mpr ⟨c, hr⟩)
  have hnew : t.channel c = some r' := by
    unfold State.channel
    rw [ht]
    exact channel_set_self (lt_of_channel hr) _
  rw [hs, List.isEmpty_eq_false_iff]
  exact List.ne_nil_of_mem (mem_runs_iff.mpr ⟨c, hnew⟩)

theorem setChannel_keepsHold {s : State} {c : Nat} {r r' : Run} (hr : s.channel c = some r) :
    KeepsHold s (s.setChannel c (some r')) := keepsHold_of_quiet rfl (quiet_congr (runs_isEmpty_of_set hr rfl) rfl rfl)

theorem enterNew_keepsHold (z : Nat) (p : Placement) (s : State) : KeepsHold s (enterNew z p s) := fun _ => judgeHold_holdOk _

theorem makeCoverage_keepsHold (z a : Nat) (s : State) : KeepsHold s (makeCoverage z a s) := by
  unfold makeCoverage
  split
  · exact fun _ => emergencyEvent_holdOk _
  · exact generate_keepsHold _ s

theorem takeRestored_keepsHold (z : Nat) (p : Placement) (marked : Bool) (s : State) :
    KeepsHold s (takeRestored z p marked s).2 := by
  unfold takeRestored
  split
  · exact generate_keepsHold _ s
  · exact fun _ => judgeHold_holdOk _

theorem takeRepeat_keepsHold (z : Nat) (p : Placement) (left : Repeats) (notBefore : RunTime) (marked : Bool) (s : State) :
    KeepsHold s (takeRepeat z p left notBefore marked s).2 := by
  unfold takeRepeat
  split
  · exact generate_keepsHold _ s
  · exact enterNew_keepsHold z _ s

theorem disposePlacement_keepsHold (z : Nat) (a : Attached) (o : RunOutcome) (discard : Bool) (s : State) :
    KeepsHold s (disposePlacement z a o discard s).2 := by
  unfold disposePlacement
  dsimp only
  split
  · exact takeRestored_keepsHold z _ _ s
  · split
    · exact fun h => h
    · exact takeRestored_keepsHold z _ _ s
  · split
    · exact takeRepeat_keepsHold z _ _ _ _ s
    · split
      · exact fun h => h
      · exact takeRepeat_keepsHold z _ _ _ _ s

theorem endPart_keepsHold (c : Nat) (o : RunOutcome) (discard : Bool) (z : Nat) (s : State) :
    KeepsHold s (endPart c o discard z s) := by
  cases h : attachedTo s z c with
  | false => rw [endPart_of_detached h]; exact fun h => h
  | true =>
    obtain ⟨r, a, hr, ha⟩ := attachedTo_eq_true.mp h
    rw [endPart_eq hr ha rfl]
    have hdetached : KeepsHold s (detachZone c z r s) := fun hs =>
      modifyZone_keepsHold (f := fun zn => { zn with pulseEnd := none }) (fun _ => rfl) z _ (setChannel_keepsHold hr hs)
    have hresumed : ∀ u, KeepsHold u (resumeCoverage z r.announcement a discard u) := fun u => by
      unfold resumeCoverage
      split
      · exact makeCoverage_keepsHold z _ u
      · exact fun h => h
    have hleft : ∀ e u, KeepsHold u (recordLeft c e u) := fun e u => by
      unfold recordLeft
      split
      next hq => exact setChannel_keepsHold hq
      · exact fun h => h
    exact fun hs => hleft _ _ (hresumed _ (disposePlacement_keepsHold z a o discard _ (hdetached hs)))

theorem channelIdle_keepsHold (c : Nat) (o : RunOutcome) (s : State) : KeepsHold s (channelIdle c o s) := by
  unfold channelIdle
  split
  · exact fun h => h
  · exact fun _ => windingTest_keepsHold _ (judgeHold_holdOk _)

theorem foldl_placeIn_keepsHold (x : Slot) : ∀ (zs : List Nat) (cs : Counts × State),
    KeepsHold cs.2 (zs.foldl (placeIn x) cs).2
  | [], _ => fun h => h
  | z :: zs, (c, s) => fun h => by
    refine foldl_placeIn_keepsHold x zs (placeIn x (c, s) z) ?_
    unfold placeIn
    dsimp only
    split
    · exact h
    · split
      · exact generate_keepsHold _ s h
      · exact enterNew_keepsHold z _ s h

theorem removeSlot_keepsHold (a : Nat) (s : State) : KeepsHold s (removeSlot a s) := fun h => h

theorem forEach_keepsHold {α : Type} {f : α → State → State} (h : ∀ x s, KeepsHold s (f x s)) :
    ∀ (xs : List α) (s : State), KeepsHold s (forEach xs f s)
  | [], _, hs => hs
  | x :: xs, s, hs => forEach_keepsHold h xs (f x s) (h x s hs)

theorem create_keepsHold (x : Slot) (s : State) : KeepsHold s (create x s).2 := by
  have hmade : ∀ p s, KeepsHold s (makeSlot p s) := fun p s => by
    unfold makeSlot
    split
    · exact fun h => h
    · split
      next v _ =>
        have hdropped : KeepsHold s (dropEverywhere v.id .displaced s) := by
          unfold dropEverywhere
          exact forEach_keepsHold (fun z s => forEach_keepsHold (fun p s _ => judgeHold_holdOk _) _ s) _ s
        exact fun h => removeSlot_keepsHold _ _ (hdropped h)
      · exact fun h => h
  unfold create
  split
  · have hm := hmade x.priority s
    dsimp only
    generalize makeSlot x.priority s = m at hm ⊢
    generalize nextId m = a
    have hrecorded : KeepsHold m (recordSlot x a m) := fun h => h
    have hplaced : KeepsHold s (placeAll { x with id := a } (recordSlot x a m)).2 := fun h =>
      foldl_placeIn_keepsHold _ _ (noCounts, recordSlot x a m) (hrecorded (hm h))
    split
    · exact hplaced
    · exact fun h => removeSlot_keepsHold _ _ (hplaced h)
  · exact fun h => h

theorem map_state_modify {f : Source → Source} (hf : ∀ e, (f e).state = e.state) (n : Nat) (s : State) :
    (s.modifySource n f).zrt.sources.map Source.state = s.zrt.sources.map Source.state := map_modify (f := f) hf _ _

theorem setVoice_keepsHold (n : Nat) (v : Voice) (s : State) : KeepsHold s (setVoice n v s) :=
  keepsHold_of_quiet rfl (quiet_congr rfl rfl (map_state_modify (f := fun e => { e with voice := v }) (fun _ => rfl) n s))

theorem hold_player : Player KeepsHold where
  rfl _ h := h
  trans h g hs := g (h hs)
  generate := generate_keepsHold
  drop _ _ _ _ := fun _ => judgeHold_holdOk _
  cover _ := makeCoverage_keepsHold _ _ _
  endPart {c} _ := endPart_keepsHold c
  idle := channelIdle_keepsHold
  rerun hr _ := setChannel_keepsHold hr
  emergency s := fun _ => emergencyEvent_holdOk s
  start _ _ _ _ _ := fun _ => judgeHold_holdOk _
  pulse {f} hf z s := modifyZone_keepsHold (f := f) (fun zn => by rw [hf zn]) z s
  createEvac n s := fun h => setVoice_keepsHold n _ _ (create_keepsHold (evacProto s n) s h)

theorem hold_router : Router KeepsHold where
  toPlayer := hold_player
  part := endPart_keepsHold
  withdrawn _ _ := fun h => h
  create := create_keepsHold
  requeue {g} hg z s := modifyZone_keepsHold (f := fun zn => { zn with queue := zn.queue.map g }) (fun zn => by
    rw [List.map_map]; exact List.map_congr_left fun p _ => (hg p).2) z s
  latest _ _ := fun h => h
  ttu _ _ := fun h => h
  recover {z n s} _ := modifyZone_keepsHold (f := fun zn => { zn with covering := n }) (fun _ => Eq.refl _) z s
  write {b} z s _ := modifyZone_keepsHold (f := fun zn => { zn with base := b }) (fun _ => Eq.refl _) z s
  isolate z s := by
    have hset : KeepsHold s (setCovering z none (writeBase z .isolated s)) := fun h =>
      modifyZone_keepsHold (f := fun zn => { zn with covering := none }) (fun _ => Eq.refl _) z _
        (modifyZone_keepsHold (f := fun zn => { zn with base := .isolated }) (fun _ => Eq.refl _) z s h)
    have hdrop := hold_player.dropWhere z .isolated (fun _ => true) (setCovering z none (writeBase z .isolated s))
    have hcut := hold_player.cutZone z .isolation
      (dropWhere z .isolated (fun _ => true) (setCovering z none (writeBase z .isolated s)))
    exact fun hs => hcut (hdrop (hset hs))
  groups _ _ := fun h => h
  configure r k m z s := modifyZone_keepsHold (f := configured r k m) (fun _ => Eq.refl _) z s

theorem holdOk_of_mode {s : State} (h : ∀ x, s.smc.mode ≠ .nightAlert x) : HoldOk s := fun x hm => absurd hm (h x)

theorem setMode_keepsHold {m : Mode} (h : ∀ x, m ≠ .nightAlert x) (cause : ModeCause) (s : State) :
    KeepsHold s (setMode m cause s) := fun _ => holdOk_of_mode fun x hm => h x (setMode_mode m cause s ▸ hm)

theorem hold_worker : Worker KeepsHold where
  toPlacer := hold_router.toPlacer
  requestOpen cause s := by
    unfold requestOpen
    split
    · exact fun h => h
    · exact setMode_keepsHold (by simp) cause s
    · exact setMode_keepsHold (by simp) cause s
    · split
      · exact fun h => h
      · exact setMode_keepsHold (by simp) cause s
    · exact setMode_keepsHold (by simp) cause s
  requestNight cause s := by
    unfold requestNight
    split
    · exact fun h => windingTest_keepsHold _ (setMode_keepsHold (m := .winding) (by simp) cause s h)
    · exact fun h => h
    · exact fun h => h
    · split
      · exact fun h => h
      · exact setMode_keepsHold (by simp) cause s
    · exact fun h => h
  warmUpEnd {t e s} _ := by
    cases t with
    | opn => exact setMode_keepsHold (m := .opn) (by simp) .warmed s
    | nightAlert => exact fun _ => enterNightAlert_holdOk .warmed s
    | night => exact fun _ => enterNight_holdOk .warmed s
  holdEnd _ := fun _ => enterNight_holdOk _ _

theorem Alike.keepsHold {s t : State} (h : Alike s t) : KeepsHold s t :=
  keepsHold_of_quiet h.mode (quiet_congr (congrArg (fun cs => (cs.filterMap id).isEmpty) h.channels) (by
    have := congrArg (List.map (fun z : Zone => z.queue.map Placement.priority)) h.zones
    rwa [List.map_map, List.map_map] at this) (congrArg _ h.sources))

/-- SMC hears of every activation and of every clearing, and judges the hold (R149, R151). -/
theorem hold_keeper : Keeper KeepsHold :=
  hold_router.keeper hold_worker (fun h => h.keepsHold) (fun _ _ h hm => by cases hm)
    (fun _ _ _ => hold_player.settle _ (judgeHold_holdOk _))
    (fun _ _ _ _ _ => hold_player.settle _ (emergencyEvent_holdOk _))
    (fun _ _ _ => hold_player.settle _ (generate_keepsHold _ _ (judgeHold_holdOk _)))

/-! ### The two laws -/

theorem lawful_of_laws {s : State} (hc : CapacityOk s) (ha : AnnouncementsOk s) (hm : ModeOk s) : Lawful s where
  slots := hc.slots
  store :=
    { zones := hc.zones
      sources := hc.sources
      channels := hc.channels
      queued := fun y p hp => ha.queued _ (mem_zones_of_mem_queue hp) p hp
      playing := ha.playing
      voiced := ha.voiced
      used := fun x hx _ => used_iff.mpr (ha.used x hx) }
  hush :=
    { plays := fun c r hr => by
        cases hmode : s.smc.mode with
        | opn | winding => trivial
        | night => rw [hm.silent (.inl hmode) c] at hr; cases hr
        | warming g e => rw [hm.silent (.inr ⟨g, e, hmode⟩) c] at hr; cases hr
        | nightAlert hold =>
          cases hold with
          | none => exact hm.alert _ hmode c r hr
          | some t =>
            have hquiet := hm.hold _ hmode
            rw [silent_of_quiet hquiet.symm c] at hr
            cases hr
      queues := fun hn y p hp => by
        refine hm.queues ?_ _ (mem_zones_of_mem_queue hp) p hp
        cases hmode : s.smc.mode with
        | night => exact .inl rfl
        | nightAlert hold => exact .inr ⟨hold, rfl⟩
        | opn | winding | warming g e => rw [hmode] at hn; cases hn }

theorem Lawful.announcements {s : State} (h : Lawful s) : AnnouncementsOk s where
  queued z hz p hp := by
    obtain ⟨y, rfl⟩ := zone_of_mem_zones hz
    exact h.store.queued y p hp
  playing := h.store.playing
  voiced := h.store.voiced
  used x hx := used_iff.mp (h.store.used x hx id)

theorem Lawful.mode {s : State} (h : Lawful s) (hw : WindOk s) (hh : HoldOk s) : ModeOk s where
  silent hm c := by
    cases hr : s.channel c with
    | none => rfl
    | some r =>
      have hlets := h.hush.plays c r hr
      obtain hm | ⟨g, e, hm⟩ := hm
      · rw [hm] at hlets; exact hlets.elim
      · rw [hm] at hlets; exact hlets.elim
  alert hold hm c r hr := six_le_of_lets (h.hush.plays c r hr) (by rw [hm]; rfl)
  hold := hh
  queues hm z hz p hp := by
    obtain ⟨y, rfl⟩ := zone_of_mem_zones hz
    refine h.hush.queues ?_ y p hp
    obtain hm | ⟨hold, hm⟩ := hm
    · rw [hm]; rfl
    · rw [hm]; rfl
  winding hm := lowRunPlaying_iff.mp (hw hm)

/-- Settles O20: the store and what the modes let play are kept together, WINDING and the alert hold each by itself. -/
theorem everyStepKeepsTheAnnouncementsAndTheMode : Obligations.EveryStepKeepsTheAnnouncementsAndTheMode := by
  unfold Obligations.EveryStepKeepsTheAnnouncementsAndTheMode
  intro s t hc ha hm hstep
  have hlaw := law_keeper.step hstep (lawful_of_laws hc ha hm)
  have hwind := wind_keeper.step hstep fun h => lowRunPlaying_iff.mpr (hm.winding h)
  have hhold := hold_keeper.step hstep hm.hold
  exact ⟨hlaw.announcements, hlaw.mode hwind hhold⟩

end Sys2Proof.Machine


/-! PROOFS. How the store ages: a slot there is an earlier one, or of a later creation (R81, R82). -/

namespace Sys2Proof.Machine

open Sys2Proof.Claims

/-- The slot `x` is the slot `y`, perhaps withdrawn since or with its latest start reduced. -/
structure SameSlot (y x : Slot) : Prop where
  id : x.id = y.id
  seq : x.seq = y.seq
  call : x.call = y.call
  origin : x.origin = y.origin
  withdrawn : y.withdrawn = true → x.withdrawn = true

theorem SameSlot.rfl (x : Slot) : SameSlot x x := ⟨Eq.refl _, Eq.refl _, Eq.refl _, Eq.refl _, fun h => h⟩

theorem SameSlot.trans {x y z : Slot} (h : SameSlot x y) (g : SameSlot y z) : SameSlot x z :=
  ⟨g.id.trans h.id, g.seq.trans h.seq, g.call.trans h.call, g.origin.trans h.origin, g.withdrawn ∘ h.withdrawn⟩

/-! ### Work that creates nothing -/

/-- `t` is `s` after work that at most frees slots. -/
structure Shrinks (s t : State) : Prop where
  created : t.asc.created = s.asc.created
  slots : t.asc.slots.Sublist s.asc.slots

theorem Shrinks.rfl (s : State) : Shrinks s s := ⟨Eq.refl _, List.Sublist.refl _⟩

theorem Shrinks.trans {s t u : State} (h : Shrinks s t) (g : Shrinks t u) : Shrinks s u :=
  ⟨g.created.trans h.created, g.slots.trans h.slots⟩

theorem shrinks_of_asc {s t : State} (h : t.asc = s.asc) : Shrinks s t := ⟨by rw [h], by rw [h]⟩

theorem forEach_shrinks {α : Type} {f : α → State → State} (h : ∀ x s, Shrinks s (f x s)) :
    ∀ (xs : List α) (s : State), Shrinks s (forEach xs f s)
  | [], s => .rfl s
  | x :: xs, s => (h x s).trans (forEach_shrinks h xs (f x s))

theorem judgeHold_shrinks (s : State) : Shrinks s (judgeHold s) := shrinks_of_asc (judgeHold_asc s)

theorem removeSlot_shrinks (a : Nat) (s : State) : Shrinks s (removeSlot a s) := ⟨rfl, List.filter_sublist⟩

theorem freeIfDone_shrinks (a : Nat) (s : State) : Shrinks s (freeIfDone a s) := by
  unfold freeIfDone
  split
  · exact (removeSlot_shrinks a s).trans (shrinks_of_asc (silenceVoices_asc ..))
  · exact .rfl s

theorem drop_shrinks (z : Nat) (reason : DropReason) (p : Placement) (s : State) : Shrinks s (dropPlacement z reason p s) :=
  ((shrinks_of_asc (s := s) (t := generate (dropNotice z p reason) (takePlacement z p.announcement s)) rfl).trans
    (freeIfDone_shrinks _ _)).trans (judgeHold_shrinks _)

theorem dropForNight_shrinks (s : State) : Shrinks s (dropForNight s) := by
  unfold dropForNight
  exact forEach_shrinks (fun z s => forEach_shrinks (fun p s => drop_shrinks z .night p s) _ s) _ s

theorem setMode_shrinks (m : Mode) (cause : ModeCause) (s : State) : Shrinks s (setMode m cause s) := shrinks_of_asc rfl

theorem windingTest_shrinks (s : State) : Shrinks s (windingTest s) := by
  unfold windingTest
  split
  · split
    · unfold enterNight
      exact (dropForNight_shrinks s).trans (setMode_shrinks _ _ _)
    · unfold enterNightAlert
      exact ((dropForNight_shrinks s).trans (setMode_shrinks _ _ _)).trans (judgeHold_shrinks _)
  · exact .rfl s

theorem emergencyEvent_asc (s : State) : (emergencyEvent s).asc = s.asc := by
  unfold emergencyEvent
  split
  · rfl
  · rfl
  · rfl
  · rfl
  · rfl
  · exact judgeHold_asc s

theorem enterQueue_shrinks (z : Nat) (p : Placement) (s : State) : Shrinks s (enterQueue z p s) := by
  have hroom : Shrinks s (makeRoom z p.priority s) := by
    unfold makeRoom
    split
    · exact .rfl s
    · split
      · exact drop_shrinks z .displaced _ s
      · exact .rfl s
  exact hroom.trans (shrinks_of_asc (enterQueue_asc z p s))

theorem enterNew_shrinks (z : Nat) (p : Placement) (s : State) : Shrinks s (enterNew z p s) :=
  (shrinks_of_asc (s := s) (t := advanceStamp s) rfl).trans (enterQueue_shrinks z _ _)

theorem makeCoverage_shrinks (z a : Nat) (s : State) : Shrinks s (makeCoverage z a s) := by
  unfold makeCoverage
  split
  · exact (enterNew_shrinks z _ s).trans (shrinks_of_asc (emergencyEvent_asc _))
  · exact shrinks_of_asc rfl

theorem takeRestored_shrinks (z : Nat) (p : Placement) (marked : Bool) (s : State) : Shrinks s (takeRestored z p marked s).2 := by
  unfold takeRestored
  split
  · exact shrinks_of_asc rfl
  · exact enterQueue_shrinks z _ s

theorem takeRepeat_shrinks (z : Nat) (p : Placement) (left : Repeats) (notBefore : RunTime) (marked : Bool) (s : State) :
    Shrinks s (takeRepeat z p left notBefore marked s).2 := by
  unfold takeRepeat
  split
  · exact shrinks_of_asc rfl
  · exact enterNew_shrinks z _ s

theorem disposePlacement_shrinks (z : Nat) (a : Attached) (o : RunOutcome) (discard : Bool) (s : State) :
    Shrinks s (disposePlacement z a o discard s).2 := by
  unfold disposePlacement
  dsimp only
  split
  · exact takeRestored_shrinks z _ _ s
  · split
    · exact .rfl s
    · exact takeRestored_shrinks z _ _ s
  · split
    · exact takeRepeat_shrinks z _ _ _ _ s
    · split
      · exact .rfl s
      · exact takeRepeat_shrinks z _ _ _ _ s

theorem endPart_shrinks (c : Nat) (o : RunOutcome) (discard : Bool) (z : Nat) (s : State) :
    Shrinks s (endPart c o discard z s) := by
  cases h : attachedTo s z c with
  | false => rw [endPart_of_detached h]; exact .rfl s
  | true =>
    obtain ⟨r, a, hr, ha⟩ := attachedTo_eq_true.mp h
    rw [endPart_eq hr ha rfl]
    have hresumed : ∀ u, Shrinks u (resumeCoverage z r.announcement a discard u) := fun u => by
      unfold resumeCoverage
      split
      · exact makeCoverage_shrinks z _ u
      · exact .rfl u
    have hleft : ∀ e u, Shrinks u (recordLeft c e u) := fun e u => by
      unfold recordLeft
      split
      · exact shrinks_of_asc rfl
      · exact .rfl u
    exact (((shrinks_of_asc (s := s) (t := detachZone c z r s) rfl).trans (disposePlacement_shrinks z a o discard _)).trans
      (hresumed _)).trans (hleft _ _)

theorem channelIdle_shrinks (c : Nat) (o : RunOutcome) (s : State) : Shrinks s (channelIdle c o s) := by
  unfold channelIdle
  split
  · exact .rfl s
  next r _ =>
    have hfreed : Shrinks s (freeIfDone r.announcement (s.setChannel c none)) :=
      (shrinks_of_asc (s := s) (t := s.setChannel c none) rfl).trans (freeIfDone_shrinks _ _)
    have hended : ∀ n u, Shrinks u (generate n (runEndReported u)) := fun n u =>
      ((judgeHold_shrinks u).trans (windingTest_shrinks _)).trans (shrinks_of_asc rfl)
    exact hfreed.trans (hended _ _)

theorem foldl_placeIn_shrinks (x : Slot) : ∀ (zs : List Nat) (cs : Counts × State), Shrinks cs.2 (zs.foldl (placeIn x) cs).2
  | [], cs => .rfl cs.2
  | z :: zs, (c, s) => by
    refine Shrinks.trans (t := (placeIn x (c, s) z).2) ?_ (foldl_placeIn_shrinks x zs (placeIn x (c, s) z))
    unfold placeIn
    dsimp only
    split
    · exact .rfl s
    · split
      · exact shrinks_of_asc rfl
      · exact enterNew_shrinks z _ s

theorem makeSlot_shrinks (p : Nat) (s : State) : Shrinks s (makeSlot p s) := by
  unfold makeSlot
  split
  · exact .rfl s
  · split
    next v _ =>
      have hdropped : Shrinks s (dropEverywhere v.id .displaced s) := by
        unfold dropEverywhere
        exact forEach_shrinks (fun z s => forEach_shrinks (fun p s => drop_shrinks z .displaced p s) _ s) _ s
      exact hdropped.trans (removeSlot_shrinks _ _)
    · exact .rfl s

/-! ### Creations -/

/-- Each slot of `t` is one of `s`, or one created since whose origin is among `P`. -/
structure Ages (P : Origin → Prop) (s t : State) : Prop where
  created : s.asc.created ≤ t.asc.created
  slots : ∀ x ∈ t.asc.slots, (∃ y ∈ s.asc.slots, SameSlot y x) ∨ (s.asc.created ≤ x.seq ∧ P x.origin)
  capacity : s.asc.slots.length ≤ 64 → t.asc.slots.length ≤ 64

section
variable {P : Origin → Prop} {s t u : State}

theorem Ages.rfl (s : State) : Ages P s s := ⟨Nat.le_refl _, fun x hx => .inl ⟨x, hx, .rfl x⟩, fun h => h⟩

theorem Ages.trans (h : Ages P s t) (g : Ages P t u) : Ages P s u where
  created := h.created.trans g.created
  slots x hx := by
    obtain ⟨y, hy, hyx⟩ | ⟨hnew, hP⟩ := g.slots x hx
    · obtain ⟨w, hw, hwy⟩ | ⟨hnew, hP⟩ := h.slots y hy
      · exact .inl ⟨w, hw, hwy.trans hyx⟩
      · exact .inr ⟨hyx.seq ▸ hnew, hyx.origin ▸ hP⟩
    · exact .inr ⟨h.created.trans hnew, hP⟩
  capacity := g.capacity ∘ h.capacity

theorem Shrinks.ages (h : Shrinks s t) : Ages P s t where
  created := h.created.ge
  slots x hx := .inl ⟨x, h.slots.subset hx, .rfl x⟩
  capacity hs := h.slots.length_le.trans hs

theorem ages_of_asc (h : t.asc = s.asc) : Ages P s t := (shrinks_of_asc h).ages

/-- The slot that a creation fills is the one of its time that is new. -/
theorem recordSlot_ages {x : Slot} (hP : P x.origin) (a : Nat) (h : Shrinks s t)
    (hlen : s.asc.slots.length ≤ 64 → t.asc.slots.length < 64) : Ages P s (recordSlot x a t) where
  created := h.created.ge.trans (Nat.le_succ _)
  slots y hy := by
    rcases List.mem_append.mp hy with hy | hy
    · exact .inl ⟨y, h.slots.subset hy, .rfl y⟩
    · rw [List.mem_singleton.mp hy]
      exact .inr ⟨h.created.ge, hP⟩
  capacity hs := by
    have := hlen hs
    simp [recordSlot]
    omega

theorem create_ages {x : Slot} (hP : P x.origin) (s : State) : Ages P s (create x s).2 := by
  unfold create
  split
  next hslot =>
    have hmade := makeSlot_shrinks x.priority s
    have hlen : s.asc.slots.length ≤ 64 → (makeSlot x.priority s).asc.slots.length < 64 := makeSlot_length hslot
    dsimp only
    generalize makeSlot x.priority s = m at hmade hlen ⊢
    generalize nextId m = a
    have hplaced : Ages P s (placeAll { x with id := a } (recordSlot x a m)).2 :=
      (recordSlot_ages hP a hmade hlen).trans (foldl_placeIn_shrinks _ _ (noCounts, recordSlot x a m)).ages
    split
    · exact hplaced
    · exact hplaced.trans (removeSlot_shrinks a _).ages
  · exact .rfl s

end

/-- What follows an event creates evacuation announcements alone (R119, R120). -/
theorem ages_player {P : Origin → Prop} (hP : ∀ n, P (.evac n)) : Player (Ages P) where
  rfl := .rfl
  trans := .trans
  generate _ _ := ages_of_asc (Eq.refl _)
  drop z reason p s := (drop_shrinks z reason p s).ages
  cover _ := (makeCoverage_shrinks _ _ _).ages
  endPart {c} _ o discard z s := (endPart_shrinks c o discard z s).ages
  idle c o s := (channelIdle_shrinks c o s).ages
  rerun _ _ := ages_of_asc (Eq.refl _)
  emergency s := ages_of_asc (emergencyEvent_asc s)
  start seized _ _ _ _ := ages_of_asc (started_asc _ _ _ seized _)
  pulse _ _ _ := ages_of_asc (Eq.refl _)
  createEvac n s := (create_ages (x := evacProto s n) (hP n) s).trans (ages_of_asc (Eq.refl _))

theorem mapSlots_ages {P : Origin → Prop} {f : Slot → Slot} (hf : ∀ x, SameSlot x (f x)) (s : State) :
    Ages P s (s.withAsc { s.asc with slots := s.asc.slots.map f }) where
  created := Nat.le_refl _
  slots x hx := by
    obtain ⟨y, hy, rfl⟩ := List.mem_map.mp hx
    exact .inl ⟨y, hy, hf y⟩
  capacity h := by simpa using h

theorem ages_placer : Placer (Ages fun _ => True) where
  toPlayer := ages_player fun _ => trivial
  part c o discard z s := (endPart_shrinks c o discard z s).ages
  withdrawn a s := mapSlots_ages (fun x => by
    split
    · exact ⟨Eq.refl _, Eq.refl _, Eq.refl _, Eq.refl _, fun _ => Eq.refl _⟩
    · exact .rfl x) s
  create x s := create_ages trivial s
  requeue _ _ _ := ages_of_asc (Eq.refl _)
  latest limit s := mapSlots_ages (fun x => by
    split
    · exact ⟨Eq.refl _, Eq.refl _, Eq.refl _, Eq.refl _, fun h => h⟩
    · exact .rfl x) s
  ttu _ _ := ages_of_asc (Eq.refl _)

end Sys2Proof.Machine


/-! PROOFS. The warm reset, of RESET_RELEASE and of RESTART at its reply's end (R124, R154, R165, R166), and the transmit
arbiter at the end of a frame (R158, R160). -/

namespace Sys2Proof.Machine

open Sys2Proof.Claims

/-! ### Where nothing remains to be done -/

theorem settle_of_none {s : State} (h : settleRound s = none) : settle s = s := by
  have hfor : ∀ n, settleFor n s = s := fun n => by
    cases n with
    | zero => rfl
    | succ n => unfold settleFor; rw [h]
  exact hfor _

theorem coverageRound_of_idle {s : State} (h : ∀ n, (s.source n).state ≠ .active) : coverageRound s = none := by
  have hlacks : ∀ z, lacksCoverage s z = false := fun z => by
    unfold lacksCoverage
    split
    · rfl
    · split
      · simp [h]
      · rfl
  unfold coverageRound
  rw [List.find?_eq_none.mpr fun z _ => by simp [hlacks z]]
  rfl

theorem voiceRound_of_idle {s : State} (h : ∀ n, (s.source n).state ≠ .active) : voiceRound s = none := by
  have hwants : ∀ n, wantsVoice s n = false := fun n => by
    unfold wantsVoice
    rw [decide_eq_false (h n)]
    rfl
  unfold voiceRound
  rw [List.find?_eq_none.mpr fun n _ => by simp [hwants n]]
  rfl

theorem passRound_of_empty {s : State} (h : ∀ z, (s.zone z).queue = []) : passRound s = none := by
  have hadmitted : ∀ z, admittedHead s z = none := fun z => by
    unfold admittedHead
    rw [h z]
  have hseize : seizureRound s = none := by
    unfold seizureRound
    rw [List.find?_eq_none.mpr fun z _ => by unfold seizes; rw [hadmitted z]; simp]
    rfl
  have hstart : startRound s = none := by
    unfold startRound
    rw [candidate_eq_none.mpr fun z _ => by unfold eligibleHead; split <;> simp [hadmitted z]]
  unfold passRound
  rw [hseize, hstart]
  rfl

/-- Where no source is ACTIVE and the queues are empty, nothing remains to be placed, created or started. -/
theorem settle_of_still {s : State} (hn : ∀ n, (s.source n).state ≠ .active) (hq : ∀ z, (s.zone z).queue = []) :
    settle s = s :=
  settle_of_none (by unfold settleRound; rw [coverageRound_of_idle hn, voiceRound_of_idle hn, passRound_of_empty hq]; rfl)

/-! ### The blocks, with coverage found again -/

/-- `t` differs from `s` in what covers the zones alone. -/
def CoverOnly (s t : State) : Prop := ∃ zones, t = s.withZrt { s.zrt with zones := zones } ∧
  zones.map (fun zn => { zn with covering := none }) = s.zrt.zones.map (fun zn => { zn with covering := none })

theorem setCovering_coverOnly {s u : State} (h : CoverOnly s u) (z : Nat) (n : Option Nat) :
    CoverOnly s (setCovering z n u) := by
  obtain ⟨zones, rfl, hmap⟩ := h
  exact ⟨_, rfl, (map_modify (f := fun zn : Zone => { zn with covering := n }) (fun _ => rfl) _ _).trans hmap⟩

/-- The blocks after a warm reset, RESTARTED generated and coverage recomputed, before the re-issue. -/
def recovered (cause : RestartCause) (s : State) : State :=
  forEach allZones recoverZone (generate (.restarted cause) (warmBlocks s))

theorem recovered_coverOnly (cause : RestartCause) (s : State) :
    CoverOnly (generate (.restarted cause) (warmBlocks s)) (recovered cause s) := by
  have hpass : ∀ (zs : List Nat) (u : State), CoverOnly (generate (.restarted cause) (warmBlocks s)) u →
      CoverOnly (generate (.restarted cause) (warmBlocks s)) (forEach zs recoverZone u) := by
    intro zs
    induction zs with
    | nil => exact fun u h => h
    | cons z zs ih => exact fun u h => ih _ (setCovering_coverOnly h z _)
  exact hpass allZones _ ⟨_, rfl, rfl⟩

theorem CoverOnly.zone {s t : State} (h : CoverOnly s t) (z : Nat) :
    { t.zone z with covering := none } = { s.zone z with covering := none } := by
  obtain ⟨zones, rfl, hmap⟩ := h
  exact getD_of_map_eq hmap coldZone z

theorem CoverOnly.queue {s t : State} (h : CoverOnly s t) (z : Nat) : (t.zone z).queue = (s.zone z).queue :=
  (congrArg Zone.queue (h.zone z) :)

theorem generate_zone (n : Notice) (s : State) (z : Nat) : (generate n s).zone z = s.zone z := rfl

/-- What follows the recovery of coverage: the re-issue, SMC's part, the settling. -/
theorem Player.afterRecovery {K : State → State → Prop} (k : Player K) (cause : RestartCause) (s : State) :
    K (recovered cause s) (warmReset cause s) :=
  k.trans (k.trans (k.trans (k.forEach (reissue_worker k) _) (reportWarmMode_worker k _ _)) (informActive_worker k _))
    (k.settle _)

theorem warmReset_settles (cause : RestartCause) (s : State) : Settles (recovered cause s) (warmReset cause s) :=
  (((forEach_settles reissue_settles _).trans (reportWarmMode_settles _ _)).trans (informActive_settles _)).trans
    (settle_settles _)

/-- Nothing that is generated disturbs a frame in transmission, or the replies. -/
theorem notified_of_busy {l m : Lnk} (h : Notified l m) (hl : l.tx ≠ none) : m.tx = l.tx ∧ m.replies = l.replies := by
  induction h with
  | refl => exact ⟨rfl, rfl⟩
  | @notify k day service n _ ih =>
    obtain ⟨htx, hreplies⟩ := ih
    unfold notifyLnk
    split
    · rw [arbitrate_of_busy (by rw [pushNotice_tx, htx]; exact hl), pushNotice_tx]
      refine ⟨htx, Eq.trans ?_ hreplies⟩
      unfold pushNotice
      split
      · rfl
      · split
        · split <;> rfl
        · rfl
    · exact ⟨htx, hreplies⟩

theorem notified_rest {l m : Lnk} (h : Notified l m) :
    m.n = l.n ∧ m.k = l.k ∧ m.mask = l.mask ∧ m.receiver = l.receiver := by
  induction h with
  | refl => exact ⟨rfl, rfl, rfl, rfl⟩
  | @notify k day service n _ ih =>
    obtain ⟨-, hn, hk, hmask, hreceiver⟩ := notifyLnk_rest k day service n
    obtain ⟨in_, ik, imask, ireceiver⟩ := ih
    exact ⟨hn.trans in_, hk.trans ik, hmask.trans imask, hreceiver.trans ireceiver⟩

/-! ### SMC after a warm reset -/

/-- A mode and the supply line that follows it. -/
theorem smc_eq {c : Smc} {m : Mode} {w : Nat} (hs : SupplyOk c) (hm : c.mode = m) (hw : c.warmUp = w) :
    c = { mode := m, warmUp := w, supply := supplyIn m } := by
  obtain ⟨mode, warmUp, supply⟩ := c
  obtain rfl : mode = m := hm
  obtain rfl : warmUp = w := hw
  exact congrArg (fun x => { mode := mode, warmUp := warmUp, supply := x : Smc }) hs

/-- The mode after an emergency event between two drifts, NIGHT_ALERT and WINDING apart. -/
theorem mode_of_emergency {ends : RunTime} {a b c : Mode} {s : State} (hs : s.smc.mode = b) (hends : warmUpEnds s = ends)
    (h : Slides ends a b) (g : Slides ends (emergencyEvent s).smc.mode c) :
    (a = .opn → c = .opn) ∧ (a = .night → c = .warming .nightAlert ends) ∧ (∀ e, a = .warming .opn e → c = .warming .opn e) ∧
      ∀ t e, a = .warming t e → t ≠ .opn → c = .warming .nightAlert e := by
  have hidle : (b = .opn ∨ b = .winding ∨ ∃ e, b = .warming .opn e ∨ b = .warming .nightAlert e) →
      (emergencyEvent s).smc.mode = b := fun hb => by
    rw [emergencyEvent_of_idle (by rwa [hs]), hs]
  have hnight : b = .night → (emergencyEvent s).smc.mode = .warming .nightAlert ends := fun hb => by
    rw [emergencyEvent_of_night (hs.trans hb), hends]
    rfl
  have hredirect : ∀ e, b = .warming .night e → (emergencyEvent s).smc.mode = .warming .nightAlert e := fun e hb => by
    rw [emergencyEvent_of_warming_night (hs.trans hb)]
    rfl
  refine ⟨fun ha => ?_, fun ha => ?_, fun e ha => ?_, fun t e ha ht => ?_⟩
  · subst ha
    cases h
    rw [hidle (.inl rfl)] at g
    cases g
    rfl
  · subst ha
    cases h with
    | stay => rw [hnight rfl] at g; cases g; rfl
    | wake => rw [hidle (.inr (.inr ⟨ends, .inr rfl⟩))] at g; cases g; rfl
  · subst ha
    cases h
    rw [hidle (.inr (.inr ⟨e, .inl rfl⟩))] at g
    cases g
    rfl
  · subst ha
    cases h with
    | stay =>
      cases t with
      | opn => exact absurd rfl ht
      | night => rw [hredirect e rfl] at g; cases g; rfl
      | nightAlert => rw [hidle (.inr (.inr ⟨e, .inr rfl⟩))] at g; cases g; rfl
    | redirect => rw [hidle (.inr (.inr ⟨e, .inr rfl⟩))] at g; cases g; rfl

theorem alarmed_of_source {s : State} {n : Nat} (h : (s.source n).state = .active) : Alarmed s := by
  have hlt : n < s.zrt.sources.length := by
    by_contra hle
    rw [State.source, List.getD_eq_default _ _ (Nat.le_of_not_lt hle)] at h
    cases h
  refine ⟨s.source n, ?_, h⟩
  rw [State.source, List.getD_eq_getElem _ _ hlt]
  exact List.getElem_mem _

theorem state_ne_active_of_all {s : State} (h : ∀ e ∈ s.zrt.sources, e.state ≠ .active) (n : Nat) :
    (s.source n).state ≠ .active := fun hn => by
  obtain ⟨e, he, hstate⟩ := alarmed_of_source hn
  exact h e he hstate

section
variable (cause : RestartCause) (s : State)

theorem recovered_smc : (recovered cause s).smc = warmSmc s.smc := by
  obtain ⟨zones, heq, -⟩ := recovered_coverOnly cause s
  rw [heq]
  rfl

theorem recovered_source (n : Nat) : ((recovered cause s).source n).state = (s.source n).state := by
  obtain ⟨zones, heq, -⟩ := recovered_coverOnly cause s
  rw [heq]
  simp only [State.source, State.withZrt_zrt, generate_zrt, warmBlocks, warmZrt, List.getD_eq_getElem?_getD, List.getElem?_map]
  cases s.zrt.sources[n]? <;> rfl

theorem recovered_queue (z : Nat) : ((recovered cause s).zone z).queue = [] := by
  rw [(recovered_coverOnly cause s).queue z, generate_zone]
  exact warmBlocks_queue z s

theorem recovered_channel (c : Nat) : (recovered cause s).channel c = none := by
  obtain ⟨zones, heq, -⟩ := recovered_coverOnly cause s
  rw [heq]
  exact warmBlocks_channel s c

theorem recovered_ends : warmUpEnds (recovered cause s) = BitVec.ofNat 32 (10 * s.smc.warmUp) := by
  obtain ⟨zones, heq, -⟩ := recovered_coverOnly cause s
  rw [heq]
  exact BitVec.zero_add _

/-- With no source ACTIVE, nothing is re-issued. -/
theorem warmReset_of_idle (h : ∀ e ∈ s.zrt.sources, e.state ≠ .active) :
    warmReset cause s = judgeHold (reportWarmMode s.smc.mode (recovered cause s)) := by
  have hidle : ∀ n, ((recovered cause s).source n).state ≠ .active := fun n => by
    rw [recovered_source]
    exact state_ne_active_of_all h n
  have hqueue := recovered_queue cause s
  have hlist : ∀ u : State, (∀ n, (u.source n).state ≠ .active) → activeSourceList u = [] := fun u hu => by
    unfold activeSourceList
    exact List.filter_eq_nil_iff.mpr fun n _ => by simpa using hu n
  have hzrt : ∀ m u, (reportWarmMode m u).zrt = u.zrt := fun m u => by
    unfold reportWarmMode
    split <;> rfl
  have heq : warmReset cause s = settle (informActive (reportWarmMode s.smc.mode
      (forEach (activeSourceList (recovered cause s)) reissue (recovered cause s)))) := rfl
  rw [heq, hlist _ hidle]
  generalize recovered cause s = r at *
  have hsource : ∀ n, ((reportWarmMode s.smc.mode r).source n).state ≠ .active := fun n => by
    unfold State.source
    rw [hzrt]
    exact hidle n
  have hinform : informActive (reportWarmMode s.smc.mode r) = judgeHold (reportWarmMode s.smc.mode r) := by
    unfold informActive
    rw [if_pos (hlist _ hsource)]
  have hjudged : (judgeHold (reportWarmMode s.smc.mode r)).zrt = r.zrt := (judgeHold_zrt _).trans (hzrt _ _)
  refine (congrArg settle hinform).trans (settle_of_still (fun n => ?_) fun z => ?_)
  · unfold State.source
    rw [hjudged]
    exact hidle n
  · rw [zone_of_zones (congrArg Zrt.zones hjudged)]
    exact hqueue z

theorem reportWarmMode_rest (m : Mode) (u : State) : (reportWarmMode m u).asc = u.asc ∧ (reportWarmMode m u).zrt = u.zrt ∧
    (reportWarmMode m u).ple = u.ple ∧ (reportWarmMode m u).smc = u.smc ∧ (reportWarmMode m u).clock = u.clock := by
  unfold reportWarmMode
  split <;> exact ⟨rfl, rfl, rfl, rfl, rfl⟩

theorem warmReset_smc_of_idle (h : ∀ e ∈ s.zrt.sources, e.state ≠ .active) :
    (warmReset cause s).smc = smcByTable s.smc := by
  rw [warmReset_of_idle cause s h]
  obtain ⟨-, hzrt, hple, hsmc, hclock⟩ := reportWarmMode_rest s.smc.mode (recovered cause s)
  have hsame := recovered_smc cause s
  have hruns : runs (recovered cause s) = [] := runs_eq_nil_iff.mpr (recovered_channel cause s)
  have hquiet : quiet (reportWarmMode s.smc.mode (recovered cause s)) = true := by
    have hzones : (recovered cause s).zrt.zones.any (fun z => z.queue.any (fun p => decide (6 ≤ p.priority))) = false :=
      List.any_eq_false.mpr fun z hz => by
        obtain ⟨y, rfl⟩ := zone_of_mem_zones hz
        simp [recovered_queue]
    have hsources : (recovered cause s).zrt.sources.any (fun e => decide (e.state = .active)) = false := by
      obtain ⟨zones, heq, -⟩ := recovered_coverOnly cause s
      rw [heq]
      refine List.any_eq_false.mpr fun e he => ?_
      obtain ⟨f, hf, rfl⟩ := List.mem_map.mp he
      have hstate : (warmSource f).state ≠ .active := h f hf
      simpa using hstate
    unfold quiet emergencyExists runs
    rw [hzrt, hple, hzones, hsources]
    unfold runs at hruns
    rw [hruns]
    rfl
  have hclock0 : (reportWarmMode s.smc.mode (recovered cause s)).clock.runTime = 0 := by
    rw [hclock]
    obtain ⟨zones, heq, -⟩ := recovered_coverOnly cause s
    rw [heq]
    rfl
  generalize reportWarmMode s.smc.mode (recovered cause s) = u at *
  rw [hsame] at hsmc
  have hmode : u.smc.mode = warmMode s.smc.mode s.smc.warmUp := congrArg Smc.mode hsmc
  have hwarm : (judgeHold u).smc.warmUp = s.smc.warmUp := by rw [(judgeHold_settles u).warmUp, hsmc]; rfl
  have hsupply : SupplyOk (judgeHold u).smc := (judgeHold_settles u).supply (by rw [hsmc]; rfl)
  have hkept : (∀ x, u.smc.mode ≠ .nightAlert x) → (judgeHold u).smc.mode = u.smc.mode := fun hne => by
    rw [judgeHold_of_ne hne]
  unfold smcByTable
  cases hm : s.smc.mode with
  | opn | winding | night | warming g e =>
    rw [hm] at hmode
    rw [smc_eq hsupply ((hkept (by rw [hmode]; simp [warmMode])).trans hmode) hwarm]
    rfl
  | nightAlert hold =>
    rw [hm] at hmode
    have hjudged := (judgeHold_of_alert hmode).1
    rw [if_pos hquiet, hclock0] at hjudged
    rw [smc_eq hsupply hjudged hwarm]
    rfl

/-- With a source ACTIVE, SMC hears of it after the re-issue. -/
theorem warmReset_smc_of_active (h : ∃ n < 8, (s.source n).state = .active) :
    (warmReset cause s).smc = smcUnderSource s.smc := by
  obtain ⟨n, hn, hactive⟩ := h
  have hsettles := warmReset_settles cause s
  have hwarm : (warmReset cause s).smc.warmUp = s.smc.warmUp := by
    rw [hsettles.warmUp, recovered_smc]
    rfl
  have hsupply : SupplyOk (warmReset cause s).smc := hsettles.supply (by rw [recovered_smc]; rfl)
  set r := recovered cause s with hr
  have hsource : (r.source n).state = .active := (recovered_source cause s n).trans hactive
  set v := reportWarmMode s.smc.mode (forEach (activeSourceList r) reissue r) with hv
  have hbefore : Drifts r v :=
    (drift_player.forEach (reissue_worker drift_player) r).trans (reportWarmMode_worker drift_player _ _)
  have hplays : Plays r v := ((forEach_settles reissue_settles r).trans (reportWarmMode_settles _ _)).toPlays
  have hlist : activeSourceList v ≠ [] := by
    refine List.ne_nil_of_mem (a := n) (List.mem_filter.mpr ⟨List.mem_range.mpr hn, ?_⟩)
    rw [decide_eq_true_eq, ((hplays.sameSites.site 0).sources n).1]
    exact hsource
  have heq : warmReset cause s = settle (judgeHold (emergencyEvent v)) := by
    have hinform : informActive v = judgeHold (emergencyEvent v) := by
      unfold informActive
      rw [if_neg hlist]
    exact congrArg settle hinform
  have hafter : Drifts (emergencyEvent v) (warmReset cause s) := by
    rw [heq]
    exact (judgeHold_drifts _).trans (drift_player.settle _)
  have hends : warmUpEnds r = BitVec.ofNat 32 (10 * s.smc.warmUp) := recovered_ends cause s
  have hmode : r.smc.mode = warmMode s.smc.mode s.smc.warmUp := congrArg Smc.mode (recovered_smc cause s)
  obtain ⟨hopn, hnight, hwopn, hwarming⟩ := mode_of_emergency (ends := warmUpEnds r) rfl hbefore.ends hbefore.slides
    (hbefore.ends ▸ (emergencyEvent_drifts v).ends ▸ hafter.slides)
  rw [hends] at hnight
  have hloud := ((hbefore.trans (emergencyEvent_drifts v)).trans hafter).loud (alarmed_of_source hsource)
  unfold smcUnderSource
  cases hm : s.smc.mode with
  | opn => rw [smc_eq hsupply (hopn (by rw [hmode, hm]; rfl)) hwarm]; rfl
  | winding | night => rw [smc_eq hsupply (hnight (by rw [hmode, hm]; rfl)) hwarm]; rfl
  | warming g e =>
    cases g with
    | opn => rw [smc_eq hsupply (hwopn (BitVec.ofNat 32 (10 * s.smc.warmUp)) (by rw [hmode, hm]; rfl)) hwarm]; rfl
    | night | nightAlert =>
      rw [smc_eq hsupply (hwarming _ (BitVec.ofNat 32 (10 * s.smc.warmUp)) (by rw [hmode, hm]; rfl) (by simp)) hwarm]; rfl
  | nightAlert x => rw [smc_eq hsupply (hloud (by rw [hmode, hm]; rfl)) hwarm]; rfl

/-! ### The whole warm reset -/

theorem restarted_in_transmission : (generate (.restarted cause) (warmBlocks s)).lnk.tx = some (.notice
    { day := s.clock.day, service := s.clock.service, lost := 0, notice := .restarted cause }) := rfl

theorem warmReset_spec : WarmReset cause s (warmReset cause s) := by
  obtain ⟨zones, hrec, hmap⟩ := recovered_coverOnly cause s
  have hplays := (warmReset_settles cause s).toPlays
  have hages : Ages (fun o => ∃ n, o = .evac n) (recovered cause s) (warmReset cause s) :=
    (ages_player fun n => ⟨n, rfl⟩).afterRecovery cause s
  have hlnk : Notified (generate (.restarted cause) (warmBlocks s)).lnk (warmReset cause s).lnk := by
    have := hplays.lnk
    rwa [hrec] at this
  have htx := restarted_in_transmission cause s
  have hstate : ∀ f : Zone → Zone, (∀ zn, f { zn with covering := none } = f zn) →
      (recovered cause s).zrt.zones.map f = (warmBlocks s).zrt.zones.map f := fun f hf => by
    have hmapped := congrArg (List.map f) hmap
    rw [List.map_map, List.map_map] at hmapped
    have hcomp : (f ∘ fun zn : Zone => { zn with covering := none }) = f := funext hf
    rw [hcomp] at hmapped
    rw [hrec]
    exact hmapped
  have hidle : (∀ e ∈ s.zrt.sources, e.state ≠ .active) → (warmReset cause s).asc = warmAsc s.asc ∧
      (warmReset cause s).zrt = (recovered cause s).zrt ∧ (warmReset cause s).ple = warmPle s.ple := fun h => by
    obtain ⟨hasc, hzrt, hple, -⟩ := reportWarmMode_rest s.smc.mode (recovered cause s)
    rw [warmReset_of_idle cause s h, judgeHold_asc, judgeHold_zrt, judgeHold_ple, hasc, hzrt, hple, hrec]
    exact ⟨rfl, rfl, rfl⟩
  have hzones : ∀ f : Zone → Zone, (∀ zn, f (settings zn) = f zn) → (∀ zn, f { zn with covering := none } = f zn) →
      (warmReset cause s).zrt.zones.map f = s.zrt.zones.map (f ∘ warmZone) := fun f hset hcov => by
    have hmapped := congrArg (List.map f) hplays.zones
    rw [List.map_map, List.map_map, show f ∘ settings = f from funext hset, hstate f hcov] at hmapped
    exact hmapped.trans List.map_map
  obtain ⟨hn, hk, hmask, hreceiver⟩ := notified_rest hlnk
  obtain ⟨hbusy, hreplies⟩ := notified_of_busy hlnk (by rw [htx]; simp)
  exact
    { pending := hplays.pending.trans (by rw [hrec]; rfl)
      resetLine := hplays.resetLine.trans (by rw [hrec]; rfl)
      pins := hplays.pins.trans (by rw [hrec]; rfl)
      clock := hplays.clock.trans (by rw [hrec]; rfl)
      ttu := hplays.ttu.trans (by rw [hrec]; rfl)
      inputs := (congrArg Fiu.inputs hplays.fiu).trans (by rw [hrec]; rfl)
      firstSample := (congrArg Fiu.firstSample hplays.fiu).trans (by rw [hrec]; rfl)
      directory := hplays.directory.trans (by rw [hrec]; rfl)
      templates := hplays.templates.trans (by rw [hrec]; rfl)
      composer := hplays.composer.trans (by rw [hrec]; rfl)
      zones := hzones configuration (fun _ => rfl) fun _ => rfl
      bases := by
        have := congrArg (List.map Zone.base) (hzones (fun zn => { configuration zn with base := zn.base })
          (fun _ => rfl) fun _ => rfl)
        rw [List.map_map, List.map_map] at this
        exact this
      groups := hplays.groups.trans (by rw [hrec]; rfl)
      ambient := by
        rw [hplays.ambient.1, hplays.ambient.2, hrec]
        exact ⟨rfl, rfl⟩
      sources := hplays.sources.trans (by
        rw [hrec]
        exact List.map_map)
      gap := hplays.gap.trans (by rw [hrec]; rfl)
      warmUp := hplays.warmUp.trans (by rw [hrec]; rfl)
      rate := ⟨hn, hk⟩
      mask := hmask
      receiver := hreceiver
      requests := ⟨notified_queue hlnk, hreplies⟩
      restarted := hbusy.trans htx
      origins := fun x hx => by
        obtain ⟨y, hy, -⟩ | ⟨-, n, hn⟩ := hages.slots x hx
        · rw [hrec] at hy
          cases hy
        · exact ⟨n, hn⟩
      unalarmed := warmReset_smc_of_idle cause s
      alarmed := warmReset_smc_of_active cause s
      quiet := fun h => by
        obtain ⟨hasc, hzrt, hple⟩ := hidle h
        refine ⟨by rw [hasc]; rfl, fun r hr => ?_, fun z hz => ?_⟩
        · rw [hple] at hr
          exact List.eq_of_mem_replicate hr
        · rw [hzrt] at hz
          obtain ⟨y, rfl⟩ := zone_of_mem_zones hz
          exact recovered_queue cause s y
      counters := fun h => by
        obtain ⟨hasc, hzrt, hple⟩ := hidle h
        rw [hasc, hzrt, hple, hrec]
        exact ⟨rfl, rfl, rfl⟩ }

end

/-- Settles O14. -/
theorem resetReleaseIsAWarmReset : Obligations.ResetReleaseIsAWarmReset := by
  unfold Obligations.ResetReleaseIsAWarmReset
  exact fun s => ⟨_, rfl, warmReset_spec .resetLine s⟩

/-! ### The end of a frame -/

/-- A warm reset looks at no frame, request or reply. -/
theorem warmReset_of_withLnk {cause : RestartCause} {s t : State} {l : Lnk} (h : WarmReset cause (s.withLnk l) t)
    (hrate : l.n = s.lnk.n ∧ l.k = s.lnk.k) (hmask : l.mask = s.lnk.mask) : WarmReset cause s t :=
  { h with
    rate := ⟨h.rate.1.trans hrate.1, h.rate.2.trans hrate.2⟩
    mask := h.mask.trans hmask }

/-- Settles O8: the arbiter's rules, and what the end of a frame leaves for it. -/
theorem frameEndsAdvanceTheTransmitter : Obligations.FrameEndsAdvanceTheTransmitter := by
  unfold Obligations.FrameEndsAdvanceTheTransmitter
  refine ⟨fun l => ⟨arbitrate_of_busy, fun htx => ⟨fun r rs => arbitrate_of_reply htx,
    fun n ns => arbitrate_of_notice htx, arbitrate_of_empty⟩⟩, fun s hs => ?_⟩
  have hexec : exec .frameTransmitted s = .next (endFrame s) := exec_of_running rfl (fun _ => rfl) hs
  rw [hexec]
  refine ⟨fun h => by rw [endFrame_of_idle h], fun n h => by rw [endFrame_of_notice h]; rfl, fun r h => ?_⟩
  rw [endFrame_of_reply h]
  refine ⟨fun ha => by rw [ha]; rfl, fun n k ha hnew => ?_, fun ha => ?_, fun ha => ?_⟩
  · rw [ha, applyAtEnd, if_neg fun hsame => hnew.elim (absurd hsame.1) (absurd hsame.2)]
    rfl
  · rw [ha, applyAtEnd, if_pos ⟨rfl, rfl⟩]
    rfl
  · refine ⟨_, rfl, ?_⟩
    rw [ha]
    set l : Lnk := { s.lnk with tx := none, queue := s.lnk.queue.drop 1 } with hl
    have hspec := warmReset_spec .restartRequest (s.withLnk l)
    have hsame : runTransmit (applyAtEnd .warmReset (s.withLnk l)) = warmReset .restartRequest (s.withLnk l) := by
      unfold runTransmit
      rw [arbitrate_of_busy (by simp only [applyAtEnd]; rw [hspec.restarted]; simp)]
      rfl
    rw [hsame]
    exact warmReset_of_withLnk hspec ⟨rfl, rfl⟩ rfl

end Sys2Proof.Machine


/-! PROOFS. A creation, zone by zone: the store's victim (R83), the id (R82), and the placements of R97. -/

namespace Sys2Proof.Machine

open Sys2Proof.Claims

/-! ### The slot -/

theorem storeVictim_eq (s : State) (p : Nat) : storeVictim s p =
    (s.asc.slots.filter (fun x => decide (x.priority < p) && decide (runCount s x.id = 0))).foldl
      (improve betterStoreVictim) none :=
  congrArg (fun f => List.foldl f none (s.asc.slots.filter (fun x : Slot => decide (x.priority < p) &&
    decide (runCount s x.id = 0)))) (funext fun best : Option Slot => funext fun x => by cases best <;> rfl)

/-- The victim of a full store (R83). -/
theorem storeVictim_of_victimFor {s : State} {p : Nat} {pre : List Slot} {v : Slot} {post : List Slot}
    (h : StoreVictimFor s p pre v post) : storeVictim s p = some v := by
  obtain ⟨hslots, ⟨hprio, hruns⟩, holder, hyounger⟩ := h
  rw [storeVictim_eq, hslots, List.filter_append, List.filter_cons, if_pos (by simp [hprio, hruns])]
  refine foldl_improve_eq (fun y hy => ?_) fun y hy => ?_
  · obtain ⟨hmem, hy⟩ := List.mem_filter.mp hy
    simp only [Bool.and_eq_true, decide_eq_true_eq] at hy
    simpa [betterStoreVictim] using holder y hmem hy.1 hy.2
  · obtain ⟨hmem, hy⟩ := List.mem_filter.mp hy
    simp only [Bool.and_eq_true, decide_eq_true_eq] at hy
    simpa [betterStoreVictim] using hyounger y hmem hy.1 hy.2

theorem slotAvailable_eq_false {s : State} {p : Nat} : slotAvailable s p = false ↔
    64 ≤ s.asc.slots.length ∧ ∀ y ∈ s.asc.slots, y.priority < p → 0 < runCount s y.id := by
  unfold slotAvailable
  rw [Bool.or_eq_false_iff, storeVictim_eq, isSome_foldl_improve]
  simp only [Config.maxSlots, decide_eq_false_iff_not, Nat.not_lt, Bool.not_eq_false', List.isEmpty_iff,
    List.filter_eq_nil_iff, Bool.and_eq_true, decide_eq_true_eq, not_and, Nat.pos_iff_ne_zero]

theorem create_of_full {s : State} {x : Slot} (h : slotAvailable s x.priority = false) : create x s = (.storeFull, s) := by
  unfold create
  rw [if_neg (by simp [h])]

/-- What a creation makes of its zones, in the order of R97. -/
def placings (x : Slot) (s : State) : Counts × State :=
  placeAll { x with id := nextId (makeSlot x.priority s) }
    (recordSlot x (nextId (makeSlot x.priority s)) (makeSlot x.priority s))

theorem create_of_available {s : State} {x : Slot} (h : slotAvailable s x.priority = true) : create x s =
    if 0 < (placings x s).1.placed then
      (.kept (nextId (makeSlot x.priority s)) (placings x s).1, (placings x s).2)
    else (.noTarget (placings x s).1, removeSlot (nextId (makeSlot x.priority s)) (placings x s).2) := by
  unfold create
  rw [if_pos h]
  rfl

theorem create_eq_storeFull {s : State} {x : Slot} : (create x s).1 = .storeFull ↔ slotAvailable s x.priority = false := by
  constructor
  · intro h
    by_contra hc
    rw [create_of_available (by simpa using hc)] at h
    split at h <;> cases h
  · intro h
    rw [create_of_full h]

/-- What a drop leaves of the store: its own announcement's slot at most is freed, and no counter moves. -/
theorem dropPlacement_store (z : Nat) (reason : DropReason) (p : Placement) (s : State) :
    (dropPlacement z reason p s).asc.created = s.asc.created ∧ (dropPlacement z reason p s).asc.idCounter = s.asc.idCounter ∧
      (dropPlacement z reason p s).asc.slots.filter (fun x => x.id != p.announcement) =
        s.asc.slots.filter (fun x => x.id != p.announcement) := by
  have hasc : (dropPlacement z reason p s).asc =
      (freeIfDone p.announcement (generate (dropNotice z p reason) (takePlacement z p.announcement s))).asc :=
    judgeHold_asc _
  rw [hasc]
  obtain hkept | ⟨-, -, hfreed⟩ := freeIfDone_asc p.announcement (generate (dropNotice z p reason) (takePlacement z p.announcement s))
  · rw [hkept]
    exact ⟨rfl, rfl, rfl⟩
  · rw [hfreed]
    refine ⟨rfl, rfl, ?_⟩
    exact (List.filter_filter ..).trans (List.filter_congr fun x _ => Bool.and_self _)

/-- The drops of one announcement's placements. -/
theorem dropEverywhere_store (a : Nat) (reason : DropReason) (s : State) :
    (dropEverywhere a reason s).asc.created = s.asc.created ∧ (dropEverywhere a reason s).asc.idCounter = s.asc.idCounter ∧
      (dropEverywhere a reason s).asc.slots.filter (fun x => x.id != a) = s.asc.slots.filter (fun x => x.id != a) := by
  have hpass : ∀ {α : Type} {f : α → State → State} (xs : List α), (∀ x ∈ xs, ∀ s, (f x s).asc.created = s.asc.created ∧
      (f x s).asc.idCounter = s.asc.idCounter ∧
        (f x s).asc.slots.filter (fun x => x.id != a) = s.asc.slots.filter (fun x => x.id != a)) →
      ∀ s, (forEach xs f s).asc.created = s.asc.created ∧ (forEach xs f s).asc.idCounter = s.asc.idCounter ∧
        (forEach xs f s).asc.slots.filter (fun x => x.id != a) = s.asc.slots.filter (fun x => x.id != a) := by
    intro α f xs
    induction xs with
    | nil => exact fun _ s => ⟨rfl, rfl, rfl⟩
    | cons x xs ih =>
      intro h s
      obtain ⟨hx, hxs⟩ := List.forall_mem_cons.mp h
      obtain ⟨hcreated, hcounter, hslots⟩ := ih hxs (f x s)
      obtain ⟨xcreated, xcounter, xslots⟩ := hx s
      exact ⟨hcreated.trans xcreated, hcounter.trans xcounter, hslots.trans xslots⟩
  unfold dropEverywhere
  generalize allZones = zs
  refine hpass zs (fun z _ s => hpass _ (fun p hp s => ?_) s) s
  have hann : p.announcement = a := by simpa using (List.mem_filter.mp hp).2
  exact hann ▸ dropPlacement_store z reason p s

theorem removeSlot_created (a : Nat) (s : State) : (removeSlot a s).asc.created = s.asc.created := rfl

theorem removeSlot_idCounter (a : Nat) (s : State) : (removeSlot a s).asc.idCounter = s.asc.idCounter := rfl

theorem makeSlot_counters (p : Nat) (s : State) :
    (makeSlot p s).asc.created = s.asc.created ∧ (makeSlot p s).asc.idCounter = s.asc.idCounter := by
  unfold makeSlot
  split
  · exact ⟨rfl, rfl⟩
  · split
    next v _ =>
      obtain ⟨hcreated, hcounter, -⟩ := dropEverywhere_store v.id .displaced s
      rw [removeSlot_created, removeSlot_idCounter]
      exact ⟨hcreated, hcounter⟩
    · exact ⟨rfl, rfl⟩

/-- The zones after the drops of an announcement's placements. -/
theorem dropEverywhere_queue (a : Nat) (reason : DropReason) (s : State) {z : Nat} (hz : z < 40) :
    ((dropEverywhere a reason s).zone z).queue = (s.zone z).queue.filter (fun q => q.announcement != a) := by
  have hpass := forEach_zonewise (inv := fun _ => True) (f := fun z => dropWhere z reason (fun p => p.announcement == a))
    (before := s.zone) (result := fun z => (dropWhere z reason (fun p => p.announcement == a) s).zone z)
    (fun _ _ h => h) (fun z u y hy => dropWhere_zone_ne hy ..) (fun z u _ hz => by rw [dropWhere_zone, dropWhere_zone, hz])
    allZones s List.nodup_range trivial (fun _ _ => rfl)
  have hzone := hpass.2 z
  rw [if_pos (show z ∈ allZones from List.mem_range.mpr hz)] at hzone
  unfold dropEverywhere
  rw [hzone, dropWhere_queue_of_announcement fun p q h => by rw [h]]
  rfl

theorem makeSlot_of_victim {s : State} {p : Nat} {v : Slot} (hfull : 64 ≤ s.asc.slots.length) (hv : storeVictim s p = some v) :
    makeSlot p s = removeSlot v.id (dropEverywhere v.id .displaced s) := by
  unfold makeSlot
  rw [if_neg (Nat.not_lt.mpr hfull), hv]

/-- The placements in the queues are of announcements whose slot outlasts the making of room in the store. -/
theorem makeSlot_slot? {s : State} {p z : Nat} {q : Placement} (hz : z < 40) (hq : q ∈ ((makeSlot p s).zone z).queue) :
    q ∈ (s.zone z).queue ∧ (makeSlot p s).slot? q.announcement = s.slot? q.announcement := by
  unfold makeSlot at hq ⊢
  split at hq
  next hroom =>
    rw [if_pos hroom]
    exact ⟨hq, rfl⟩
  next hfull =>
    rw [if_neg hfull]
    split at hq
    next v _ =>
      rw [removeSlot_zone] at hq
      have hsheds : Sheds s (dropEverywhere v.id .displaced s) := by
        unfold dropEverywhere
        exact forEach_sheds (fun z s => dropWhere_sheds z .displaced _ s) s
      have hkept := hsheds.slots z q hq
      rw [dropEverywhere_queue v.id .displaced s hz] at hq
      obtain ⟨hmem, hne⟩ := List.mem_filter.mp hq
      exact ⟨hmem, (slot?_removeSlot_of_ne (by simpa using hne) _).trans hkept⟩
    · exact ⟨hq, rfl⟩

/-! ### The id -/

/-- The id is the first after the counter that no slot holds (R82). -/
theorem nextId_first {s : State} (hs : s.asc.slots.length < 255) : ∃ i < 255, nextId s = (s.asc.idCounter + i) % 255 + 1 ∧
    ∀ j < i, (s.slot? ((s.asc.idCounter + j) % 255 + 1)).isSome = true := by
  obtain ⟨-, hpos, -⟩ := nextId_spec hs
  have heq : nextId s = (((List.range 255).find? (fun i => (s.slot? ((s.asc.idCounter + i) % 255 + 1)).isNone)).map
      (fun i => (s.asc.idCounter + i) % 255 + 1)).getD 0 := by
    unfold nextId
    rw [List.find?_map]
    rfl
  cases hfind : (List.range 255).find? (fun i => (s.slot? ((s.asc.idCounter + i) % 255 + 1)).isNone) with
  | none =>
    rw [hfind] at heq
    rw [heq] at hpos
    cases hpos
  | some i =>
    rw [hfind] at heq
    obtain ⟨-, hmem, hbefore⟩ := List.find?_range_eq_some.mp hfind
    refine ⟨i, List.mem_range.mp hmem, heq, fun j hj => ?_⟩
    simpa [Option.isSome_iff_ne_none] using hbefore j hj

/-! ### What a zone answers -/

theorem deferredHere_iff (s : State) (x : Slot) (z : Nat) : deferredHere s x z = true ↔ DefersHere s x z := by
  unfold deferredHere DefersHere
  cases x.origin with
  | evac n => simp
  | host tag | cue id i a => simp

theorem inNight_iff (m : Mode) : inNight m = true ↔ m = .night ∨ ∃ h, m = .nightAlert h := by
  cases m <;> simp [inNight]

theorem latestPassed_iff_of_latest {s : State} {x : Slot} (h : (s.slot? x.id).bind Slot.latestStart = x.latestStart) :
    latestPassed s x.id = true ↔ ∃ t, x.latestStart = some t ∧ t < (s.clock.service : Int) := by
  unfold latestPassed
  rw [h]
  cases x.latestStart <;> simp

/-- The first of the five conditions that holds gives the reason. -/
theorem firstReason_iff (a b c d e : Prop) [Decidable a] [Decidable b] [Decidable c] [Decidable d] [Decidable e]
    (reason : RefuseReason) :
    (if a then some RefuseReason.isolated else if b then some .closed else if c then some .night else if d then some .expired
      else if e then some .queueFull else none) = some reason ↔
    (reason = .isolated ∧ a) ∨ (reason = .closed ∧ ¬ a ∧ b) ∨ (reason = .night ∧ ¬ a ∧ ¬ b ∧ c) ∨
      (reason = .expired ∧ ¬ a ∧ ¬ b ∧ ¬ c ∧ d) ∨ (reason = .queueFull ∧ ¬ a ∧ ¬ b ∧ ¬ c ∧ ¬ d ∧ e) := by
  by_cases ha : a
  · cases reason <;> simp [ha]
  · by_cases hb : b
    · cases reason <;> simp [ha, hb]
    · by_cases hc : c
      · cases reason <;> simp [ha, hb, hc]
      · by_cases hd : d
        · cases reason <;> simp [ha, hb, hc, hd]
        · cases reason <;> simp [ha, hb, hc, hd]

/-- The first reason of R97 that applies, where the store holds the announcement's latest start. -/
theorem refuseReason_iff {s : State} {x : Slot} (h : (s.slot? x.id).bind Slot.latestStart = x.latestStart) (z : Nat)
    (reason : RefuseReason) : refuseReason s x z = some reason ↔ RefusedFor s x z reason := by
  have hiso := effective_isolated_iff (s.zone z)
  have hclosed : (effective (s.zone z) = .closed ∧ x.priority < 6) ↔
      ((s.zone z).covering = none ∧ (s.zone z).base = .closed ∧ x.priority < 6) := by
    rw [effective_closed_iff, and_assoc]
  have hnight : (inNight s.smc.mode = true ∧ x.priority < 6) ↔
      ((s.smc.mode = .night ∨ ∃ h, s.smc.mode = .nightAlert h) ∧ x.priority < 6) := by rw [inNight_iff]
  have hexpired := latestPassed_iff_of_latest h
  have hfull := hasRoom_eq_false (s := s) (z := z) (p := x.priority)
  unfold refuseReason RefusedFor
  dsimp only
  rw [← hiso, ← hclosed, ← hnight, ← hexpired, ← hfull]
  exact firstReason_iff _ _ _ _ _ reason

theorem placeIn_of_refused {s : State} {x : Slot} {z : Nat} {reason : RefuseReason} {k : Counts}
    (hd : deferredHere s x z = false) (hr : refuseReason s x z = some reason) : placeIn x (k, s) z =
      ({ k with refused := k.refused + 1, full := k.full + (if reason = .queueFull then 1 else 0) },
        generate (.placementRefused x.id z x.priority reason) s) := by
  unfold placeIn
  dsimp only
  rw [if_neg (by simp [hd]), hr]

theorem placeIn_of_deferred {s : State} {x : Slot} {z : Nat} {k : Counts} (hd : deferredHere s x z = true) :
    placeIn x (k, s) z = (k, s) := by
  unfold placeIn
  dsimp only
  rw [if_pos hd]

theorem placeIn_of_placed {s : State} {x : Slot} {z : Nat} {k : Counts}
    (hd : deferredHere s x z = false) (hr : refuseReason s x z = none) : placeIn x (k, s) z =
      ({ k with placed := k.placed + 1, held := k.held + (if (newPlacement s x z).condition = .held then 1 else 0) },
        enterNew z (newPlacement s x z) s) := by
  unfold placeIn
  dsimp only
  rw [if_neg (by simp [hd]), hr]

end Sys2Proof.Machine


/-! PROOFS. The placements of a creation, in ascending zone id (R97, R98), and the creation as a whole (R81 to R83). -/

namespace Sys2Proof.Machine

open Sys2Proof.Claims

/-! ### The zones that take a placement, and those that refuse -/

/-- The zone takes a placement. -/
def takes (s : State) (x : Slot) (z : Nat) : Bool := !deferredHere s x z && (refuseReason s x z).isNone

/-- The zone refuses the announcement. -/
def refuses (s : State) (x : Slot) (z : Nat) : Bool := !deferredHere s x z && (refuseReason s x z).isSome

theorem takes_iff {s : State} {x : Slot} (h : (s.slot? x.id).bind Slot.latestStart = x.latestStart) (z : Nat) :
    takes s x z = true ↔ ¬ DefersHere s x z ∧ ∀ reason, ¬ RefusedFor s x z reason := by
  unfold takes
  rw [Bool.and_eq_true, Bool.not_eq_true', ← deferredHere_iff, Bool.not_eq_true]
  refine and_congr_right fun _ => ?_
  simp only [← refuseReason_iff h, Option.isNone_iff_eq_none, Option.eq_none_iff_forall_ne_some, ne_eq]

theorem refuses_iff {s : State} {x : Slot} (h : (s.slot? x.id).bind Slot.latestStart = x.latestStart) (z : Nat) :
    refuses s x z = true ↔ ¬ DefersHere s x z ∧ ∃ reason, RefusedFor s x z reason := by
  unfold refuses
  rw [Bool.and_eq_true, Bool.not_eq_true', ← deferredHere_iff, Bool.not_eq_true]
  refine and_congr_right fun _ => ?_
  simp only [← refuseReason_iff h, Option.isSome_iff_exists]

/-- A zone of a target set is one there is. -/
theorem lt_length_of_mem_targetSet {s : State} {target : List Pair} {z : Nat} (h : z ∈ targetSet s target) :
    z < s.zrt.zones.length := by
  by_contra hle
  have hreach := reachable_of_mem_targetSet h
  simp [reachableZone, zone_of_le (Nat.le_of_not_lt hle), coldZone] at hreach

theorem targetSet_nodup (s : State) (target : List Pair) : (targetSet s target).Pairwise (· < ·) :=
  List.Pairwise.filter _ List.pairwise_lt_range

theorem enterNew_slot? {s : State} {z a : Nat} {p : Placement} (h : ∀ q ∈ (s.zone z).queue, q.announcement ≠ a) :
    (enterNew z p s).slot? a = s.slot? a := by
  have hasc := enterQueue_asc z { p with stamp := s.zrt.stampCounter } (advanceStamp s)
  have hslot : (enterNew z p s).slot? a = (makeRoom z p.priority (advanceStamp s)).slot? a := by
    unfold enterNew State.slot?
    rw [hasc]
  rw [hslot]
  unfold makeRoom
  split
  · rfl
  · split
    next v hv =>
      have hne : v.announcement ≠ a := h v (queueVictim_mem hv).1
      exact slot?_dropPlacement_of_ne hne.symm ..
    · rfl

theorem enterNew_counters (z : Nat) (p : Placement) (s : State) : (enterNew z p s).asc.created = s.asc.created ∧
    (enterNew z p s).asc.idCounter = s.asc.idCounter := by
  have hasc := enterQueue_asc z { p with stamp := s.zrt.stampCounter } (advanceStamp s)
  unfold enterNew
  rw [hasc]
  unfold makeRoom
  split
  · exact ⟨rfl, rfl⟩
  · split
    · obtain ⟨hcreated, hcounter, -⟩ := dropPlacement_store z .displaced _ (advanceStamp s)
      exact ⟨hcreated, hcounter⟩
    · exact ⟨rfl, rfl⟩

theorem advanceStamp_stampCounter (s : State) : (advanceStamp s).zrt.stampCounter = s.zrt.stampCounter + 1 := rfl

theorem advanceStamp_zone (s : State) (z : Nat) : (advanceStamp s).zone z = s.zone z := rfl

theorem enterNew_stampCounter (z : Nat) (p : Placement) (s : State) :
    (enterNew z p s).zrt.stampCounter = s.zrt.stampCounter + 1 := by
  unfold enterNew
  rw [enterQueue_stampCounter, advanceStamp_stampCounter]

theorem mem_enterNew {s : State} {z : Nat} (h : z < s.zrt.zones.length) {p q : Placement} :
    q ∈ ((enterNew z p s).zone z).queue ↔ q = { p with stamp := s.zrt.stampCounter } ∨
      q ∈ ((makeRoom z p.priority (advanceStamp s)).zone z).queue := by
  have hlt : z < (advanceStamp s).zrt.zones.length := h
  unfold enterNew
  exact mem_enterQueue hlt

theorem mem_enterNew_self {s : State} {z : Nat} (h : z < s.zrt.zones.length) (p : Placement) :
    { p with stamp := s.zrt.stampCounter } ∈ ((enterNew z p s).zone z).queue := (mem_enterNew h).mpr (.inl rfl)

theorem eq_or_mem_of_mem_enterNew {s : State} {z : Nat} (h : z < s.zrt.zones.length) {p q : Placement}
    (hq : q ∈ ((enterNew z p s).zone z).queue) : q = { p with stamp := s.zrt.stampCounter } ∨ q ∈ (s.zone z).queue := by
  rcases (mem_enterNew h).mp hq with hq | hq
  · exact .inl hq
  · have hmem := mem_of_mem_makeRoom hq
    rw [advanceStamp_zone] at hmem
    exact .inr hmem

theorem inNight_enterNew (z : Nat) (p : Placement) (s : State) :
    inNight (enterNew z p s).smc.mode = inNight s.smc.mode := by
  unfold enterNew enterQueue
  rw [inNight_judgeHold]
  exact inNight_makeRoom ..

/-! ### The placements -/

/-- What has come of the zones `done` of a creation of slot `x` with id `a`, from `m` where its slot is filled. -/
structure PlacedSoFar (m : State) (x : Slot) (done : List Nat) (k : Counts) (u : State) : Prop where
  plays : Plays m u
  slot : u.slot? x.id = m.slot? x.id
  counters : u.asc.created = m.asc.created ∧ u.asc.idCounter = m.asc.idCounter
  night : inNight u.smc.mode = inNight m.smc.mode
  others : ∀ z, z ∉ done.filter (takes m x) → u.zone z = m.zone z
  placed : ∀ i z, (done.filter (takes m x))[i]? = some z → placementFor m x x.id i z ∈ (u.zone z).queue ∧
    ∀ q ∈ (u.zone z).queue, q = placementFor m x x.id i z ∨ q ∈ (m.zone z).queue
  stamps : u.zrt.stampCounter = m.zrt.stampCounter + BitVec.ofNat 32 (done.filter (takes m x)).length
  placedCount : k.placed = (done.filter (takes m x)).length
  refusedCount : k.refused = (done.filter (refuses m x)).length
  heldCount : k.held = (done.filter (takes m x)).countP (fun z => (m.zone z).covering.isSome && decide (x.priority < 7))

section
variable {m u : State} {x : Slot} {done : List Nat} {k : Counts} {z : Nat}

theorem PlacedSoFar.zone (h : PlacedSoFar m x done k u) (hz : z ∉ done) : u.zone z = m.zone z :=
  h.others z fun hmem => hz (List.mem_of_mem_filter hmem)

theorem PlacedSoFar.deferredHere (h : PlacedSoFar m x done k u) (hz : z ∉ done) :
    deferredHere u x z = deferredHere m x z := by
  unfold Machine.deferredHere
  rw [h.zone hz]

theorem PlacedSoFar.refuseReason (h : PlacedSoFar m x done k u) (hz : z ∉ done) :
    refuseReason u x z = refuseReason m x z := by
  have hroom : hasRoom u z x.priority = hasRoom m z x.priority := by
    rw [Bool.eq_iff_iff, ← not_iff_not, Bool.not_eq_true, Bool.not_eq_true, hasRoom_eq_false, hasRoom_eq_false, h.zone hz]
  have hlatest : latestPassed u x.id = latestPassed m x.id := by
    unfold latestPassed
    rw [h.slot, h.plays.clock]
  unfold Machine.refuseReason
  rw [h.zone hz, h.night, hlatest, hroom]

theorem newPlacement_condition (s : State) (x : Slot) (z : Nat) :
    (newPlacement s x z).condition = if (s.zone z).covering.isSome = true ∧ x.priority < 7 then .held else .waiting := by
  have heff := effective_evacuate_iff (s.zone z)
  unfold newPlacement newCondition
  by_cases h : (s.zone z).covering.isSome = true
  · simp [heff, h]
  · simp [heff, h]

theorem PlacedSoFar.deferred (h : PlacedSoFar m x done k u) (hz : z ∉ done) (hd : Machine.deferredHere m x z = true) :
    PlacedSoFar m x (done ++ [z]) (placeIn x (k, u) z).1 (placeIn x (k, u) z).2 := by
  have htakes : takes m x z = false := by unfold takes; rw [hd]; rfl
  have hrefuses : refuses m x z = false := by unfold refuses; rw [hd]; rfl
  have hfilter : (done ++ [z]).filter (takes m x) = done.filter (takes m x) := by simp [List.filter_append, htakes]
  have hfilter' : (done ++ [z]).filter (refuses m x) = done.filter (refuses m x) := by simp [List.filter_append, hrefuses]
  rw [placeIn_of_deferred ((h.deferredHere hz).trans hd)]
  exact { h with
    others := hfilter ▸ h.others, placed := hfilter ▸ h.placed, stamps := hfilter ▸ h.stamps
    placedCount := hfilter ▸ h.placedCount, refusedCount := hfilter' ▸ h.refusedCount, heldCount := hfilter ▸ h.heldCount }

theorem PlacedSoFar.refused (h : PlacedSoFar m x done k u) (hz : z ∉ done) (hd : Machine.deferredHere m x z = false)
    {reason : RefuseReason} (hr : Machine.refuseReason m x z = some reason) :
    PlacedSoFar m x (done ++ [z]) (placeIn x (k, u) z).1 (placeIn x (k, u) z).2 := by
  have htakes : takes m x z = false := by unfold takes; rw [hr]; simp
  have hrefuses : refuses m x z = true := by unfold refuses; rw [hd, hr]; rfl
  have hfilter : (done ++ [z]).filter (takes m x) = done.filter (takes m x) := by simp [List.filter_append, htakes]
  have hfilter' : (done ++ [z]).filter (refuses m x) = done.filter (refuses m x) ++ [z] := by
    simp [List.filter_append, hrefuses]
  rw [placeIn_of_refused ((h.deferredHere hz).trans hd) ((h.refuseReason hz).trans hr)]
  exact
    { plays := h.plays.trans (generate_settles _ u).toPlays
      slot := h.slot
      counters := h.counters
      night := h.night
      others := hfilter ▸ h.others
      placed := hfilter ▸ h.placed
      stamps := hfilter ▸ h.stamps
      placedCount := hfilter ▸ h.placedCount
      refusedCount := by rw [hfilter', List.length_append, ← h.refusedCount]; rfl
      heldCount := hfilter ▸ h.heldCount }

theorem PlacedSoFar.taken (h : PlacedSoFar m x done k u) (hz : z ∉ done) (hlt : z < m.zrt.zones.length)
    (hfresh : ∀ q ∈ (m.zone z).queue, q.announcement ≠ x.id) (hd : Machine.deferredHere m x z = false)
    (hr : Machine.refuseReason m x z = none) :
    PlacedSoFar m x (done ++ [z]) (placeIn x (k, u) z).1 (placeIn x (k, u) z).2 := by
  have htakes : takes m x z = true := by unfold takes; rw [hd, hr]; rfl
  have hrefuses : refuses m x z = false := by unfold refuses; rw [hr]; simp
  have hfilter : (done ++ [z]).filter (takes m x) = done.filter (takes m x) ++ [z] := by simp [List.filter_append, htakes]
  have hfilter' : (done ++ [z]).filter (refuses m x) = done.filter (refuses m x) := by simp [List.filter_append, hrefuses]
  have hzone := h.zone hz
  have hltu : z < u.zrt.zones.length := by
    have := congrArg List.length h.plays.zones
    rw [List.length_map, List.length_map] at this
    omega
  have hcond := newPlacement_condition u x z
  rw [hzone] at hcond
  have hplacement : { newPlacement u x z with stamp := u.zrt.stampCounter } =
      placementFor m x x.id (done.filter (takes m x)).length z := by
    have heq : newPlacement u x z = { newPlacement u x z with
      condition := if (m.zone z).covering.isSome = true ∧ x.priority < 7 then .held else .waiting } := by rw [← hcond]
    rw [heq, h.stamps]
    rfl
  have hne : ∀ y ∈ done.filter (takes m x), y ≠ z := fun y hy heq => hz (heq ▸ List.mem_of_mem_filter hy)
  rw [placeIn_of_placed ((h.deferredHere hz).trans hd) ((h.refuseReason hz).trans hr)]
  have hroom : hasRoom u z (newPlacement u x z).priority = true :=
    refuseReason_hasRoom ((h.refuseReason hz).trans hr)
  exact
    { plays := h.plays.trans (enterNew_settles hroom).toPlays
      slot := (enterNew_slot? fun q hq => hfresh q (hzone ▸ hq)).trans h.slot
      counters := ⟨(enterNew_counters ..).1.trans h.counters.1, (enterNew_counters ..).2.trans h.counters.2⟩
      night := (inNight_enterNew ..).trans h.night
      others := fun y hy => by
        rw [hfilter, List.mem_append, not_or] at hy
        rw [enterNew_onlyZone z _ u y fun heq => hy.2 (heq ▸ List.mem_singleton_self z), h.others y hy.1]
      placed := fun i y hi => by
        rw [hfilter] at hi
        by_cases hlast : i < (done.filter (takes m x)).length
        · rw [List.getElem?_append_left hlast] at hi
          rw [enterNew_onlyZone z _ u y (hne y (List.mem_of_getElem? hi))]
          exact h.placed i y hi
        · rw [List.getElem?_append_right (Nat.le_of_not_lt hlast), List.getElem?_singleton] at hi
          split at hi
          next hsub =>
            cases hi
            obtain rfl : i = (done.filter (takes m x)).length := by omega
            rw [← hplacement]
            refine ⟨mem_enterNew_self hltu _, fun q hq => ?_⟩
            rw [← hzone]
            exact eq_or_mem_of_mem_enterNew hltu hq
          · cases hi
      stamps := by
        rw [enterNew_stampCounter, h.stamps, hfilter, List.length_append, List.length_singleton, BitVec.ofNat_add,
          ← BitVec.add_assoc]
        rfl
      placedCount := by rw [hfilter, List.length_append, ← h.placedCount]; rfl
      refusedCount := hfilter' ▸ h.refusedCount
      heldCount := by
        rw [hfilter, List.countP_append, ← h.heldCount, hcond]
        simp only [List.countP_singleton, Bool.and_eq_true, decide_eq_true_eq]
        split <;> simp_all }

end

/-- The whole target set, of an announcement that has no placement yet. -/
theorem placedSoFar_foldl {m : State} {x : Slot} : ∀ (zs : List Nat), zs.Nodup → (∀ z ∈ zs, z < m.zrt.zones.length) →
    (∀ z ∈ zs, ∀ q ∈ (m.zone z).queue, q.announcement ≠ x.id) →
    PlacedSoFar m x zs (zs.foldl (placeIn x) (noCounts, m)).1 (zs.foldl (placeIn x) (noCounts, m)).2 := by
  intro zs
  induction zs using List.reverseRecOn with
  | nil =>
    exact fun _ _ _ => ⟨.rfl m, rfl, ⟨rfl, rfl⟩, rfl, fun _ _ => rfl, (fun i z hi => by cases hi),
      (BitVec.add_zero _).symm, rfl, rfl, rfl⟩
  | append_singleton done z ih =>
    intro hnodup hlt hfresh
    rw [List.nodup_append] at hnodup
    obtain ⟨hdone, -, hdisjoint⟩ := hnodup
    have hz : z ∉ done := fun h => hdisjoint z h z (List.mem_singleton_self z) rfl
    have hsofar := ih hdone (fun y hy => hlt y (List.mem_append_left _ hy)) fun y hy => hfresh y (List.mem_append_left _ hy)
    have hmem : z ∈ done ++ [z] := List.mem_append_right _ (List.mem_singleton_self z)
    rw [List.foldl_append, List.foldl_cons, List.foldl_nil]
    cases hd : deferredHere m x z with
    | true => exact hsofar.deferred hz hd
    | false =>
      cases hr : refuseReason m x z with
      | some reason => exact hsofar.refused hz hd hr
      | none => exact hsofar.taken hz (hlt z hmem) (hfresh z hmem) hd hr

/-! ### The creation -/

/-- No queue holds a placement of the id that a creation takes, in a store that keeps its law. -/
theorem fresh_of_announcementsOk {s : State} (h : AnnouncementsOk s) {p a z : Nat} (hz : z < 40)
    (ha : (makeSlot p s).slot? a = none) : ∀ q ∈ ((makeSlot p s).zone z).queue, q.announcement ≠ a := by
  intro q hq heq
  obtain ⟨hmem, hslot⟩ := makeSlot_slot? hz hq
  obtain ⟨x, hx, -⟩ := h.queued _ (mem_zones_of_mem_queue hmem) q hmem
  rw [heq, ha, ← heq, hx] at hslot
  cases hslot

theorem removeSlot_slots (a : Nat) (s : State) :
    (removeSlot a s).asc.slots = s.asc.slots.filter (fun y => y.id != a) := rfl

theorem removeSlot_recordSlot_slots {m u : State} {a : Nat} {x : Slot} (ha : m.slot? a = none)
    (hu : u.asc = (recordSlot x a m).asc) : (removeSlot a u).asc.slots = m.asc.slots := by
  have hslots : (removeSlot a u).asc.slots =
      (m.asc.slots ++ [{ x with id := a, seq := m.asc.created }]).filter (fun y => y.id != a) :=
    congrArg (fun l : Asc => l.slots.filter (fun y : Slot => y.id != a)) hu
  have hold : m.asc.slots.filter (fun y => y.id != a) = m.asc.slots :=
    List.filter_eq_self.mpr fun y hy => by simpa using List.find?_eq_none.mp ha y hy
  rw [hslots, List.filter_append, hold]
  simp

/-- What a creation that finds a slot leaves, in a store that keeps its law: the id, the placements, the counts. -/
theorem create_spec {s : State} {x : Slot} (hs : s.asc.slots.length ≤ 64) (h : AnnouncementsOk s)
    (hslot : slotAvailable s x.priority = true) :
    let m := makeSlot x.priority s
    let t := (create x s).2
    ∃ a zs refusing, t.asc.idCounter = a ∧ m.slot? a = none ∧
      (∃ i < 255, a = (s.asc.idCounter + i) % 255 + 1 ∧
        ∀ j < i, (m.slot? ((s.asc.idCounter + j) % 255 + 1)).isSome = true) ∧
      PlacedIn m t x a zs ∧
      ZonesOf m x (fun z => ¬ DefersHere m x z ∧ ∃ reason, RefusedFor m x z reason) refusing ∧
      (zs ≠ [] → t.slot? a = some { x with id := a, seq := s.asc.created } ∧
        ∃ full, (create x s).1 = .kept a
          { placed := zs.length, refused := refusing.length, full := full
            held := zs.countP (fun z => (m.zone z).covering.isSome && decide (x.priority < 7)) }) ∧
      (zs = [] → t.asc.slots = m.asc.slots ∧ ∃ n, (create x s).1 = .noTarget n) := by
  intro m
  have hfree := nextId_fresh hslot hs
  have hlen : m.asc.slots.length < 64 := makeSlot_length hslot hs
  obtain ⟨hcreated, hcounter⟩ := makeSlot_counters x.priority s
  obtain ⟨i, hi, hid, hbefore⟩ := nextId_first (s := m) (by omega)
  set a := nextId m with ha
  set m' := recordSlot x a m with hm'
  set x' : Slot := { x with id := a } with hx'
  have hself : m'.slot? a = some { x with id := a, seq := m.asc.created } := slot?_recordSlot_self hfree
  have hlatest : (m'.slot? x'.id).bind Slot.latestStart = x'.latestStart := by rw [hself]; rfl
  have hsofar := placedSoFar_foldl (m := m') (x := x') (targetSet m' x.target)
    ((targetSet_nodup m' x.target).imp Nat.ne_of_lt) (fun z hz => lt_length_of_mem_targetSet hz)
    fun z hz => fresh_of_announcementsOk h (lt_of_mem_targetSet hz) hfree
  have hcreate := create_of_available hslot
  have hplacings : placings x s = (targetSet m' x.target).foldl (placeIn x') (noCounts, m') := rfl
  rw [hplacings] at hcreate
  have hunplaced := foldl_placeIn_unplaced (x := x') (zs := targetSet m' x.target) (cs := (noCounts, m'))
  generalize (targetSet m' x.target).foldl (placeIn x') (noCounts, m') = fold at hsofar hcreate hunplaced
  obtain ⟨k, u⟩ := fold
  have hzones : ZonesOf m x (fun z => ¬ DefersHere m x z ∧ ∀ reason, ¬ RefusedFor m x z reason)
      ((targetSet m' x.target).filter (takes m' x')) :=
    ⟨(targetSet_nodup m' x.target).filter _, fun z => List.mem_filter.trans (and_congr_right fun _ => takes_iff hlatest z)⟩
  have hrefusing : ZonesOf m x (fun z => ¬ DefersHere m x z ∧ ∃ reason, RefusedFor m x z reason)
      ((targetSet m' x.target).filter (refuses m' x')) :=
    ⟨(targetSet_nodup m' x.target).filter _, fun z => List.mem_filter.trans (and_congr_right fun _ => refuses_iff hlatest z)⟩
  have hid' : ∃ i < 255, a = (s.asc.idCounter + i) % 255 + 1 ∧
      ∀ j < i, (m.slot? ((s.asc.idCounter + j) % 255 + 1)).isSome = true := ⟨i, hi, hcounter ▸ hid, hcounter ▸ hbefore⟩
  have hplacedIn : PlacedIn m u x a ((targetSet m' x.target).filter (takes m' x')) :=
    ⟨hzones, hsofar.placed, fun z hz => congrArg Zone.queue (hsofar.others z hz), hsofar.stamps⟩
  by_cases hpos : 0 < k.placed
  · rw [if_pos hpos] at hcreate
    rw [hcreate]
    refine ⟨a, _, _, hsofar.counters.2, hfree, hid', hplacedIn, hrefusing, fun _ => ⟨?_, k.full, ?_⟩, fun hnil => ?_⟩
    · rw [← hcreated]
      exact hsofar.slot.trans hself
    · refine congrArg (Created.kept a) ?_
      obtain ⟨placed, held, refused, full⟩ := k
      have hp := hsofar.placedCount
      have hr := hsofar.refusedCount
      have hh := hsofar.heldCount
      dsimp only at hp hr hh
      rw [hp, hr, hh]
      rfl
    · have := hsofar.placedCount
      rw [hnil] at this
      exact absurd this (Nat.pos_iff_ne_zero.mp hpos)
  · rw [if_neg hpos] at hcreate
    rw [hcreate]
    have hzero : k.placed = 0 := Nat.eq_zero_of_not_pos hpos
    obtain ⟨-, hasc, -⟩ := hunplaced hzero
    have hnil : (targetSet m' x.target).filter (takes m' x') = [] :=
      List.length_eq_zero_iff.mp (hsofar.placedCount.symm.trans hzero)
    refine ⟨a, _, _, hsofar.counters.2, hfree, hid', ⟨hzones, hplacedIn.placed, hplacedIn.others, hplacedIn.stamps⟩,
      hrefusing, fun hne => absurd hnil hne, fun _ => ⟨removeSlot_recordSlot_slots hfree hasc, k, rfl⟩⟩

/-- Settles O42. -/
theorem aCreationMakesItsAnnouncement : Obligations.ACreationMakesItsAnnouncement := by
  unfold Obligations.ACreationMakesItsAnnouncement
  refine ⟨fun s p => ⟨fun h => if_pos h, fun pre v post hfull hv => ?_⟩, fun s x => ⟨?_, fun h => ?_⟩,
    fun s x k z reason hlatest hd hr => ?_, fun s x hs h hfull => ?_⟩
  · have hmade := makeSlot_of_victim hfull (storeVictim_of_victimFor hv)
    refine ⟨(makeSlot_settles p s).toPlays, (makeSlot_keepsRuns p s).ple, ?_, fun z hz => ?_⟩
    · rw [hmade, removeSlot_slots, (dropEverywhere_store v.id .displaced s).2.2]
    · rw [hmade, removeSlot_zone]
      exact dropEverywhere_queue v.id .displaced s hz
  · rw [create_eq_storeFull, slotAvailable_eq_false]
  · rw [create_of_full (create_eq_storeFull.mp h)]
  · rw [placeIn_of_refused (Bool.eq_false_iff.mpr fun h => hd ((deferredHere_iff s x z).mp h))
      ((refuseReason_iff hlatest z reason).mpr hr)]
  · have hslot : slotAvailable s x.priority = true := by
      by_contra hno
      exact hfull (create_eq_storeFull.mpr (by simpa using hno))
    exact ⟨(create_settles x s).toPlays, (create_keepsRuns x s).ple, create_spec hs h hslot⟩

end Sys2Proof.Machine


/-! PROOFS. A withdrawal (R85): the announcement's placements go, its runs are marked to truncate in every zone. -/

namespace Sys2Proof.Machine

open Sys2Proof.Claims

/-! ### Work that only takes away -/

/-- Announcement `a` is in no queue, and every part of a run of it is marked as withdrawn. -/
structure Silenced (s : State) (a : Nat) : Prop where
  queues : ∀ z < 40, ∀ p ∈ (s.zone z).queue, p.announcement ≠ a
  runs : ∀ c < 8, ∀ r, s.channel c = some r → r.announcement = a → ∀ e ∈ r.zones, e.mark = some .withdrawal

/-- The store holds announcement `a` as a withdrawn one alone. -/
def Dead (s : State) (a : Nat) : Prop := ∀ x ∈ s.asc.slots, x.id = a → x.withdrawn = true

/-- `t` is `s` after work that takes placements, slots and parts of runs away, or marks parts as withdrawn: what has lost
its slot has no placement and no run. -/
structure Wanes (s t : State) : Prop where
  queues : ∀ z, ∀ p ∈ (t.zone z).queue, p ∈ (s.zone z).queue
  slots : ∀ x ∈ t.asc.slots, x ∈ s.asc.slots
  runs : ∀ c r, t.channel c = some r → ∃ r0, s.channel c = some r0 ∧ r.announcement = r0.announcement ∧
    ∀ e ∈ r.zones, e ∈ r0.zones ∨ e.mark = some .withdrawal
  freed : ∀ x ∈ s.asc.slots, x ∈ t.asc.slots ∨ ¬ Used t x.id

theorem Silenced.of_unused {s : State} {a : Nat} (h : ¬ Used s a) : Silenced s a where
  queues z _ p hp ha := h (.inl ⟨z, p, hp, ha⟩)
  runs c _ r hr ha := absurd (.inr ⟨c, r, hr, ha⟩) h

theorem isWithdrawn_of_dead {s : State} {a : Nat} (h : Dead s a) : isWithdrawn s a = true :=
  (isWithdrawn_iff s a).mpr fun x hx => h x (List.mem_of_find?_eq_some hx) (by simpa using List.find?_some hx)

theorem Wanes.rfl (s : State) : Wanes s s :=
  ⟨fun _ _ h => h, fun _ h => h, fun _ r hr => ⟨r, hr, Eq.refl _, fun _ he => .inl he⟩, fun _ h => .inl h⟩

theorem Wanes.used {s t : State} (h : Wanes s t) {a : Nat} (hu : Used t a) : Used s a := by
  rcases hu with ⟨z, p, hp, ha⟩ | ⟨c, r, hr, ha⟩
  · exact .inl ⟨z, p, h.queues z p hp, ha⟩
  · obtain ⟨r0, hr0, hann, -⟩ := h.runs c r hr
    exact .inr ⟨c, r0, hr0, hann.symm.trans ha⟩

theorem Wanes.silenced {s t : State} (h : Wanes s t) {a : Nat} (hs : Silenced s a) : Silenced t a where
  queues z hz p hp := hs.queues z hz p (h.queues z p hp)
  runs c hc r hr ha e he := by
    obtain ⟨r0, hr0, hann, hzones⟩ := h.runs c r hr
    rcases hzones e he with he | he
    · exact hs.runs c hc r0 hr0 (hann.symm.trans ha) e he
    · exact he

theorem Wanes.dead {s t : State} (h : Wanes s t) {a : Nat} (hs : Dead s a) : Dead t a := fun x hx => hs x (h.slots x hx)

theorem Wanes.trans {s t u : State} (h : Wanes s t) (g : Wanes t u) : Wanes s u where
  queues z p hp := h.queues z p (g.queues z p hp)
  slots x hx := h.slots x (g.slots x hx)
  runs c r hr := by
    obtain ⟨r1, hr1, hann1, hzones1⟩ := g.runs c r hr
    obtain ⟨r0, hr0, hann0, hzones0⟩ := h.runs c r1 hr1
    refine ⟨r0, hr0, hann1.trans hann0, fun e he => ?_⟩
    rcases hzones1 e he with he | he
    · exact hzones0 e he
    · exact .inr he
  freed x hx := by
    rcases h.freed x hx with hx | hx
    · exact g.freed x hx
    · exact .inr fun hu => hx (g.used hu)

theorem forEach_wanes {α : Type} {xs : List α} {f : α → State → State} (h : ∀ x s, Wanes s (f x s)) (s : State) :
    Wanes s (forEach xs f s) := by
  unfold forEach
  induction xs generalizing s with
  | nil => exact .rfl s
  | cons x xs ih => exact (h x s).trans (ih (f x s))

/-- Work that keeps queues, slots and channels takes nothing away. -/
theorem Wanes.of_same {s t : State} (hzones : t.zrt.zones = s.zrt.zones) (hasc : t.asc.slots = s.asc.slots)
    (hple : t.ple.channels = s.ple.channels) : Wanes s t where
  queues z p hp := by rwa [zone_of_zones hzones] at hp
  slots x hx := hasc ▸ hx
  runs c r hr := by
    unfold State.channel at hr
    rw [hple] at hr
    exact ⟨r, hr, Eq.refl _, fun _ he => .inl he⟩
  freed x hx := .inl (hasc.symm ▸ hx)

theorem takePlacement_wanes (z a : Nat) (s : State) : Wanes s (takePlacement z a s) where
  queues y p hp := by
    rw [takePlacement_zone] at hp
    split at hp
    · exact List.mem_of_mem_filter hp
    · exact hp
  slots _ hx := hx
  runs _ r hr := ⟨r, hr, Eq.refl _, fun _ he => .inl he⟩
  freed _ hx := .inl hx

theorem judgeHold_wanes (s : State) : Wanes s (judgeHold s) :=
  .of_same (congrArg Zrt.zones (judgeHold_zrt s)) (congrArg Asc.slots (judgeHold_asc s))
    (congrArg Ple.channels (judgeHold_ple s))

theorem freeIfDone_wanes (a : Nat) (s : State) : Wanes s (freeIfDone a s) := by
  have hzone : ∀ z, ((freeIfDone a s).zone z) = s.zone z := fun z => zone_of_zones (freeIfDone_zones a s) z
  have hple := (freeIfDone_keepsRuns a s).ple
  have hchannel : ∀ c, (freeIfDone a s).channel c = s.channel c := fun c => by unfold State.channel; rw [hple]
  have hused : ∀ b, Used (freeIfDone a s) b → Used s b := fun b hu => by
    unfold Used at hu
    simp only [hzone, hchannel] at hu
    exact hu
  exact
    { queues := fun z p hp => by rwa [hzone] at hp
      slots := fun x hx => by
        obtain hasc | ⟨-, -, hasc⟩ := freeIfDone_asc a s
        · exact hasc ▸ hx
        · rw [hasc] at hx
          exact List.mem_of_mem_filter hx
      runs := fun c r hr => ⟨r, hchannel c ▸ hr, rfl, fun _ he => .inl he⟩
      freed := fun x hx => by
        obtain hasc | ⟨hp, hr, hasc⟩ := freeIfDone_asc a s
        · exact .inl (hasc.symm ▸ hx)
        · by_cases hxa : x.id = a
          · refine .inr fun hu => ?_
            rcases used_iff.mp (hused _ hu) with h | h
            · rw [hxa] at h; omega
            · rw [hxa] at h; omega
          · rw [hasc]
            exact .inl (List.mem_filter.mpr ⟨hx, by simpa using hxa⟩) }

theorem generate_wanes (n : Notice) (s : State) : Wanes s (generate n s) := .of_same rfl rfl rfl

theorem dropPlacement_wanes (z : Nat) (reason : DropReason) (p : Placement) (s : State) :
    Wanes s (dropPlacement z reason p s) :=
  (takePlacement_wanes z p.announcement s).trans ((generate_wanes _ _).trans
    ((freeIfDone_wanes p.announcement _).trans (judgeHold_wanes _)))

theorem dropWhere_wanes (z : Nat) (reason : DropReason) (which : Placement → Bool) (s : State) :
    Wanes s (dropWhere z reason which s) := forEach_wanes (dropPlacement_wanes z reason) s

theorem dropEverywhere_wanes (a : Nat) (reason : DropReason) (s : State) : Wanes s (dropEverywhere a reason s) :=
  forEach_wanes (fun z => dropWhere_wanes z reason _) s

theorem setMode_wanes (m : Mode) (cause : ModeCause) (s : State) : Wanes s (setMode m cause s) := .of_same rfl rfl rfl

theorem dropForNight_wanes (s : State) : Wanes s (dropForNight s) := forEach_wanes (fun z => dropWhere_wanes z .night _) s

theorem windingTest_wanes (s : State) : Wanes s (windingTest s) := by
  unfold windingTest
  split
  · split
    · exact (dropForNight_wanes s).trans (setMode_wanes ..)
    · exact ((dropForNight_wanes s).trans (setMode_wanes ..)).trans (judgeHold_wanes _)
  · exact .rfl s

theorem setChannel_none_wanes (c : Nat) (s : State) : Wanes s (s.setChannel c none) where
  queues _ _ hp := hp
  slots _ hx := hx
  runs d r hr := by
    by_cases hd : d = c
    · subst hd
      by_cases hlt : d < s.ple.channels.length
      · rw [channel_setChannel hlt] at hr
        cases hr
      · unfold State.channel State.setChannel at hr
        dsimp only [State.withPle] at hr
        rw [List.set_eq_of_length_le (Nat.le_of_not_lt hlt)] at hr
        exact ⟨r, hr, Eq.refl _, fun _ he => .inl he⟩
    · rw [channel_setChannel_ne s hd] at hr
      exact ⟨r, hr, Eq.refl _, fun _ he => .inl he⟩
  freed _ hx := .inl hx

theorem channelIdle_wanes (c : Nat) (o : RunOutcome) (s : State) : Wanes s (channelIdle c o s) := by
  unfold channelIdle
  split
  · exact .rfl s
  · exact ((setChannel_none_wanes c s).trans (freeIfDone_wanes ..)).trans
      (((judgeHold_wanes _).trans (windingTest_wanes _)).trans (generate_wanes ..))

theorem idleIfEmpty_wanes (c : Nat) (o : RunOutcome) (s : State) : Wanes s (idleIfEmpty c o s) := by
  unfold idleIfEmpty
  split
  · split
    · exact channelIdle_wanes c o s
    · exact .rfl s
  · exact .rfl s

/-! ### The marks of a withdrawal -/

theorem recordLeft_zrt (c : Nat) (e : Left) (s : State) : (recordLeft c e s).zrt = s.zrt := by
  unfold recordLeft
  split <;> rfl

theorem recordLeft_asc (c : Nat) (e : Left) (s : State) : (recordLeft c e s).asc = s.asc := by
  unfold recordLeft
  split <;> rfl

/-- A part that is handed back as withdrawn leaves queues and slots alone. -/
theorem endPart_of_dead {s : State} {c z : Nat} {r : Run} {a : Attached} (hr : s.channel c = some r)
    (ha : attachmentIn r z = some a) (hm : a.mark = some .withdrawal) (hw : isWithdrawn s r.announcement = true)
    (o : RunOutcome) : (endPart c o false z s).asc = s.asc ∧
      ∀ y, ((endPart c o false z s).zone y).queue = (s.zone y).queue := by
  have hresume : ∀ u : State, u.asc = s.asc → resumeCoverage z r.announcement a false u = u := fun u hu => by
    have hwu : isWithdrawn u r.announcement = true := by
      rw [isWithdrawn_iff] at hw ⊢
      simpa only [State.slot?, hu] using hw
    unfold resumeCoverage
    exact if_neg fun h => by simp [hwu] at h
  have hend : endPart c o false z s = recordLeft c { zone := z, outcome := o, fate := .dropped }
      (generate (dropNotice z a.placement .withdrawn) (detachZone c z r s)) := by
    rw [endPart_eq hr ha (disposePlacement_of_withdrawn hm z o _)]
    exact congrArg _ (hresume (generate (dropNotice z a.placement .withdrawn) (detachZone c z r s)) rfl)
  rw [hend, recordLeft_asc]
  refine ⟨rfl, fun y => ?_⟩
  rw [zone_of_zones (congrArg Zrt.zones (recordLeft_zrt ..)), generate_zone]
  exact detachZone_queue c z r s y

theorem endPart_wanes {s : State} {c z : Nat} {r : Run} {a : Attached} (hr : s.channel c = some r)
    (ha : attachmentIn r z = some a) (hm : a.mark = some .withdrawal) (hw : isWithdrawn s r.announcement = true)
    (o : RunOutcome) : Wanes s (endPart c o false z s) := by
  obtain ⟨hasc, hqueue⟩ := endPart_of_dead hr ha hm hw o
  obtain ⟨left, hchannel⟩ := endPart_channel hr o false z
  exact
    { queues := fun y p hp => hqueue y ▸ hp
      slots := fun x hx => hasc ▸ hx
      runs := fun d r' hr' => by
        by_cases hd : d = c
        · subst hd
          rw [hchannel] at hr'
          cases hr'
          exact ⟨r, hr, rfl, fun e he => .inl (List.mem_of_mem_filter he)⟩
        · rw [endPart_channel_ne hd] at hr'
          exact ⟨r', hr', rfl, fun _ he => .inl he⟩
      freed := fun x hx => .inl (hasc.symm ▸ hx) }

/-- The run with the part of zone `z` marked to truncate. -/
def markedRun (cause : TruncateCause) (r : Run) (z : Nat) : Run :=
  { r with zones := r.zones.map (fun a => if a.zone == z then { a with mark := some (joinMark a.mark cause) } else a) }

theorem joinMark_withdrawal (old : Option TruncateCause) : joinMark old .withdrawal = .withdrawal := by
  cases old with
  | none => rfl
  | some cause => cases cause <;> rfl

section
variable {s : State} {c z : Nat} {r : Run} {a : Attached}

theorem markIn_of_detached (h : attachedTo s z c = false) (cause : TruncateCause) : markIn c cause z s = s := by
  unfold attachedTo at h
  unfold markIn
  cases hr : s.channel c with
  | none => rfl
  | some r =>
    rw [hr] at h
    dsimp only at h ⊢
    rw [Option.isSome_eq_false_iff.mp h |> Option.isNone_iff_eq_none.mp]

theorem markIn_of_phrase (hr : s.channel c = some r) (ha : attachmentIn r z = some a) (hp : r.phase = .phrase)
    (cause : TruncateCause) : markIn c cause z s = s.setChannel c (some (markedRun cause r z)) := by
  unfold markIn
  rw [hr]
  dsimp only
  rw [ha]
  dsimp only
  split
  · rfl
  next hg =>
    rw [hp] at hg
    cases hg

theorem markIn_of_gap (hr : s.channel c = some r) (ha : attachmentIn r z = some a) (hp : r.phase = .gap)
    (cause : TruncateCause) : markIn c cause z s = idleIfEmpty c .truncated
      (endPart c .truncated false z (s.setChannel c (some (markedRun cause r z)))) := by
  unfold markIn
  rw [hr]
  dsimp only
  rw [ha]
  dsimp only
  split
  next hg =>
    rw [hp] at hg
    cases hg
  · rfl

theorem attachmentIn_markedRun (ha : attachmentIn r z = some a) (cause : TruncateCause) :
    attachmentIn (markedRun cause r z) z = some { a with mark := some (joinMark a.mark cause) } := by
  have hzone : ∀ b : Attached,
      ((if b.zone == z then { b with mark := some (joinMark b.mark cause) } else b : Attached).zone == z) = (b.zone == z) :=
    fun b => by split <;> rfl
  have hfind : attachmentIn (markedRun cause r z) z = (r.zones.find? (fun b => b.zone == z)).map (fun b : Attached =>
      if b.zone == z then { b with mark := some (joinMark b.mark cause) } else b) := by
    unfold attachmentIn markedRun
    dsimp only
    rw [List.find?_map]
    simp only [Function.comp_def, hzone]
  have hz : (a.zone == z) = true := List.find?_some (p := fun y : Attached => y.zone == z) ha
  unfold attachmentIn at ha
  rw [hfind, ha, Option.map_some, if_pos hz]

end

theorem mem_markedRun {r : Run} {z : Nat} {e : Attached} (h : e ∈ (markedRun .withdrawal r z).zones) :
    (e ∈ r.zones ∨ e.mark = some .withdrawal) ∧ (e.zone = z → e.mark = some .withdrawal) := by
  obtain ⟨a, ha, rfl⟩ := List.mem_map.mp h
  by_cases hz : a.zone == z
  · rw [if_pos hz]
    exact ⟨.inr (congrArg some (joinMark_withdrawal _)), fun _ => congrArg some (joinMark_withdrawal _)⟩
  · rw [if_neg hz]
    exact ⟨.inl ha, fun h => absurd (by simpa using h) hz⟩

theorem setChannel_markedRun_wanes {s : State} {c : Nat} {r : Run} (hr : s.channel c = some r) (z : Nat) :
    Wanes s (s.setChannel c (some (markedRun .withdrawal r z))) where
  queues _ _ hp := hp
  slots _ hx := hx
  runs d r' hr' := by
    by_cases hd : d = c
    · subst hd
      rw [channel_setChannel (lt_of_channel hr)] at hr'
      cases hr'
      exact ⟨r, hr, rfl, fun e he => (mem_markedRun he).1⟩
    · rw [channel_setChannel_ne s hd] at hr'
      exact ⟨r', hr', rfl, fun _ he => .inl he⟩
  freed _ hx := .inl hx

/-- A part of a withdrawn announcement's run is marked as withdrawn, and in a gap it leaves. -/
theorem markIn_wanes {s : State} {c : Nat} (hw : ∀ r, s.channel c = some r → Dead s r.announcement) (z : Nat) :
    Wanes s (markIn c .withdrawal z s) ∧
      ∀ r, (markIn c .withdrawal z s).channel c = some r → ∀ e ∈ r.zones, e.zone = z → e.mark = some .withdrawal := by
  cases hr : s.channel c with
  | none =>
    have hsame : markIn c .withdrawal z s = s := by unfold markIn; rw [hr]
    rw [hsame]
    exact ⟨.rfl s, fun r h => by rw [hr] at h; cases h⟩
  | some r =>
    cases ha : attachmentIn r z with
    | none =>
      have hsame : markIn c .withdrawal z s = s := by unfold markIn; rw [hr]; dsimp only; rw [ha]
      rw [hsame]
      refine ⟨.rfl s, fun r' h e he hz => ?_⟩
      rw [hr] at h
      cases h
      exact absurd (by simpa using hz) (List.find?_eq_none.mp ha e he)
    | some a =>
      have hset := setChannel_markedRun_wanes hr z
      have hmarked : (s.setChannel c (some (markedRun .withdrawal r z))).channel c = some (markedRun .withdrawal r z) :=
        channel_setChannel (lt_of_channel hr) _
      cases hphase : r.phase with
      | phrase =>
        rw [markIn_of_phrase hr ha hphase]
        refine ⟨hset, fun r' hr' e he => ?_⟩
        rw [hmarked] at hr'
        cases hr'
        exact (mem_markedRun he).2
      | gap =>
        rw [markIn_of_gap hr ha hphase]
        have hb := attachmentIn_markedRun ha .withdrawal
        have hbm : some (joinMark a.mark .withdrawal) = some TruncateCause.withdrawal :=
          congrArg some (joinMark_withdrawal _)
        have hend := endPart_wanes hmarked hb hbm (isWithdrawn_of_dead (hset.dead (hw r hr))) .truncated
        have hall := hset.trans (hend.trans (idleIfEmpty_wanes c .truncated _))
        refine ⟨hall, fun r' hr' e he hz => ?_⟩
        obtain ⟨r1, hr1, -, hzones⟩ := (hend.trans (idleIfEmpty_wanes c .truncated _)).runs c r' hr'
        rw [hmarked] at hr1
        cases hr1
        rcases hzones e he with he | he
        · exact (mem_markedRun he).2 hz
        · exact he

theorem forEach_markIn_wanes {c : Nat} : ∀ (zs : List Nat) {s : State}, (∀ r, s.channel c = some r → Dead s r.announcement) →
    Wanes s (forEach zs (markIn c .withdrawal) s) ∧ ∀ r, (forEach zs (markIn c .withdrawal) s).channel c = some r →
      ∀ e ∈ r.zones, e.zone ∈ zs → e.mark = some .withdrawal
  | [], s, _ => ⟨.rfl s, fun _ _ _ _ h => absurd h List.not_mem_nil⟩
  | z :: zs, s, hw => by
    obtain ⟨hhead, hz⟩ := markIn_wanes hw z
    have hw' : ∀ r, (markIn c .withdrawal z s).channel c = some r → Dead (markIn c .withdrawal z s) r.announcement :=
      fun r hr => by
        obtain ⟨r0, hr0, hann, -⟩ := hhead.runs c r hr
        exact hann ▸ hhead.dead (hw r0 hr0)
    obtain ⟨htail, hzs⟩ := forEach_markIn_wanes zs hw'
    refine ⟨hhead.trans htail, fun r hr e he hmem => ?_⟩
    rcases List.mem_cons.mp hmem with heq | hmem
    · obtain ⟨r0, hr0, -, hzones⟩ := htail.runs c r hr
      rcases hzones e he with he | he
      · exact hz r0 hr0 e he heq
      · exact he
    · exact hzs r hr e he hmem

theorem plays_iff {s : State} {a c : Nat} : plays s a c = true ↔ ∃ r, s.channel c = some r ∧ r.announcement = a := by
  unfold plays
  cases s.channel c <;> simp

/-- Every run of a withdrawn announcement is marked in every zone. -/
theorem markRuns_wanes {s : State} {a : Nat} (h : Dead s a) : Wanes s (markRuns a s) ∧
    ∀ c < 8, ∀ r, (markRuns a s).channel c = some r → r.announcement = a →
      ∀ e ∈ r.zones, e.mark = some .withdrawal := by
  have hpass : ∀ (cs : List Nat) {u : State}, Wanes s u → (∀ c ∈ cs, plays s a c = true) →
      let t := forEach cs (fun c s => forEach (zonesOf s c) (markIn c .withdrawal) s) u
      Wanes u t ∧ ∀ c ∈ cs, ∀ r, t.channel c = some r → ∀ e ∈ r.zones, e.mark = some .withdrawal := by
    intro cs
    induction cs with
    | nil => exact fun _ _ => ⟨.rfl _, fun _ h => absurd h List.not_mem_nil⟩
    | cons c cs ih =>
      intro u hu hcs
      obtain ⟨hc, hcs⟩ := List.forall_mem_cons.mp hcs
      have hdead : ∀ r, u.channel c = some r → Dead u r.announcement := fun r hr => by
        obtain ⟨r0, hr0, hann, -⟩ := hu.runs c r hr
        obtain ⟨r1, hr1, hann1⟩ := plays_iff.mp hc
        rw [hr0] at hr1
        cases hr1
        exact (hann.trans hann1) ▸ hu.dead h
      obtain ⟨hhead, hmarks⟩ := forEach_markIn_wanes (zonesOf u c) hdead
      obtain ⟨htail, hrest⟩ := ih (hu.trans hhead) hcs
      refine ⟨hhead.trans htail, fun d hd r hr e he => ?_⟩
      rcases List.mem_cons.mp hd with rfl | hd
      · obtain ⟨r1, hr1, -, hzones1⟩ := htail.runs d r hr
        rcases hzones1 e he with he | he
        · obtain ⟨r0, hr0, -, hzones0⟩ := hhead.runs d r1 hr1
          rcases hzones0 e he with he0 | he0
          · refine hmarks r1 hr1 e he ?_
            unfold zonesOf
            rw [hr0]
            exact List.mem_map_of_mem he0
          · exact he0
        · exact he
      · exact hrest d hd r hr e he
  obtain ⟨hwanes, hmarks⟩ := hpass (channelsPlaying s a) (.rfl s) fun c hc => (List.mem_filter.mp hc).2
  refine ⟨hwanes, fun c hc r hr ha => hmarks c ?_ r hr⟩
  obtain ⟨r0, hr0, hann, -⟩ := hwanes.runs c r hr
  exact List.mem_filter.mpr ⟨List.mem_range.mpr hc, plays_iff.mpr ⟨r0, hr0, hann.symm.trans ha⟩⟩

/-! ### The withdrawal of an announcement and of a call's announcements -/

/-- `s` with announcement `a` marked as withdrawn. -/
def flagged (a : Nat) (s : State) : State := s.modifySlot a (fun x => { x with withdrawn := true })

theorem withdrawAnnouncement_of_none {s : State} {a : Nat} (h : s.slot? a = none) : withdrawAnnouncement a s = s := by
  unfold withdrawAnnouncement
  rw [h]

theorem withdrawAnnouncement_of_withdrawn {s : State} {a : Nat} {x : Slot} (h : s.slot? a = some x)
    (hw : x.withdrawn = true) : withdrawAnnouncement a s = s := by
  unfold withdrawAnnouncement
  rw [h]
  exact if_pos hw

theorem withdrawAnnouncement_of_live {s : State} {a : Nat} {x : Slot} (h : s.slot? a = some x) (hw : x.withdrawn = false) :
    withdrawAnnouncement a s = markRuns a (dropEverywhere a .withdrawn (flagged a s)) := by
  unfold withdrawAnnouncement
  rw [h]
  exact if_neg (by simp [hw])

theorem mem_flagged {s : State} {a : Nat} {x : Slot} (h : x ∈ (flagged a s).asc.slots) :
    (x ∈ s.asc.slots ∧ x.id ≠ a) ∨ (x.id = a ∧ x.withdrawn = true) := by
  obtain ⟨y, hy, rfl⟩ := List.mem_map.mp h
  by_cases ha : y.id == a
  · rw [if_pos ha]
    exact .inr ⟨by simpa using ha, rfl⟩
  · rw [if_neg ha]
    exact .inl ⟨hy, by simpa using ha⟩

/-- A live announcement is withdrawn: nothing is left of it but marked parts of runs. -/
theorem withdrawAnnouncement_spec {s : State} {a : Nat} {x : Slot} (h : s.slot? a = some x) (hw : x.withdrawn = false) :
    Wanes (flagged a s) (withdrawAnnouncement a s) ∧ Silenced (withdrawAnnouncement a s) a := by
  have hdead : Dead (flagged a s) a := fun y hy hya => by
    rcases mem_flagged hy with ⟨-, hne⟩ | ⟨-, hyw⟩
    · exact absurd hya hne
    · exact hyw
  have hdrop := dropEverywhere_wanes a .withdrawn (flagged a s)
  obtain ⟨hmark, hruns⟩ := markRuns_wanes (hdrop.dead hdead)
  rw [withdrawAnnouncement_of_live h hw]
  refine ⟨hdrop.trans hmark, fun z hz p hp => ?_, hruns⟩
  have hp := hmark.queues z p hp
  rw [dropEverywhere_queue a .withdrawn _ hz, List.mem_filter] at hp
  simpa using hp.2

/-- What a withdrawal of the announcements `done` leaves of the part. -/
structure WithdrawnSoFar (s : State) (done : List Nat) (t : State) : Prop where
  slots : ∀ x ∈ t.asc.slots, (x ∈ s.asc.slots ∧ x.id ∉ done) ∨ (x.withdrawn = true ∧ x.id ∈ done)
  silenced : ∀ x ∈ s.asc.slots, x.id ∈ done → x.withdrawn = false → Silenced t x.id
  freed : ∀ x ∈ s.asc.slots, (∃ y ∈ t.asc.slots, y.id = x.id) ∨ Silenced t x.id

theorem WithdrawnSoFar.withdraw {s t : State} {done : List Nat} (hnodup : (s.asc.slots.map Slot.id).Nodup)
    (h : WithdrawnSoFar s done t) {a : Nat} (ha : a ∉ done) :
    WithdrawnSoFar s (done ++ [a]) (withdrawAnnouncement a t) := by
  have hmem : ∀ b, b ∈ done ++ [a] ↔ b ∈ done ∨ b = a := fun b => by simp
  have hunique : ∀ x ∈ s.asc.slots, ∀ y ∈ s.asc.slots, x.id = y.id → x = y := fun x hx y hy =>
    List.inj_on_of_nodup_map hnodup hx hy
  cases hslot : t.slot? a with
  | none =>
    have hne : ∀ x ∈ t.asc.slots, x.id ≠ a := fun x hx => by simpa using List.find?_eq_none.mp hslot x hx
    rw [withdrawAnnouncement_of_none hslot]
    refine ⟨fun x hx => ?_, fun x hx hdone hlive => ?_, h.freed⟩
    · rcases h.slots x hx with ⟨hs, hnot⟩ | ⟨hw, hdone⟩
      · exact .inl ⟨hs, fun hb => ((hmem _).mp hb).elim hnot (hne x hx)⟩
      · exact .inr ⟨hw, (hmem _).mpr (.inl hdone)⟩
    · rcases (hmem _).mp hdone with hdone | heq
      · exact h.silenced x hx hdone hlive
      · rcases h.freed x hx with ⟨y, hy, hyx⟩ | hs
        · exact absurd (hyx.trans heq) (hne y hy)
        · exact hs
  | some x =>
    have hx : x ∈ t.asc.slots := List.mem_of_find?_eq_some hslot
    have hxa : x.id = a := by simpa using List.find?_some hslot
    have hxs : x ∈ s.asc.slots := by
      rcases h.slots x hx with ⟨hs, -⟩ | ⟨-, hdone⟩
      · exact hs
      · exact absurd (hxa ▸ hdone) ha
    cases hw : x.withdrawn with
    | true =>
      rw [withdrawAnnouncement_of_withdrawn hslot hw]
      refine ⟨fun y hy => ?_, fun y hy hdone hlive => ?_, h.freed⟩
      · rcases h.slots y hy with ⟨hs, hnot⟩ | ⟨hyw, hdone⟩
        · by_cases hya : y.id = a
          · rw [hunique y hs x hxs (hya.trans hxa.symm)]
            exact .inr ⟨hw, (hmem _).mpr (.inr hxa)⟩
          · exact .inl ⟨hs, fun hb => ((hmem _).mp hb).elim hnot hya⟩
        · exact .inr ⟨hyw, (hmem _).mpr (.inl hdone)⟩
      · rcases (hmem _).mp hdone with hdone | heq
        · exact h.silenced y hy hdone hlive
        · rw [hunique y hy x hxs (heq.trans hxa.symm), hw] at hlive
          cases hlive
    | false =>
      obtain ⟨hwanes, hsilenced⟩ := withdrawAnnouncement_spec hslot hw
      have hkept : ∀ b, Silenced t b → Silenced (withdrawAnnouncement a t) b := fun b hb =>
        hwanes.silenced (s := flagged a t) ⟨hb.queues, hb.runs⟩
      refine ⟨fun y hy => ?_, fun y hy hdone hlive => ?_, fun y hy => ?_⟩
      · rcases mem_flagged (hwanes.slots y hy) with ⟨hyt, hne⟩ | ⟨hya, hyw⟩
        · rcases h.slots y hyt with ⟨hs, hnot⟩ | ⟨hyw, hdone⟩
          · exact .inl ⟨hs, fun hb => ((hmem _).mp hb).elim hnot hne⟩
          · exact .inr ⟨hyw, (hmem _).mpr (.inl hdone)⟩
        · exact .inr ⟨hyw, (hmem _).mpr (.inr hya)⟩
      · rcases (hmem _).mp hdone with hdone | heq
        · exact hkept _ (h.silenced y hy hdone hlive)
        · exact heq ▸ hsilenced
      · rcases h.freed y hy with ⟨y', hy', hid⟩ | hs
        · have hflag : ∃ w ∈ (flagged a t).asc.slots, w.id = y'.id :=
            ⟨_, List.mem_map_of_mem hy', by split <;> rfl⟩
          obtain ⟨w, hw, hwid⟩ := hflag
          rcases hwanes.freed w hw with hw | hw
          · exact .inl ⟨w, hw, hwid.trans hid⟩
          · exact .inr (.of_unused (hid ▸ hwid ▸ hw))
        · exact .inr (hkept _ hs)

theorem withdrawnSoFar_forEach {s : State} (hnodup : (s.asc.slots.map Slot.id).Nodup) : ∀ ids : List Nat, ids.Nodup →
    WithdrawnSoFar s ids (forEach ids withdrawAnnouncement s) := by
  intro ids
  induction ids using List.reverseRecOn with
  | nil =>
    exact fun _ => ⟨fun x hx => .inl ⟨hx, List.not_mem_nil⟩, fun _ _ h => absurd h List.not_mem_nil,
      fun x hx => .inl ⟨x, hx, rfl⟩⟩
  | append_singleton done a ih =>
    intro h
    rw [List.nodup_append] at h
    obtain ⟨hdone, -, hdisjoint⟩ := h
    have hsofar := (ih hdone).withdraw hnodup (a := a) fun ha => hdisjoint a ha a (List.mem_singleton_self a) rfl
    unfold forEach at hsofar ⊢
    rw [List.foldl_append]
    exact hsofar

/-- Every announcement of a call is withdrawn, and nothing is left of those that were live but marked parts of runs. -/
theorem withdrawCall_spec {id : Nat} {s : State} (hnodup : (s.asc.slots.map Slot.id).Nodup) :
    (∀ x ∈ (withdrawCall id s).asc.slots, x.call = some id → x.withdrawn = true) ∧
    ∀ x ∈ s.asc.slots, x.call = some id → x.withdrawn = false → Silenced (withdrawCall id s) x.id := by
  have hsofar := withdrawnSoFar_forEach hnodup ((s.asc.slots.filter (fun x => x.call == some id)).map Slot.id)
    (hnodup.sublist (List.filter_sublist.map _))
  have hmem : ∀ x ∈ s.asc.slots, x.call = some id →
      x.id ∈ (s.asc.slots.filter (fun x => x.call == some id)).map Slot.id := fun x hx hc =>
    List.mem_map_of_mem (List.mem_filter.mpr ⟨hx, by simpa using hc⟩)
  refine ⟨fun x hx hc => ?_, fun x hx hc hw => hsofar.silenced x hx (hmem x hx hc) hw⟩
  rcases hsofar.slots x hx with ⟨hs, hnot⟩ | ⟨hw, -⟩
  · exact absurd (hmem x hs hc) hnot
  · exact hw

end Sys2Proof.Machine


/-! PROOFS. What a creation answers (R80, R81): its id and its counts, zone by zone. -/

namespace Sys2Proof.Machine

open Sys2Proof.Claims

/-! ### The counts of a creation -/

theorem targetSet_congr {s t : State} (h : SameSites s t) (target : List Pair) : targetSet t target = targetSet s target := by
  have hin : inTarget t target = inTarget s target := funext fun z => by
    have hsite := h.site z
    unfold inTarget
    rw [reachableZone_congr hsite.enabled hsite.address hsite.groups, hsite.address]
  unfold targetSet
  rw [hin]

/-- What the zones `done` of a creation add up to, and what they leave of the other zones. -/
structure Tallied (m : State) (x : Slot) (done : List Nat) (k : Counts) (u : State) : Prop where
  others : ∀ z, z ∉ done → u.zone z = m.zone z
  total : k.placed + k.refused + done.countP (deferredHere m x) = done.length
  held : k.held ≤ k.placed

theorem Tallied.placeIn {m u : State} {x : Slot} {done : List Nat} {k : Counts} {z : Nat} (h : Tallied m x done k u)
    (hz : z ∉ done) : Tallied m x (done ++ [z]) (placeIn x (k, u) z).1 (placeIn x (k, u) z).2 := by
  have hdeferred : deferredHere u x z = deferredHere m x z := by
    unfold deferredHere
    rw [h.others z hz]
  obtain ⟨hothers, htotal, hheld⟩ := h
  have hkept : ∀ y, y ∉ done ++ [z] → y ∉ done ∧ y ≠ z := fun y hy => by simpa [not_or] using hy
  have hlength : (done ++ [z]).length = done.length + 1 := by simp
  have hcount : (done ++ [z]).countP (deferredHere m x) =
      done.countP (deferredHere m x) + if deferredHere m x z = true then 1 else 0 := by
    rw [List.countP_append, List.countP_singleton]
  cases hd : deferredHere m x z with
  | true =>
    rw [placeIn_of_deferred (hdeferred.trans hd)]
    rw [hd, if_pos rfl] at hcount
    exact ⟨fun y hy => hothers y (hkept y hy).1, by rw [hcount, hlength]; dsimp only; omega, hheld⟩
  | false =>
    rw [hd, if_neg Bool.false_ne_true] at hcount
    cases hr : refuseReason u x z with
    | some reason =>
      rw [placeIn_of_refused (hdeferred.trans hd) hr]
      exact ⟨fun y hy => hothers y (hkept y hy).1, by rw [hcount, hlength]; dsimp only; omega, hheld⟩
    | none =>
      rw [placeIn_of_placed (hdeferred.trans hd) hr]
      refine ⟨fun y hy => ?_, by rw [hcount, hlength]; dsimp only; omega, ?_⟩
      · dsimp only
        rw [enterNew_onlyZone z _ u y (hkept y hy).2]
        exact hothers y (hkept y hy).1
      · dsimp only
        split <;> omega

theorem tallied_foldl (m : State) (x : Slot) : ∀ zs : List Nat, zs.Nodup →
    Tallied m x zs (zs.foldl (placeIn x) (noCounts, m)).1 (zs.foldl (placeIn x) (noCounts, m)).2 := by
  intro zs
  induction zs using List.reverseRecOn with
  | nil => exact fun _ => ⟨fun _ _ => rfl, rfl, Nat.le_refl 0⟩
  | append_singleton done z ih =>
    intro hnodup
    rw [List.nodup_append] at hnodup
    obtain ⟨hdone, -, hdisjoint⟩ := hnodup
    rw [List.foldl_append, List.foldl_cons, List.foldl_nil]
    exact (ih hdone).placeIn fun h => hdisjoint z h z (List.mem_singleton_self z) rfl

/-- Where nothing is placed, every zone defers or refuses as the creation found it. -/
theorem refused_of_unplaced {x : Slot} {z : Nat} : ∀ {zs : List Nat} {k : Counts} {s : State},
    (zs.foldl (placeIn x) (k, s)).1.placed = 0 → z ∈ zs →
      deferredHere s x z = true ∨ (refuseReason s x z).isSome = true
  | [], _, _, _, hz => absurd hz List.not_mem_nil
  | y :: zs, k, s, h, hz => by
    have hplaced := (foldl_placeIn_unplaced (zs := zs) (cs := placeIn x (k, s) y) h).1
    cases hd : deferredHere s x y with
    | true =>
      rcases List.mem_cons.mp hz with rfl | hz
      · exact .inl hd
      · rw [List.foldl_cons, placeIn_of_deferred hd] at h
        exact refused_of_unplaced h hz
    | false =>
      cases hr : refuseReason s x y with
      | none =>
        rw [placeIn_of_placed hd hr] at hplaced
        exact absurd hplaced (Nat.succ_ne_zero _)
      | some reason =>
        rcases List.mem_cons.mp hz with rfl | hz
        · exact .inr (by rw [hr]; rfl)
        · rw [List.foldl_cons, placeIn_of_refused hd hr] at h
          exact refused_of_unplaced (s := generate _ s) h hz

/-! ### What a creation answers -/

/-- The state in which a creation takes its zones, its slot filled. -/
def filled (x : Slot) (s : State) : State := recordSlot x (nextId (makeSlot x.priority s)) (makeSlot x.priority s)

theorem filled_sites (x : Slot) (s : State) : SameSites s (filled x s) := by
  have hmade := (makeSlot_settles x.priority s).toPlays.sameSites
  have hrecorded : SameSites (makeSlot x.priority s) (filled x s) := ⟨rfl, rfl, fun _ => ⟨rfl, rfl, rfl, rfl, fun _ => ⟨rfl, rfl⟩⟩⟩
  exact hmade.trans hrecorded

theorem placings_eq (x : Slot) (s : State) : placings x s =
    (targetSet (filled x s) x.target).foldl (placeIn { x with id := nextId (makeSlot x.priority s) })
      (noCounts, filled x s) := rfl

/-- A creation that is kept: its id is free and its counts are those of its target set. -/
theorem create_kept {s : State} {x : Slot} {a : Nat} {k : Counts} (h : (create x s).1 = .kept a k) :
    slotAvailable s x.priority = true ∧ a = nextId (makeSlot x.priority s) ∧ k = (placings x s).1 ∧ 0 < k.placed := by
  have hslot : slotAvailable s x.priority = true := by
    by_contra hno
    rw [create_of_full (by simpa using hno)] at h
    cases h
  rw [create_of_available hslot] at h
  split at h
  next hpos =>
    cases h
    exact ⟨hslot, rfl, rfl, hpos⟩
  · cases h

theorem create_kept_id {s : State} {x : Slot} {a : Nat} {k : Counts} (h : (create x s).1 = .kept a k)
    (hs : s.asc.slots.length ≤ 64) : 1 ≤ a ∧ a ≤ 255 := by
  obtain ⟨hslot, rfl, -, -⟩ := create_kept h
  have hlen : (makeSlot x.priority s).asc.slots.length < 64 := makeSlot_length hslot hs
  exact (nextId_spec (by omega)).2

theorem deferredHere_of_host {x y : Slot} (h : ∀ n, x.origin ≠ .evac n) (hy : y.origin = x.origin) (s : State) (z : Nat) :
    deferredHere s y z = false := by
  unfold deferredHere
  rw [hy]
  cases horigin : x.origin with
  | evac n => exact absurd horigin (h n)
  | host | cue => rfl

/-- The counts of a creation that is no evacuation announcement. -/
theorem create_kept_counts {s : State} {x : Slot} {a : Nat} {k : Counts} (h : (create x s).1 = .kept a k)
    (hx : ∀ n, x.origin ≠ .evac n) :
    0 < k.placed ∧ k.placed + k.refused = (targetSet s x.target).length ∧ k.held ≤ k.placed := by
  obtain ⟨-, -, hk, hpos⟩ := create_kept h
  have htally := tallied_foldl (filled x s) { x with id := nextId (makeSlot x.priority s) }
    (targetSet (filled x s) x.target) ((targetSet_nodup ..).imp Nat.ne_of_lt)
  rw [← placings_eq, ← hk] at htally
  have hnone : (targetSet (filled x s) x.target).countP
      (deferredHere (filled x s) { x with id := nextId (makeSlot x.priority s) }) = 0 :=
    List.countP_eq_zero.mpr fun z _ => Bool.eq_false_iff.mp (deferredHere_of_host hx (Eq.refl x.origin) (filled x s) z)
  have htotal := htally.total
  rw [hnone, Nat.add_zero, targetSet_congr (filled_sites x s)] at htotal
  exact ⟨hpos, htotal, htally.held⟩

theorem create_noTarget {s : State} {x : Slot} {n : Counts} (h : (create x s).1 = .noTarget n) :
    (placings x s).1.placed = 0 := by
  by_contra hpos
  have hslot : slotAvailable s x.priority = true := by
    by_contra hno
    rw [create_of_full (by simpa using hno)] at h
    cases h
  rw [create_of_available hslot, if_pos (Nat.pos_of_ne_zero hpos)] at h
  cases h

/-- By day an OPEN zone of the target set with room takes an announcement without latest start. -/
theorem create_accepts {s : State} {x : Slot} (hx : ∀ n, x.origin ≠ .evac n) (hs : s.asc.slots.length < 64)
    (hlatest : x.latestStart = none) (hday : inNight s.smc.mode = false) {z : Nat} (hz : z ∈ targetSet s x.target)
    (hopen : (s.zone z).base = .opn) (hcovering : (s.zone z).covering = none) (hroom : (s.zone z).queue.length < 12) :
    ∃ a k, (create x s).1 = .kept a k := by
  have hmade : makeSlot x.priority s = s := if_pos hs
  cases hk : (create x s).1 with
  | kept a k => exact ⟨a, k, rfl⟩
  | storeFull =>
    have hfull := (slotAvailable_eq_false.mp (create_eq_storeFull.mp hk)).1
    omega
  | noTarget n =>
    have hunplaced := create_noTarget hk
    rw [placings_eq] at hunplaced
    have hzone : (filled x s).zone z = s.zone z := by unfold filled; rw [hmade]; rfl
    have hmode : (filled x s).smc.mode = s.smc.mode := by unfold filled; rw [hmade]; rfl
    have hfree : s.slot? (nextId s) = none := Option.isNone_iff_eq_none.mp (nextId_spec (by omega)).1
    have hself : (filled x s).slot? (nextId (makeSlot x.priority s)) =
        some { x with id := nextId s, seq := s.asc.created } := by
      unfold filled
      rw [hmade]
      exact slot?_recordSlot_self hfree
    set x' : Slot := { x with id := nextId (makeSlot x.priority s) } with hx'
    have heff : effective (s.zone z) = .opn := by unfold effective; rw [hcovering, hopen]; rfl
    have hreason : refuseReason (filled x s) x' z = none := by
      have hexpired : latestPassed (filled x s) x'.id = false := by
        unfold latestPassed
        rw [hself]
        dsimp only [Option.bind_some]
        rw [hlatest]
      have hfits : hasRoom (filled x s) z x'.priority = true := by
        rw [← Bool.not_eq_false, hasRoom_eq_false, hzone]
        omega
      unfold refuseReason
      rw [hzone, hmode, heff, hday, hexpired, hfits]
      rfl
    rcases refused_of_unplaced hunplaced (by rwa [targetSet_congr (filled_sites x s)]) with hd | hr
    · rw [deferredHere_of_host (y := x') hx rfl] at hd
      cases hd
    · rw [hreason] at hr
      cases hr

end Sys2Proof.Machine


/-! PROOFS. The host's announcements (R80, R88, R89): their content, what refuses them, and WITHDRAW (R85). -/

namespace Sys2Proof.Machine

open Sys2Proof.Claims

/-! ### The content of a host announcement -/

theorem hostToken_eq_phrase {t : RawToken} {p : Nat} :
    hostToken t = some (.phrase p) ↔ t.code = 1 ∧ t.param = p ∧ p < Config.maxPhrases := by
  obtain ⟨code, param⟩ := t
  unfold hostToken
  dsimp only
  split
  · simp only [true_and]
    split
    · simp only [Option.some.injEq, Token.phrase.injEq]
      exact ⟨fun h => ⟨h, h ▸ ‹_›⟩, fun h => h.1⟩
    next hge => exact ⟨fun h => (nomatch h), fun ⟨hp, hlt⟩ => absurd (hp ▸ hlt) hge⟩
  · simp
  · simp
  next hne _ _ =>
    refine ⟨fun h => ?_, fun h => absurd h.1 hne⟩
    unfold fieldToken at h
    split at h <;> cases h

theorem isCallField_iff {t : RawToken} {x : Token} (h : hostToken t = some x) : isCallField x = true ↔ FieldCode t := by
  obtain ⟨code, param⟩ := t
  unfold FieldCode
  unfold hostToken at h
  dsimp only at h ⊢
  split at h
  · split at h <;> cases h
    simp [isCallField]
  · cases h
    simp [isCallField]
  · split at h <;> cases h
    simp [isCallField]
  · refine ⟨fun _ => fieldToken_isSome.mp ⟨x, h⟩, fun _ => ?_⟩
    unfold fieldToken at h
    split at h <;> cases h <;> rfl

theorem field_mem_iff {raw : List RawToken} {ts : List Token} (h : List.Forall₂ (fun t x => hostToken t = some x) raw ts) :
    (∃ x ∈ ts, isCallField x = true) ↔ ∃ t ∈ raw, FieldCode t := by
  induction h with
  | nil => simp
  | cons hx _ ih => rw [List.exists_mem_cons_iff, List.exists_mem_cons_iff, ih, isCallField_iff hx]

theorem absentAt_zero {s : State} {t : Token} {ts : List Token} :
    AbsentAt s (t :: ts) 0 ↔ ∃ p, t = .phrase p ∧ s.phrase? p = none := by
  simp [AbsentAt]

theorem absentAt_succ {s : State} {t : Token} {ts : List Token} {k : Nat} : AbsentAt s (t :: ts) (k + 1) ↔ AbsentAt s ts k := by
  simp [AbsentAt]

theorem missingAt_iff {s : State} {raw : List RawToken} {ts : List Token}
    (h : List.Forall₂ (fun t x => hostToken t = some x) raw ts) (k : Nat) : MissingAt s raw k ↔ AbsentAt s ts k := by
  induction h generalizing k with
  | nil => simp [MissingAt, AbsentAt]
  | @cons t x raw ts hx _ ih =>
    cases k with
    | zero =>
      rw [absentAt_zero]
      constructor
      · rintro ⟨t', ht, hcode, hnone⟩
        cases ht
        obtain ⟨y, hy⟩ : ∃ p, x = .phrase p := by
          unfold hostToken at hx
          simp only [hcode] at hx
          split at hx <;> cases hx
          exact ⟨_, rfl⟩
        subst hy
        obtain ⟨-, hparam, -⟩ := hostToken_eq_phrase.mp hx
        exact ⟨y, rfl, hparam ▸ hnone⟩
      · rintro ⟨p, rfl, hnone⟩
        obtain ⟨hcode, hparam, -⟩ := hostToken_eq_phrase.mp hx
        exact ⟨t, rfl, hcode, hparam.symm ▸ hnone⟩
    | succ k =>
      rw [absentAt_succ, ← ih k]
      simp [MissingAt]

theorem missingToken_of_absent {s : State} {t : Token} {ts : List Token} (h : AbsentAt s (t :: ts) 0) (n : Nat) :
    missingToken s n (t :: ts) = some n := by
  obtain ⟨p, rfl, hp⟩ := absentAt_zero.mp h
  simp [missingToken, hp]

theorem missingToken_of_found {s : State} {t : Token} {ts : List Token} (h : ¬ AbsentAt s (t :: ts) 0) (n : Nat) :
    missingToken s n (t :: ts) = missingToken s (n + 1) ts := by
  rw [absentAt_zero] at h
  cases t with
  | phrase p => exact if_neg (by simpa [Option.isNone_iff_eq_none] using h)
  | number | time | dest | origin | cls | calling | platform | oldPlatform | schedTime | expTime | delay | ifDelayed |
      ifChanged | endIf => rfl

theorem missingToken_of_first {s : State} : ∀ {ts : List Token} {k : Nat} (n : Nat), AbsentAt s ts k →
    (∀ j < k, ¬ AbsentAt s ts j) → missingToken s n ts = some (n + k)
  | [], _, _, h, _ => absurd h (by simp [AbsentAt])
  | t :: ts, 0, n, h, _ => missingToken_of_absent h n
  | t :: ts, k + 1, n, h, hfirst => by
    rw [missingToken_of_found (hfirst 0 (Nat.succ_pos k)),
      missingToken_of_first (n + 1) (absentAt_succ.mp h) fun j hj hb => hfirst (j + 1) (by omega) (absentAt_succ.mpr hb)]
    congr 1
    omega

theorem missingToken_of_none {s : State} : ∀ {ts : List Token} (n : Nat), (∀ k, ¬ AbsentAt s ts k) →
    missingToken s n ts = none
  | [], _, _ => rfl
  | t :: ts, n, h => by
    rw [missingToken_of_found (h 0)]
    exact missingToken_of_none (n + 1) fun k hb => h (k + 1) (absentAt_succ.mpr hb)

theorem missingPhrase_of_chime {s : State} {p : Nat} (h : s.phrase? p = none) (ts : List Token) :
    missingPhrase s (some p) ts = some 0 := by
  unfold missingPhrase
  exact if_pos (by rw [h]; rfl)

theorem missingPhrase_of_chime_found {s : State} {chime : Option Nat} (h : ∀ p, chime = some p → s.phrase? p ≠ none)
    (ts : List Token) : missingPhrase s chime ts = missingToken s 1 ts := by
  unfold missingPhrase
  cases chime with
  | none => rfl
  | some p => exact if_neg (by simpa [Option.isNone_iff_eq_none] using h p rfl)

/-! ### ANNOUNCE -/

theorem createWhole_eq (x : Slot) (s : State) : createWhole x s = ((create x s).1, afterCreation x (create x s)) := rfl

theorem hostProto_eq (h : HeaderReq) (tag : Byte) (ts : List Token) :
    hostProto (storeHeader h) tag ts = hostAnnouncement (headerStored h) tag ts := by rw [storeHeader_eq]; rfl

/-- ANNOUNCE's tokens, header and call field tokens come first. -/
theorem announceRequest_outOfRange {tag : Byte} {r : AnnounceReq} {s : State} (hne : r.tokens ≠ [])
    (hlen : r.tokens.length ≤ 16) (h : ¬ HeaderFits r.header ∨ (∃ t ∈ r.tokens, ¬ HostTokenFits t) ∨
      (r.header.call = none ∧ ∃ t ∈ r.tokens, FieldCode t)) : announceRequest tag r s = (refused .outOfRange, s) := by
  unfold announceRequest
  rw [if_neg (by rintro (h | h); exacts [hne h, absurd hlen (Nat.not_le.mpr h)])]
  by_cases hunfit : ∃ t ∈ r.tokens, ¬ HostTokenFits t
  · rw [storeTokens_of_unfit hunfit]
    rfl
  · obtain ⟨ts, hts⟩ := storeTokens_of_fit (raw := r.tokens) (by simpa using hunfit)
    rw [hts]
    refine if_pos ?_
    rw [Bool.or_eq_true, fieldWithoutCall_iff, ← Bool.not_eq_false, headerOutOfRange_eq_false]
    refine h.imp_right fun h => ?_
    rcases h with h | ⟨hcall, hfield⟩
    · exact absurd h hunfit
    · exact ⟨hcall, (field_mem_iff (storeTokens_eq_some.mp hts)).mpr hfield⟩

/-- An ANNOUNCE that fits is judged by its call and its phrases. -/
theorem announceRequest_of_fit {tag : Byte} {r : AnnounceReq} {s : State} (hne : r.tokens ≠ [])
    (hlen : r.tokens.length ≤ 16) (hheader : HeaderFits r.header) (htokens : ∀ t ∈ r.tokens, HostTokenFits t)
    (hfields : r.header.call = none → ∀ t ∈ r.tokens, ¬ FieldCode t) :
    ∃ ts, List.Forall₂ (fun t x => hostToken t = some x) r.tokens ts ∧
      (callMissing s r.header.call = true → announceRequest tag r s = (refused .notFound, s)) ∧
      (callMissing s r.header.call = false →
        (∀ n, missingPhrase s r.header.chime ts = some n → announceRequest tag r s = (.refused .missingPhrase n, s)) ∧
        (missingPhrase s r.header.chime ts = none → announceRequest tag r s =
          (announceReply (headerClamped r.header || tokensClamped r.tokens)
            (create (hostAnnouncement (headerStored r.header) tag ts) s).1,
            afterCreation (hostAnnouncement (headerStored r.header) tag ts)
              (create (hostAnnouncement (headerStored r.header) tag ts) s)))) := by
  obtain ⟨ts, hts⟩ := storeTokens_of_fit htokens
  have hpairs := storeTokens_eq_some.mp hts
  have hgood : (headerOutOfRange r.header || fieldWithoutCall r.header.call ts) = false := by
    rw [Bool.or_eq_false_iff, headerOutOfRange_eq_false]
    refine ⟨hheader, Bool.eq_false_iff.mpr fun h => ?_⟩
    obtain ⟨hcall, hfield⟩ := (fieldWithoutCall_iff _ _).mp h
    obtain ⟨t, ht, hcode⟩ := (field_mem_iff hpairs).mp hfield
    exact hfields hcall t ht hcode
  have heq : announceRequest tag r s = if callMissing s r.header.call = true then (refuse .notFound, s) else
      match missingPhrase s r.header.chime ts with
      | some n => (.refused .missingPhrase n, s)
      | none => (announceReply (headerClamped r.header || tokensClamped r.tokens)
          (createWhole (hostProto (storeHeader r.header) tag ts) s).1,
          (createWhole (hostProto (storeHeader r.header) tag ts) s).2) := by
    unfold announceRequest
    rw [if_neg (by rintro (h | h); exacts [hne h, absurd hlen (Nat.not_le.mpr h)]), hts]
    dsimp only
    rw [hgood]
    exact if_neg Bool.false_ne_true
  rw [heq]
  refine ⟨ts, hpairs, fun h => if_pos h, fun h => ⟨fun n hn => ?_, fun hn => ?_⟩⟩
  · rw [if_neg (by simp [h]), hn]
  · rw [if_neg (by simp [h]), hn]
    dsimp only
    rw [createWhole_eq, hostProto_eq]

end Sys2Proof.Machine


/-! PROOFS. ANNOUNCE, the completion of a composer check and WITHDRAW as the host sees them (R80, R85, R89). -/

namespace Sys2Proof.Machine

open Sys2Proof.Claims

theorem announceReply_eq_storeFull {clamped : Bool} {c : Created} :
    announceReply clamped c = refused .storeFull ↔ c = .storeFull := by
  cases c <;> simp [announceReply, refused, accept, refuse]

theorem announceReply_eq_noTarget {clamped : Bool} {c : Created} :
    announceReply clamped c = refused .noTarget ↔ ∃ n, c = .noTarget n := by
  cases c <;> simp [announceReply, refused, accept, refuse]

theorem hostAnnouncement_origin (h : Header) (tag : Byte) (ts : List Token) (n : Nat) :
    (hostAnnouncement h tag ts).origin ≠ .evac n := fun heq => by cases heq

/-- Settles O43. -/
theorem announceCreatesItsAnnouncement : Obligations.AnnounceCreatesItsAnnouncement := by
  unfold Obligations.AnnounceCreatesItsAnnouncement
  intro tag r s s0 h
  refine ⟨fun hbad => onlyAnswers_of_owner_eq h (if_pos hbad), fun hne hlen => ⟨fun hunfit =>
    onlyAnswers_of_owner_eq h (announceRequest_outOfRange hne hlen hunfit), fun hheader htokens hfields => ?_⟩⟩
  obtain ⟨ts, hts, hmissing, hthere⟩ := announceRequest_of_fit (tag := tag) (s := s0) hne hlen hheader htokens hfields
  refine ⟨fun id hid hnone => onlyAnswers_of_owner_eq h (hmissing ((callMissing_iff _ _).mpr ⟨id, hid, hnone⟩)),
    fun hcall => ?_⟩
  obtain ⟨hphrase, haccepted⟩ := hthere (Bool.eq_false_iff.mpr fun hm => by
    obtain ⟨id, hid, hnone⟩ := (callMissing_iff _ _).mp hm
    exact hcall id hid hnone)
  refine ⟨fun p hp hnone => onlyAnswers_of_owner_eq h (hphrase 0 ?_), fun hchime => ?_⟩
  · rw [hp]
    exact missingPhrase_of_chime hnone ts
  have hlist := missingPhrase_of_chime_found hchime ts
  refine ⟨fun k hk hfirst => onlyAnswers_of_owner_eq h (hphrase (k + 1) ?_), fun hfound => ?_⟩
  · rw [hlist, missingToken_of_first 1 ((missingAt_iff hts k).mp hk) fun j hj hb =>
      hfirst j hj ((missingAt_iff hts j).mpr hb), Nat.add_comm]
  have howner := haccepted (hlist.trans (missingToken_of_none 1 fun k hb => hfound k ((missingAt_iff hts k).mpr hb)))
  set x := hostAnnouncement (headerStored r.header) tag ts with hx
  have hhost : ∀ n, x.origin ≠ .evac n := hostAnnouncement_origin _ _ _
  have hplays : Plays s0 (afterCreation x (create x s0)) := (createWhole_settles x s0).toPlays
  have hfull : (create x s0).1 = .storeFull ↔ 64 ≤ s0.asc.slots.length ∧
      ∀ y ∈ s0.asc.slots, y.priority < r.header.priority → 0 < runCount s0 y.id := by
    rw [create_eq_storeFull, slotAvailable_eq_false]
    rfl
  refine ⟨_, _, exec_of_owner_eq h howner, hplays, ⟨ts, pairs_iff_forall₂.mpr hts, rfl,
    fun hk => announceReply_eq_storeFull.mpr hk, fun n hn => announceReply_eq_noTarget.mpr ⟨n, hn⟩, fun a n hk => ?_⟩,
    ?_, announceReply_eq_storeFull.trans hfull, fun hroom hlatest hday ⟨z, hz, hopen, hcovering, hqueue⟩ => ?_⟩
  · change (create x s0).1 = _ at hk
    rw [hk]
    exact ⟨_, rfl⟩
  · cases hk : (create x s0).1 with
    | storeFull =>
      have hsame : create x s0 = (.storeFull, s0) := create_of_full (create_eq_storeFull.mp hk)
      refine .inl ⟨rfl, (hfull.mp hk).1, ?_, fun hround => ?_⟩
      · rw [hsame]; rfl
      · rw [hsame]
        exact settle_of_none hround
    | noTarget n => exact .inr (.inl rfl)
    | kept a n =>
      obtain ⟨hplaced, htotal, hheld⟩ := create_kept_counts hk hhost
      refine .inr (.inr ⟨_, a, n.placed, n.refused, n.held, rfl, ?_, create_kept_id hk, hplaced, htotal, hheld⟩)
      rw [Bool.or_eq_true, headerClamped_iff, tokensClamped_iff]
  · obtain ⟨a, k, hk⟩ := create_accepts hhost hroom hlatest hday hz hopen hcovering hqueue
    rw [hk]
    exact ⟨fun hc => (nomatch announceReply_eq_storeFull.mp hc), fun hc => (nomatch announceReply_eq_noTarget.mp hc)⟩

/-! ### The composer's check -/

theorem Plays.setComposer {s t : State} (h : Plays s t) (c : Composer) : Plays (setComposer c s) (setComposer c t) :=
  { h with composer := Eq.refl c }

/-- A check in progress, as the order of R89 judges it. -/
theorem completeCheck_of_checking {s : State} {b : List Token} {h : Header} {g : Byte} {start : RunTime}
    (hc : s.asc.composer = .checking b h g start) : completeCheck s =
      generate (.composeDone g (checkContent b h g s).1) (setComposer .idle (checkContent b h g s).2) := by
  unfold completeCheck
  rw [hc]

theorem checkContent_of_callMissing {s : State} {h : Header} (hm : callMissing s h.call = true) (b : List Token) (g : Byte) :
    checkContent b h g s = (.failed .notFound 0, s) := by
  unfold checkContent
  exact if_pos hm

theorem checkContent_of_phrase {s : State} {h : Header} {b : List Token} {n : Nat} (hc : callMissing s h.call = false)
    (hm : missingPhrase s h.chime b = some n) (g : Byte) : checkContent b h g s = (.failed .missingPhrase n, s) := by
  unfold checkContent
  rw [hc, if_neg Bool.false_ne_true, hm]

theorem checkContent_of_found {s : State} {h : Header} {b : List Token} (hc : callMissing s h.call = false)
    (hm : missingPhrase s h.chime b = none) (g : Byte) : checkContent b h g s =
      (composeResult (create (hostAnnouncement h g b) s).1,
        afterCreation (hostAnnouncement h g b) (create (hostAnnouncement h g b) s)) := by
  unfold checkContent
  rw [hc, if_neg Bool.false_ne_true, hm]
  rfl

/-! ### WITHDRAW -/

theorem isEvac_iff (x : Slot) : isEvac x = true ↔ ∃ n, x.origin = .evac n := by
  unfold isEvac
  cases x.origin <;> simp

theorem withdrawRequest_of_some {s : State} {a : Nat} {x : Slot} (h : s.slot? a = some x) : withdrawRequest a s =
    if isEvac x = true then (refused .wrongState, s) else
      (accepted (u8 (withdrawCounts s a).1 ++ u8 (withdrawCounts s a).2), settle (withdrawAnnouncement a s)) := by
  unfold withdrawRequest
  rw [h]
  rfl

theorem withdrawCounts_of_some {s : State} {a : Nat} {x : Slot} (h : s.slot? a = some x) : withdrawCounts s a =
    if x.withdrawn = true then (0, 0) else (placementCount s a, (channelsPlaying s a).length) := by
  unfold withdrawCounts
  rw [h]

theorem channelsPlaying_length (s : State) (a : Nat) : (channelsPlaying s a).length =
    (List.range 8).countP (fun c => (s.channel c).any (fun r => r.announcement == a)) := by
  unfold channelsPlaying
  rw [← List.countP_eq_length_filter]
  refine List.countP_congr fun c _ => ?_
  unfold plays
  cases s.channel c <;> rfl

/-- Settles O46. -/
theorem checksCompleteAndAnnouncementsAreWithdrawn : Obligations.ChecksCompleteAndAnnouncementsAreWithdrawn := by
  unfold Obligations.ChecksCompleteAndAnnouncementsAreWithdrawn
  refine ⟨fun s hs => ⟨fun hno => ?_, fun b h g start hc => ?_⟩, fun tag a s s0 h => ⟨fun hnone => ?_, fun x hx => ?_⟩⟩
  · have hrun : exec .composeCheckCompletion s = .next (completeCheck s) := exec_of_running rfl (fun _ => rfl) hs
    rw [hrun]
    unfold completeCheck
    split
    next b h g start hc => exact absurd hc (hno b h g start)
    · rfl
  · have hexec : exec .composeCheckCompletion s =
        .next (generate (.composeDone g (checkContent b h g s).1) (setComposer .idle (checkContent b h g s).2)) := by
      rw [← completeCheck_of_checking hc]
      exact exec_of_running rfl (fun _ => rfl) hs
    have hthere : (∀ id, h.call = some id → s.call? id ≠ none) → callMissing s h.call = false := fun hcall =>
      Bool.eq_false_iff.mpr fun hm => by
        obtain ⟨id, hid, hnone⟩ := (callMissing_iff _ _).mp hm
        exact hcall id hid hnone
    refine ⟨⟨_, hexec, ((checkContent_settles b h g s).toPlays.setComposer .idle).trans (generate_settles _ _).toPlays⟩,
      fun id hid hnone => ?_, fun hcall p hp hnone => ?_, fun hcall hchime => ⟨fun k hk hfirst => ?_, fun hfound => ?_⟩⟩
    · rw [hexec, checkContent_of_callMissing ((callMissing_iff _ _).mpr ⟨id, hid, hnone⟩)]
      rfl
    · rw [hexec, checkContent_of_phrase (hthere hcall) (by rw [hp]; exact missingPhrase_of_chime hnone b)]
      rfl
    · have hm : missingPhrase s h.chime b = some (k + 1) := by
        rw [missingPhrase_of_chime_found hchime, missingToken_of_first 1 hk hfirst, Nat.add_comm]
      rw [hexec, checkContent_of_phrase (hthere hcall) hm]
      rfl
    · have hm : missingPhrase s h.chime b = none :=
        (missingPhrase_of_chime_found hchime b).trans (missingToken_of_none 1 hfound)
      rw [hexec, checkContent_of_found (hthere hcall) hm]
      have hhost := hostAnnouncement_origin h g b
      refine ⟨_, _, rfl, (createWhole_settles (hostAnnouncement h g b) s).toPlays.setComposer .idle,
        ⟨rfl, fun hk => by rw [hk]; rfl, fun n hn => by rw [hn]; rfl, fun a n hk => by rw [hk]; rfl⟩, ?_⟩
      cases hk : (create (hostAnnouncement h g b) s).1 with
      | storeFull => exact .inl rfl
      | noTarget n => exact .inr (.inl rfl)
      | kept a n =>
        obtain ⟨hplaced, htotal, hheld⟩ := create_kept_counts hk hhost
        exact .inr (.inr ⟨a, n.placed, n.refused, n.held, rfl, create_kept_id hk, hplaced, htotal, hheld⟩)
  · refine onlyAnswers_of_owner_eq h ?_
    show withdrawRequest a s0 = _
    unfold withdrawRequest
    rw [hnone]
    rfl
  · have howner := withdrawRequest_of_some hx
    refine ⟨fun hevac => onlyAnswers_of_owner_eq h (howner.trans (if_pos ((isEvac_iff x).mpr hevac))),
      fun hno hzones hw => ?_, fun hno hw => ?_⟩
    · have hnot : ¬ isEvac x = true := fun he => by
        obtain ⟨n, hn⟩ := (isEvac_iff x).mp he
        exact hno n hn
      rw [if_neg hnot, withdrawCounts_of_some hx, hw, if_neg Bool.false_ne_true] at howner
      dsimp only at howner
      rw [channelsPlaying_length] at howner
      have hplays := (withdrawAnnouncement_settles a s0).toPlays
      obtain ⟨-, hqueues, hruns⟩ := withdrawAnnouncement_spec hx hw
      refine ⟨withdrawAnnouncement a s0, exec_of_owner_eq h howner, hplays, fun zn hzn => ?_, hruns⟩
      obtain ⟨z, hlt, rfl⟩ := List.getElem_of_mem hzn
      have hlength : (withdrawAnnouncement a s0).zrt.zones.length = 40 := by
        have := congrArg List.length hplays.zones
        rw [List.length_map, List.length_map] at this
        exact this.trans hzones
      have hzone : (withdrawAnnouncement a s0).zone z = (withdrawAnnouncement a s0).zrt.zones[z] := by
        simp [State.zone, List.getD_eq_getElem?_getD, hlt]
      rw [← hzone]
      exact hqueues z (hlength ▸ hlt)
    · have hnot : ¬ isEvac x = true := fun he => by
        obtain ⟨n, hn⟩ := (isEvac_iff x).mp he
        exact hno n hn
      rw [if_neg hnot, withdrawCounts_of_some hx, if_pos hw, withdrawAnnouncement_of_withdrawn hx hw] at howner
      exact exec_of_owner_eq h howner

end Sys2Proof.Machine


/-! PROOFS. The entry an activation takes (R111), and what emergencies, warm-ups and the alert hold do to the mode (R149 to R151). -/

namespace Sys2Proof.Machine

open Sys2Proof.Claims

/-! ### The entries of the source table -/

theorem find?_allSources_eq_some {p : Nat → Bool} {n : Nat} :
    allSources.find? p = some n ↔ n < 8 ∧ p n = true ∧ ∀ m < n, p m = false := by
  unfold allSources
  rw [List.find?_range_eq_some]
  simp only [Bool.not_eq_true', List.mem_range]
  exact ⟨fun ⟨hp, hn, hm⟩ => ⟨hn, hp, hm⟩, fun ⟨hn, hp, hm⟩ => ⟨hp, hn, hm⟩⟩

theorem find?_allSources_eq_none {p : Nat → Bool} : allSources.find? p = none ↔ ∀ n < 8, p n = false := by
  unfold allSources
  rw [List.find?_eq_none]
  simp only [List.mem_range, Bool.not_eq_true]

theorem entryFor_iff {s : State} {which : Source → Prop} {p : Nat → Bool} (h : ∀ n, p n = true ↔ which (s.source n))
    (n : Nat) : EntryFor s which n ↔ allSources.find? p = some n := by
  rw [find?_allSources_eq_some]
  simp only [EntryFor, ← h, Bool.not_eq_true]

theorem noEntry_iff {s : State} {which : Source → Prop} {p : Nat → Bool} (h : ∀ n, p n = true ↔ which (s.source n)) :
    NoEntry s which ↔ allSources.find? p = none := by
  rw [find?_allSources_eq_none]
  simp only [NoEntry, ← h, Bool.not_eq_true]

theorem activeWithKey_eq_some {s : State} {key : SourceKey} {n : Nat} :
    EntryFor s (fun e => e.state = .active ∧ e.key = key) n ↔ activeWithKey s key = some n :=
  entryFor_iff (fun _ => by simp) n

theorem activeWithKey_eq_none {s : State} {key : SourceKey} :
    NoEntry s (fun e => e.state = .active ∧ e.key = key) ↔ activeWithKey s key = none := noEntry_iff fun _ => by simp

section
variable {s : State} {key : SourceKey} {n : Nat}

/-- The entry an activation takes is the one R111 names. -/
theorem findEntry_of_activationEntry (h : ActivationEntry s key n) : findEntry s key = some n := by
  have hkey : ∀ m, (decide ((s.source m).state ≠ .free) && decide ((s.source m).key = key)) = true ↔
      (s.source m).state ≠ .free ∧ (s.source m).key = key := fun m => by simp
  have hfree : ∀ m, decide ((s.source m).state = .free) = true ↔ (s.source m).state = .free := fun m => by simp
  have hinactive : ∀ m, decide ((s.source m).state = .inactive) = true ↔ (s.source m).state = .inactive := fun m => by simp
  unfold findEntry
  obtain hk | ⟨hk, hf | ⟨hf, hi⟩⟩ := h
  · rw [(entryFor_iff (p := fun m => decide ((s.source m).state ≠ .free) && decide ((s.source m).key = key)) hkey n).mp hk]
    rfl
  · rw [(noEntry_iff (p := fun m => decide ((s.source m).state ≠ .free) && decide ((s.source m).key = key)) hkey).mp hk,
      (entryFor_iff (p := fun m => decide ((s.source m).state = .free)) hfree n).mp hf]
    rfl
  · rw [(noEntry_iff (p := fun m => decide ((s.source m).state ≠ .free) && decide ((s.source m).key = key)) hkey).mp hk,
      (noEntry_iff (p := fun m => decide ((s.source m).state = .free)) hfree).mp hf,
      (entryFor_iff (p := fun m => decide ((s.source m).state = .inactive)) hinactive n).mp hi]
    rfl

theorem findEntry_eq_none (h : NoEntry s (fun e => e.state ≠ .free ∧ e.key = key ∨ e.state ≠ .active)) :
    findEntry s key = none := by
  have hactive : ∀ m < 8, (s.source m).state = .active := fun m hm => by
    have := h m hm
    simp only [not_or, not_not] at this
    exact this.2
  unfold findEntry
  rw [find?_allSources_eq_none.mpr fun m hm => ?_, find?_allSources_eq_none.mpr fun m hm => ?_,
    find?_allSources_eq_none.mpr fun m hm => ?_]
  · rfl
  · simp [hactive m hm]
  · simp [hactive m hm]
  · have hno : (s.source m).key ≠ key := fun hk => h m hm (.inl ⟨by simp [hactive m hm], hk⟩)
    simp [hno]

/-- An activation's entry was not ACTIVE, where no ACTIVE entry has its key. -/
theorem activationEntry_idle (hno : NoEntry s (fun e => e.state = .active ∧ e.key = key)) (h : ActivationEntry s key n) :
    n < 8 ∧ (s.source n).state ≠ .active :=
  findEntry_spec (activeWithKey_eq_none.mp hno) (findEntry_of_activationEntry h)

end

/-! ### EVAC_START -/

theorem evacOutOfRange_iff (r : EvacStartReq) :
    evacOutOfRange r = true ↔ 4095 < r.address ∨ 4095 < r.mask ∨ 63 < r.template := by
  simp only [evacOutOfRange, Config.maxTemplates, Bool.or_eq_true, decide_eq_true_eq]
  omega

theorem startEvac_of_active {r : EvacStartReq} {s : State} {n : Nat} (hrange : evacOutOfRange r = false)
    (hn : activeWithKey s (hostKey r) = some n) :
    startEvac r s = (accept (decide (clampInterval r.interval ≠ r.interval)) (u8 n), s) := by
  unfold startEvac
  rw [hrange, if_neg Bool.false_ne_true]
  dsimp only
  rw [hn]

theorem startEvac_of_full {r : EvacStartReq} {s : State} (hrange : evacOutOfRange r = false)
    (hno : activeWithKey s (hostKey r) = none) (hn : findEntry s (hostKey r) = none) :
    startEvac r s = (refuse .tableFull, s) := by
  unfold startEvac
  rw [hrange, if_neg Bool.false_ne_true]
  dsimp only
  rw [hno]
  dsimp only
  rw [hn]

/-- EVAC_START of a key that no ACTIVE source has, with an entry to take, activates it (R113). -/
theorem startEvac_of_entry {r : EvacStartReq} {s : State} {n : Nat} (hrange : evacOutOfRange r = false)
    (hno : activeWithKey s (hostKey r) = none) (hn : findEntry s (hostKey r) = some n) : startEvac r s =
      (accept (decide (clampInterval r.interval ≠ r.interval))
        (evacBody n (activate n (hostKey r) false s).1 (activate n (hostKey r) false s).2),
        (activate n (hostKey r) false s).2) := by
  unfold startEvac
  rw [hrange, if_neg Bool.false_ne_true]
  dsimp only
  rw [hno]
  dsimp only
  rw [hn]

/-- An emergency event that finds the part in NIGHT, or on its way from there, leaves it warming for NIGHT_ALERT. -/
theorem emergency_settled_mode {m v : State} (h : Drifts m v) (hm : m.smc.mode = .night) :
    (settle (emergencyEvent v)).smc.mode = .warming .nightAlert (warmUpEnds m) := by
  have hafter : Drifts (emergencyEvent v) (settle (emergencyEvent v)) := drift_player.settle _
  exact (mode_of_emergency rfl h.ends h.slides (h.ends ▸ (emergencyEvent_drifts v).ends ▸ hafter.slides)).2.1 hm

/-- What an activation does with its entry (R112), from the creation on. -/
theorem activate_eq (n : Nat) (key : SourceKey) (latched : Bool) (s : State) {w v : State} {r : Created}
    (hw : createEvac n (activateEntry n key latched s) = (r, w)) (hv : settle w = v) : activate n key latched s =
      (r, settle (emergencyEvent (generate (evacNotice v n .activated (createdFull r)) v))) := by
  unfold activate
  rw [hw]
  dsimp only
  rw [hv]

theorem activateEntry_drifts (n : Nat) (key : SourceKey) (latched : Bool) (s : State) :
    Drifts (s.modifySource n (fun _ => { state := .active, key := key, latched := latched, voice := .none }))
      (activateEntry n key latched s) := drift_player.forEach (drift_router.recomputeZone false) _

/-- An activation is an emergency event: in NIGHT a warm-up begins for NIGHT_ALERT. -/
theorem activate_mode {s : State} (h : s.smc.mode = .night) (n : Nat) (key : SourceKey) (latched : Bool) :
    (activate n key latched s).2.smc.mode = .warming .nightAlert (warmUpEnds s) := by
  have hentry := activateEntry_drifts n key latched s
  have hcreated := drift_player.createEvac n (activateEntry n key latched s)
  cases hw : createEvac n (activateEntry n key latched s) with
  | mk r w =>
    have hsettled : Drifts w (settle w) := drift_player.settle w
    rw [hw] at hcreated
    rw [activate_eq n key latched s hw rfl]
    have hmode := emergency_settled_mode (((hentry.trans hcreated).trans hsettled).trans
      (generate_drifts (evacNotice (settle w) n .activated (createdFull r)) (settle w))) h
    exact hmode

/-- A creation at priority 6 or 7 that places is an emergency event (R97, R149). -/
theorem afterCreation_mode {x : Slot} {s : State} (h : s.smc.mode = .night) (hp : 6 ≤ x.priority) {a : Nat} {k : Counts}
    (hk : (create x s).1 = .kept a k) :
    (afterCreation x (create x s)).smc.mode = .warming .nightAlert (warmUpEnds s) := by
  have hreport : afterCreation x (create x s) = settle (emergencyEvent (create x s).2) := by
    unfold afterCreation reportEmergency
    rw [hk]
    dsimp only
    rw [if_pos hp]
  rw [hreport]
  exact emergency_settled_mode (create_drifts x s) h

/-- Settles O59. -/
theorem emergenciesWarmUpsAndHoldsSetTheMode : Obligations.EmergenciesWarmUpsAndHoldsSetTheMode := by
  unfold Obligations.EmergenciesWarmUpsAndHoldsSetTheMode
  refine ⟨fun s => ⟨fun hm => ?_, fun e hm => ?_, emergencyEvent_of_idle, fun x hm hloud => ?_⟩,
    fun tag r s s0 h hnight hp => ?_, fun tag r s s0 h hnight ha hmask ht hno ⟨n, hn⟩ => ?_, fun s hs =>
      ⟨fun hdue => ?_, fun g e hm hdue => ?_, fun hdue => ?_, fun t hm hdue => ?_⟩⟩
  · rw [emergencyEvent_of_night hm]
    unfold setMode
    rw [hm]
    rfl
  · rw [emergencyEvent_of_warming_night hm]
    unfold setMode
    rw [hm]
    rfl
  · rw [emergencyEvent_of_nightAlert hm, judgeHold_of_loud hm hloud]
  · obtain ⟨code, d, howner⟩ | ⟨ts, clamped, howner⟩ := announceRequest_cases tag r s0
    · exact ⟨_, _, exec_of_owner_eq h howner, fun ⟨_, _, hres⟩ => by cases hres⟩
    · rw [createWhole_eq] at howner
      refine ⟨_, _, exec_of_owner_eq h howner, fun ⟨c, body, hres⟩ => ?_⟩
      cases hk : (create (hostProto (storeHeader r.header) tag ts) s0).1 with
      | kept a k => exact afterCreation_mode (x := hostProto (storeHeader r.header) tag ts) hnight hp hk
      | storeFull =>
        rw [hk] at hres
        cases hres
      | noTarget k =>
        rw [hk] at hres
        cases hres
  · have hrange : evacOutOfRange r = false := by
      rw [← Bool.not_eq_true, evacOutOfRange_iff]
      omega
    exact ⟨_, _, exec_of_owner_eq h (startEvac_of_entry hrange (activeWithKey_eq_none.mp hno)
      (findEntry_of_activationEntry hn)), activate_mode hnight n (hostKey r) false⟩
  · have hrun : exec .warmUpEnd s = .next (takeWarmUpEnd s) := exec_of_running rfl (fun _ => rfl) hs
    rw [hrun, takeWarmUpEnd_of_notDue hdue]
  · have hrun : exec .warmUpEnd s = .next (takeWarmUpEnd s) := exec_of_running rfl (fun _ => rfl) hs
    rw [hrun, takeWarmUpEnd_of_due hm hdue]
    exact ⟨enterTarget g s, rfl, (enterTarget_settles g s).toPlays, enterTarget_spec g s⟩
  · have hrun : exec .alertHoldExpiry s = .next (takeHoldExpiry s) := exec_of_running rfl (fun _ => rfl) hs
    rw [hrun, takeHoldExpiry_of_notDue hdue]
  · have hrun : exec .alertHoldExpiry s = .next (takeHoldExpiry s) := exec_of_running rfl (fun _ => rfl) hs
    rw [hrun, takeHoldExpiry_of_due hm hdue]
    obtain ⟨hmode, hsupply⟩ := enterNight_mode .holdExpired s
    exact ⟨enterNight .holdExpired s, rfl, (enterNight_settles .holdExpired s).toPlays, hmode, hsupply,
      enterNight_noLow .holdExpired s⟩

end Sys2Proof.Machine


/-! PROOFS. What entering, handing over and leaving EVACUATE does to a zone's queue and its run (R116 to R118). -/

namespace Sys2Proof.Machine

open Sys2Proof.Claims

/-! ### The mark of one zone -/

theorem attachedTo_of_mem {s : State} {c z : Nat} {r : Run} {e : Attached} (hr : s.channel c = some r) (he : e ∈ r.zones)
    (hz : e.zone = z) : attachedTo s z c = true := by
  obtain ⟨a, ha⟩ := Option.isSome_iff_exists.mp (attachmentIn_isSome.mpr (List.mem_map.mpr ⟨e, he, hz⟩))
  exact attachedTo_eq_true.mpr ⟨r, a, hr, ha⟩

theorem idleIfEmpty_channel_cases (c : Nat) (o : RunOutcome) (s : State) (d : Nat) :
    (idleIfEmpty c o s).channel d = s.channel d ∨ (d = c ∧ (idleIfEmpty c o s).channel d = none) := by
  unfold idleIfEmpty
  split
  · split
    · by_cases hd : d = c
      · exact .inr ⟨hd, hd ▸ channelIdle_channel d o s⟩
      · exact .inl (channelIdle_channel_ne hd o s)
    · exact .inl rfl
  · exact .inl rfl

theorem markIn_channel_ne {c d : Nat} (h : d ≠ c) (cause : TruncateCause) (z : Nat) (s : State) :
    (markIn c cause z s).channel d = s.channel d := by
  cases hatt : attachedTo s z c with
  | false => rw [markIn_of_detached hatt]
  | true =>
    obtain ⟨r, a, hr, ha⟩ := attachedTo_eq_true.mp hatt
    cases hp : r.phase with
    | phrase => rw [markIn_of_phrase hr ha hp, channel_setChannel_ne s h]
    | gap =>
      rw [markIn_of_gap hr ha hp]
      rcases idleIfEmpty_channel_cases c .truncated
        (endPart c .truncated false z (s.setChannel c (some (markedRun cause r z)))) d with heq | ⟨hd, -⟩
      · rw [heq, endPart_channel_ne h, channel_setChannel_ne s h]
      · exact absurd hd h

/-- A marked zone stays with its run while a phrase plays, and leaves it in a gap (R128). -/
theorem markIn_channel {s : State} {c z : Nat} {r : Run} {a : Attached} (hr : s.channel c = some r)
    (ha : attachmentIn r z = some a) (cause : TruncateCause) :
    (r.phase = .phrase → (markIn c cause z s).channel c = some (markedRun cause r z)) ∧
    (r.phase = .gap → attachedTo (markIn c cause z s) z c = false) := by
  refine ⟨fun hp => ?_, fun hp => ?_⟩
  · rw [markIn_of_phrase hr ha hp, channel_setChannel (lt_of_channel hr)]
  · rw [markIn_of_gap hr ha hp]
    cases h : attachedTo (idleIfEmpty c .truncated
        (endPart c .truncated false z (s.setChannel c (some (markedRun cause r z))))) z c with
    | false => rfl
    | true =>
      have hend := idleIfEmpty_detaches _ _ _ _ _ h
      rw [endPart_self_detached] at hend
      cases hend

/-- A zone that no source covers takes nothing back from a run that it leaves as withdrawn. -/
theorem markIn_withdrawal_queue {s : State} {z : Nat} (hcov : (s.zone z).covering = none) (c y : Nat) :
    ((markIn c .withdrawal z s).zone y).queue.Sublist (s.zone y).queue := by
  cases hatt : attachedTo s z c with
  | false => rw [markIn_of_detached hatt]
  | true =>
    obtain ⟨r, a, hr, ha⟩ := attachedTo_eq_true.mp hatt
    cases hp : r.phase with
    | phrase =>
      rw [markIn_of_phrase hr ha hp]
      exact .refl _
    | gap =>
      rw [markIn_of_gap hr ha hp]
      have hmarked : (s.setChannel c (some (markedRun .withdrawal r z))).channel c = some (markedRun .withdrawal r z) :=
        channel_setChannel (lt_of_channel hr) _
      have hcovered : coveredWith (s.setChannel c (some (markedRun .withdrawal r z))) z
          (markedRun .withdrawal r z).announcement = false := by
        have hnone : ((s.setChannel c (some (markedRun .withdrawal r z))).zone z).covering = none := hcov
        unfold coveredWith
        rw [hnone]
      have hend := (endPart_of_withdrawn hmarked (attachmentIn_markedRun ha .withdrawal)
        (congrArg some (joinMark_withdrawal a.mark)) .truncated).1 hcovered
      refine (idleIfEmpty_queue_sublist c .truncated _ y).trans ?_
      rw [hend, zone_of_zones (congrArg Zrt.zones (recordLeft_zrt ..)), generate_zone, detachZone_queue]
      exact .refl _

/-! ### A source's share of a zone -/

theorem runOf_of_attachedChannel {s : State} {z c : Nat} (h : attachedChannel s z = some c) : runOf s z = s.channel c := by
  unfold runOf
  rw [h]
  rfl

theorem runOf_eq_none {s : State} {z : Nat} (h : attachedChannel s z = none) : runOf s z = none := by
  unfold runOf
  rw [h]
  rfl

theorem attachedChannel_congr {s t : State} (h : t.ple.channels = s.ple.channels) (z : Nat) :
    attachedChannel t z = attachedChannel s z := by
  unfold attachedChannel
  rw [show attachedTo t z = attachedTo s z from funext fun c => attachedTo_congr h z c]

theorem runOf_congr {s t : State} (h : t.ple.channels = s.ple.channels) (z : Nat) : runOf t z = runOf s z := by
  unfold runOf
  rw [attachedChannel_congr h, show t.channel = s.channel from funext fun c => by unfold State.channel; rw [h]]

section
variable {s : State} {n z : Nat}

/-- The part of the zone in a run is marked where the run is the source's, after its placement has gone. -/
theorem withdrawShare_cases : ∃ u, Sheds s u ∧ (∀ y, y ≠ z → u.zone y = s.zone y) ∧
    (u.zone z).queue = (s.zone z).queue.filter (fun p => !ofSource s n p.announcement) ∧
    (u.zone z).covering = (s.zone z).covering ∧
    ((attachedChannel s z = none ∧ withdrawShare n z s = u) ∨
      ∃ c r a, attachedChannel s z = some c ∧ s.channel c = some r ∧ attachmentIn r z = some a ∧
        withdrawShare n z s = if ofSource s n r.announcement = true then markIn c .withdrawal z u else u) := by
  set u := dropWhere z .withdrawn (fun p => ofSource s n p.announcement) s with hu
  have hsheds : Sheds s u := dropWhere_sheds z .withdrawn _ s
  refine ⟨u, hsheds, fun y hy => dropWhere_zone_ne hy .., dropWhere_queue_of_announcement fun p q hpq => congrArg (ofSource s n) hpq,
    (dropWhere_settles z .withdrawn _ s).covering z, ?_⟩
  have hchannel : attachedChannel u z = attachedChannel s z := attachedChannel_congr (congrArg Ple.channels hsheds.ple) z
  have hrun : runOf u z = runOf s z := runOf_congr (congrArg Ple.channels hsheds.ple) z
  cases hc : attachedChannel s z with
  | none =>
    refine .inl ⟨rfl, ?_⟩
    unfold withdrawShare
    rw [← hu]
    dsimp only
    rw [hrun, runOf_eq_none hc]
  | some c =>
    obtain ⟨hlt, hatt⟩ := attachedChannel_eq_some hc
    obtain ⟨r, a, hr, ha⟩ := attachedTo_eq_true.mp hatt
    have hplayed : ofSource u n r.announcement = ofSource s n r.announcement := by
      unfold ofSource
      rw [hsheds.played r.announcement (runCount_pos_iff.mpr ⟨c, r, hr, rfl⟩)]
    refine .inr ⟨c, r, a, rfl, hr, ha, ?_⟩
    unfold withdrawShare
    rw [← hu]
    dsimp only
    rw [hrun, runOf_of_attachedChannel hc, hr]
    dsimp only
    rw [hplayed]
    unfold markZone
    rw [hchannel, hc]

/-- What still plays of the source in the zone is marked as withdrawn. -/
theorem withdrawShare_marked (h : AttachedOnce s z) : MarkedFor s (withdrawShare n z s) z n := by
  intro c hc r hr hsource e he hez
  obtain ⟨u, hsheds, -, -, -, hcases⟩ := withdrawShare_cases (s := s) (n := n) (z := z)
  have hchannel : ∀ d, u.channel d = s.channel d := fun d => by unfold State.channel; rw [hsheds.ple]
  obtain ⟨hnone, heq⟩ | ⟨d, r0, a, hd, hr0, ha, heq⟩ := hcases
  · rw [heq, hchannel] at hr
    have hatt := attachedTo_of_mem hr he hez
    rw [attachedChannel_eq_none.mp hnone c hc] at hatt
    cases hatt
  · obtain ⟨hdlt, hdatt⟩ := attachedChannel_eq_some hd
    by_cases hcd : c = d
    · subst hcd
      by_cases hown : ofSource s n r0.announcement = true
      · rw [heq, if_pos hown] at hr
        obtain ⟨hphrase, hgap⟩ := markIn_channel ((hchannel c).trans hr0) ha .withdrawal
        cases hp : r0.phase with
        | phrase =>
          rw [hphrase hp] at hr
          cases hr
          exact (mem_markedRun he).2 hez
        | gap =>
          have hatt := attachedTo_of_mem hr he hez
          rw [hgap hp] at hatt
          cases hatt
      · rw [heq, if_neg hown, hchannel, hr0] at hr
        cases hr
        exact absurd hsource hown
    · have hrs : s.channel c = some r := by
        rw [heq] at hr
        split at hr
        · rwa [markIn_channel_ne hcd, hchannel] at hr
        · rwa [hchannel] at hr
      exact absurd (h c hc d hdlt (attachedTo_of_mem hrs he hez) hdatt) hcd

/-- Nothing of the source is left in the queue of a zone that no source covers. -/
theorem withdrawShare_queue (h : (s.zone z).covering = none) :
    ((withdrawShare n z s).zone z).queue.Sublist ((s.zone z).queue.filter (fun p => !ofSource s n p.announcement)) := by
  obtain ⟨u, -, -, hqueue, hcov, hcases⟩ := withdrawShare_cases (s := s) (n := n) (z := z)
  obtain ⟨-, heq⟩ | ⟨c, r, a, -, -, -, heq⟩ := hcases
  · rw [heq, hqueue]
  · rw [heq]
    split
    · rw [← hqueue]
      exact markIn_withdrawal_queue (hcov.trans h) c z
    · rw [hqueue]

theorem withdrawShare_queue_of_detached (h : attachedChannel s z = none) :
    ((withdrawShare n z s).zone z).queue = (s.zone z).queue.filter (fun p => !ofSource s n p.announcement) := by
  obtain ⟨u, -, -, hqueue, -, hcases⟩ := withdrawShare_cases (s := s) (n := n) (z := z)
  obtain ⟨-, heq⟩ | ⟨c, r, a, hc, -⟩ := hcases
  · rw [heq, hqueue]
  · rw [h] at hc
    cases hc

end

/-! ### Entering EVACUATE -/

theorem holdPlacement_condition {p : Placement} (h : (holdPlacement p).priority < 7) :
    (holdPlacement p).condition ≠ .waiting := by
  unfold holdPlacement at h ⊢
  split
  · exact fun hc => by cases hc
  next hno =>
    rw [if_neg hno] at h
    exact fun hc => hno ⟨hc, h⟩

theorem releasePlacement_condition (p : Placement) : (releasePlacement p).condition ≠ .held := by
  unfold releasePlacement
  split
  · exact fun hc => by cases hc
  next hno => exact hno

theorem releasePlacement_announcement (p : Placement) : (releasePlacement p).announcement = p.announcement := by
  unfold releasePlacement
  split <;> rfl

/-- A zone that enters EVACUATE is in no run below 7. -/
theorem cutForEvacuation_runOf {s : State} {z : Nat} (h : AttachedOnce s z) {r : Run}
    (hr : runOf (cutForEvacuation z s) z = some r) : 7 ≤ r.priority := by
  unfold cutForEvacuation at hr
  split at hr
  next q hq =>
    split at hr
    next hlow =>
      rw [runOf_eq_none (attachedChannel_eq_none.mpr (cutZone_detached h .evacuation))] at hr
      cases hr
    next hhigh =>
      rw [hq] at hr
      cases hr
      omega
  next hq =>
    rw [hq] at hr
    cases hr

theorem cutForEvacuation_of_high {s : State} {z : Nat} (h : ∀ r, runOf s z = some r → 7 ≤ r.priority) :
    cutForEvacuation z s = s := by
  unfold cutForEvacuation
  split
  next r hr => exact if_neg (Nat.not_lt.mpr (h r hr))
  · rfl

section
variable {s : State} {z n a b : Nat} {before : Zone} {cause : ZoneCause}

/-- The state in which the effects of a change of coverage begin. -/
def rerouted (z : Nat) (n : Option Nat) (before : Zone) (cause : ZoneCause) (s : State) : State :=
  generate (zoneChange (setCovering z n s) z before cause) (setCovering z n s)

theorem enterEvacuate_eq : enterEvacuate z n before cause false s =
    (cutForEvacuation z (rerouted z (some n) before cause s)).modifyZone z
      (fun zn => { zn with queue := zn.queue.map holdPlacement }) := rfl

theorem handOver_eq : handOver z a b false s = withdrawShare a z (rerouted z (some b) (s.zone z) .evacuation s) := rfl

theorem leaveEvacuate_eq : leaveEvacuate z a s =
    let t := (withdrawShare a z (rerouted z none (s.zone z) .evacuation s)).modifyZone z
      (fun zn => { zn with queue := zn.queue.map releasePlacement })
    if (t.zone z).base = .closed then dropWhere z .closed (fun p => decide (p.priority < 6)) t else t := rfl

theorem rerouted_channels (n : Option Nat) : (rerouted z n before cause s).ple.channels = s.ple.channels := rfl

theorem rerouted_ofSource (n : Option Nat) (m : Nat) : ofSource (rerouted z n before cause s) m = ofSource s m := rfl

theorem rerouted_zone (n : Option Nat) (y : Nat) :
    (rerouted z n before cause s).zone y = (setCovering z n s).zone y := rfl

theorem rerouted_queue (n : Option Nat) (y : Nat) : ((rerouted z n before cause s).zone y).queue = (s.zone y).queue := by
  rw [rerouted_zone, setCovering_zone]
  split <;> rfl

theorem rerouted_covering (h : z < s.zrt.zones.length) (n : Option Nat) :
    ((rerouted z n before cause s).zone z).covering = n := by
  rw [rerouted_zone, setCovering_zone, if_pos ⟨rfl, h⟩]

theorem zoneChange_of_covered (h : z < s.zrt.zones.length) : zoneChange (setCovering z (some n) s) z before cause =
    .zoneStateChange z before.base (effective before) (s.zone z).base .evacuate cause := by
  unfold zoneChange
  rw [setCovering_zone, if_pos ⟨rfl, h⟩]
  rfl

theorem mapQueue_queue {g : Placement → Placement} (h : z < s.zrt.zones.length) :
    ((s.modifyZone z (fun zn => { zn with queue := zn.queue.map g })).zone z).queue = (s.zone z).queue.map g := by
  rw [zone_modifyZone, if_pos ⟨rfl, h⟩]

theorem zones_length_of_plays {t : State} (h : Plays s t) : t.zrt.zones.length = s.zrt.zones.length := by
  simpa using congrArg List.length h.zones

theorem rerouted_length (n : Option Nat) : (rerouted z n before cause s).zrt.zones.length = s.zrt.zones.length :=
  List.length_modify ..

end

/-- What a zone that leaves EVACUATE keeps of its queue, before a CLOSED zone drops what is below 6 (R118). -/
theorem leaveEvacuate_queue {s : State} {z : Nat} (h : z < s.zrt.zones.length) (a : Nat) :
    ∃ t, (t.zone z).queue = ((withdrawShare a z (rerouted z none (s.zone z) .evacuation s)).zone z).queue.map
        releasePlacement ∧
      t.ple = (withdrawShare a z (rerouted z none (s.zone z) .evacuation s)).ple ∧ leaveEvacuate z a s =
        if (s.zone z).base = .closed then dropWhere z .closed (fun p => decide (p.priority < 6)) t else t := by
  have hshare := (withdrawShare_settles a z (rerouted z none (s.zone z) .evacuation s)).toPlays
  have hlength : z < (withdrawShare a z (rerouted z none (s.zone z) .evacuation s)).zrt.zones.length := by
    rw [zones_length_of_plays hshare, rerouted_length]
    exact h
  refine ⟨_, mapQueue_queue hlength, rfl, ?_⟩
  rw [leaveEvacuate_eq]
  dsimp only
  have hbase : (((withdrawShare a z (rerouted z none (s.zone z) .evacuation s)).modifyZone z
      (fun zn => { zn with queue := zn.queue.map releasePlacement })).zone z).base = (s.zone z).base := by
    rw [zone_modifyZone, if_pos ⟨rfl, hlength⟩]
    refine (hshare.base z).trans ?_
    rw [rerouted_zone, setCovering_zone, if_pos ⟨rfl, h⟩]
  rw [hbase]

/-- Settles O50. -/
theorem zonesEnterAndLeaveEvacuate : Obligations.ZonesEnterAndLeaveEvacuate := by
  unfold Obligations.ZonesEnterAndLeaveEvacuate
  refine ⟨fun s z n before cause hz => ⟨enterEvacuate_recovers hz .., fun p hp hlow => ?_, fun honce r hr => ?_,
    fun hhigh => ?_⟩, fun s z a b hz => ⟨handOver_recovers hz .., fun honce => ?_, fun hnone => ?_⟩,
    fun s z a hz => ⟨leaveEvacuate_recovers hz a, fun honce => ?_, fun p hp => ?_, fun hclosed p hp => ?_,
      fun hnone hopen => ?_⟩⟩
  · have hlength : z < (cutForEvacuation z (rerouted z (some n) before cause s)).zrt.zones.length := by
      rw [zones_length_of_plays (cutForEvacuation_settles z _).toPlays, rerouted_length]
      exact hz
    rw [enterEvacuate_eq, mapQueue_queue hlength] at hp
    obtain ⟨q, -, rfl⟩ := List.mem_map.mp hp
    exact holdPlacement_condition hlow
  · exact cutForEvacuation_runOf (s := rerouted z (some n) before cause s) honce hr
  · rw [enterEvacuate_eq, cutForEvacuation_of_high fun r hr => hhigh r ((runOf_congr (rerouted_channels _) z).symm.trans hr),
      rerouted, zoneChange_of_covered hz]
    rfl
  · exact withdrawShare_marked (s := rerouted z (some b) (s.zone z) .evacuation s) honce
  · rw [handOver_eq, withdrawShare_queue_of_detached ((attachedChannel_congr (rerouted_channels _) z).trans hnone),
      rerouted_queue, rerouted_ofSource]
  · obtain ⟨t, -, hple, heq⟩ := leaveEvacuate_queue hz a
    have hkept : (leaveEvacuate z a s).ple = (withdrawShare a z (rerouted z none (s.zone z) .evacuation s)).ple := by
      rw [heq]
      split
      · exact (dropWhere_sheds z .closed _ t).ple.trans hple
      · exact hple
    intro c hc r hr
    refine withdrawShare_marked (s := rerouted z none (s.zone z) .evacuation s) honce c hc r ?_
    unfold State.channel at hr ⊢
    rwa [hkept] at hr
  · obtain ⟨t, hqueue, -, heq⟩ := leaveEvacuate_queue hz a
    have hpt : p ∈ (t.zone z).queue := by
      rw [heq] at hp
      split at hp
      · exact (dropWhere_queue_sublist z .closed _ t z).subset hp
      · exact hp
    rw [hqueue] at hpt
    obtain ⟨q, hq, rfl⟩ := List.mem_map.mp hpt
    have hmem := (withdrawShare_queue (rerouted_covering hz none)).subset hq
    rw [List.mem_filter, rerouted_ofSource] at hmem
    exact ⟨releasePlacement_condition q, by rw [releasePlacement_announcement]; simpa using hmem.2⟩
  · obtain ⟨t, -, -, heq⟩ := leaveEvacuate_queue hz a
    rw [heq, if_pos hclosed] at hp
    simpa using (dropWhere_queue_none hp).2
  · obtain ⟨t, hqueue, -, heq⟩ := leaveEvacuate_queue hz a
    rw [heq, if_neg hopen, hqueue,
      withdrawShare_queue_of_detached ((attachedChannel_congr (rerouted_channels _) z).trans hnone),
      rerouted_queue, rerouted_ofSource]
    rfl

end Sys2Proof.Machine


/-! PROOFS. Changes of a zone's base state (R106, R107, R123), and ZONE_STATE. -/

namespace Sys2Proof.Machine

open Sys2Proof.Claims

/-! ### Work on coverage and announcements -/

/-- `t` is `s` after work on coverage, announcements, the mode and notices. -/
structure Reaches (s t : State) : Prop where
  routes : Routes s t
  bases : t.zrt.zones.map Zone.base = s.zrt.zones.map Zone.base
  sources : t.zrt.sources.map standing = s.zrt.sources.map standing

theorem Plays.bases {s t : State} (h : Plays s t) : t.zrt.zones.map Zone.base = s.zrt.zones.map Zone.base := by
  have hmap := congrArg (List.map Zone.base) h.zones
  simpa [Function.comp_def, settings] using hmap

theorem Plays.reaches {s t : State} (h : Plays s t) : Reaches s t := ⟨h.routes, h.bases, h.sources⟩

end Sys2Proof.Machine

namespace Sys2Proof.Claims

open Sys2Proof.Machine

theorem Recovers.reaches {s t : State} {z : Nat} {n : Option Nat} (h : Recovers s t z n) : Reaches s t :=
  ⟨h.rest, h.bases, h.sources⟩

end Sys2Proof.Claims

namespace Sys2Proof.Machine

open Sys2Proof.Claims

theorem Reaches.rfl (s : State) : Reaches s s := (Plays.rfl s).reaches

theorem Reaches.trans {s t u : State} (h : Reaches s t) (g : Reaches t u) : Reaches s u :=
  ⟨h.routes.trans g.routes, g.bases.trans h.bases, g.sources.trans h.sources⟩

theorem Reaches.length {s t : State} (h : Reaches s t) : t.zrt.zones.length = s.zrt.zones.length := by
  simpa using congrArg List.length h.bases

theorem Reaches.base {s t : State} (h : Reaches s t) (z : Nat) : (t.zone z).base = (s.zone z).base :=
  getD_of_map_eq h.bases coldZone z

theorem forEach_reaches {α : Type} {xs : List α} {f : α → State → State} (h : ∀ x s, Reaches s (f x s)) (s : State) :
    Reaches s (forEach xs f s) := by
  unfold forEach
  induction xs generalizing s with
  | nil => exact .rfl s
  | cons x xs ih => exact (h x s).trans (ih (f x s))

/-- Beyond the table there is nothing to recompute. -/
theorem recomputeZone_of_le {s : State} {z : Nat} (h : s.zrt.zones.length ≤ z) (place : Bool) : recomputeZone place z s = s := by
  have hcold : s.zone z = coldZone := zone_of_le h
  have hnone : coveringOf s z = none := coveringOf_of_unreachable (by simp [reachableZone, hcold, coldZone])
  exact recomputeZone_none (show (s.zone z).covering = coveringOf s z by rw [hcold, hnone]; rfl) place

theorem recomputeZone_reaches (place : Bool) (z : Nat) (s : State) : Reaches s (recomputeZone place z s) := by
  by_cases hz : z < s.zrt.zones.length
  · exact (recomputeZone_recovers hz place).reaches
  · rw [recomputeZone_of_le (Nat.le_of_not_lt hz)]
    exact .rfl s

/-! ### A change of base state -/

theorem writeBase_bases (z : Nat) (b : Base) (s : State) :
    (writeBase z b s).zrt.zones.map Zone.base = (s.zrt.zones.map Zone.base).set z b := by
  unfold writeBase State.modifyZone State.withZrt
  dsimp only
  refine List.ext_getElem? fun y => ?_
  rw [List.getElem?_map, List.getElem?_modify, List.getElem?_set, List.length_map, List.getElem?_map]
  by_cases hzy : z = y
  · subst hzy
    by_cases hlt : z < s.zrt.zones.length
    · simp [hlt]
    · simp [hlt]
  · simp [hzy]

/-- Beside the base state written, a change of base works on coverage and announcements, in its own zone. -/
theorem changeBase_reaches (z : Nat) (b : Base) (cause : ZoneCause) (s : State) :
    Reaches (writeBase z b s) (changeBase z b cause s) ∧
      ∀ y, y ≠ z → ((changeBase z b cause s).zone y).covering = (s.zone y).covering := by
  have hwritten : ∀ y, ((writeBase z b s).zone y).covering = (s.zone y).covering := fun y => by
    rw [writeBase_zone]
    split <;> rfl
  have hplays : ∀ {t}, Plays (writeBase z b s) t →
      Reaches (writeBase z b s) t ∧ ∀ y, y ≠ z → (t.zone y).covering = (s.zone y).covering := fun h =>
    ⟨h.reaches, fun y _ => (h.covering y).trans (hwritten y)⟩
  have hrecovers : ∀ {t n}, Recovers (writeBase z b s) t z n →
      Reaches (writeBase z b s) t ∧ ∀ y, y ≠ z → (t.zone y).covering = (s.zone y).covering := fun h =>
    ⟨h.reaches, fun y hy => (h.others y hy).trans (hwritten y)⟩
  by_cases hb : b = .isolated
  · subst hb
    by_cases hz : z < s.zrt.zones.length
    · have hlt : z < (writeBase z .isolated s).zrt.zones.length := by simpa [writeBase, State.modifyZone] using hz
      exact hrecovers (((setCovering_recovers hlt none).plays (baseEffects_plays z .isolated _)).plays
        (generate_settles (zoneChange (baseEffects z .isolated (setCovering z none (writeBase z .isolated s))) z (s.zone z)
          cause) _).toPlays)
    · have hsame : writeBase z .isolated s = s := modifyZone_of_le (Nat.le_of_not_lt hz) _
      have hchange := changeBase_plays_of_le (Nat.le_of_not_lt hz) .isolated cause
      rw [hsame]
      exact ⟨hchange.reaches, fun y _ => hchange.covering y⟩
  · rw [changeBase_of_ne hb]
    split
    · exact hplays (generate_settles _ _).toPlays
    · cases hfound : coveringOf (writeBase z b s) z with
      | some n => exact hrecovers (enterEvacuate_recovers (lt_of_coveringOf hfound) n (s.zone z) cause true)
      | none => exact hplays ((baseEffects_plays z b _).trans (generate_settles _ _).toPlays)

/-- Where a change of base leaves the zone uncovered, it has acted on it as the base state asks. -/
theorem changeBase_of_uncovered {z : Nat} {b : Base} {cause : ZoneCause} {s : State} (hb : b ≠ .isolated)
    (h : ((changeBase z b cause s).zone z).covering = none) :
    (s.zone z).covering = none ∧ ∃ n, changeBase z b cause s = generate n (baseEffects z b (writeBase z b s)) := by
  have heq := changeBase_of_ne hb z cause s
  have hwritten : ((writeBase z b s).zone z).covering = (s.zone z).covering := by
    rw [writeBase_zone]
    split <;> rfl
  by_cases hsome : (s.zone z).covering.isSome = true
  · rw [heq, if_pos hsome, generate_zone, hwritten] at h
    rw [h] at hsome
    cases hsome
  · rw [if_neg hsome] at heq
    refine ⟨by simpa using hsome, ?_⟩
    cases hfound : coveringOf (writeBase z b s) z with
    | some n =>
      rw [hfound, Option.elim_some] at heq
      rw [heq, (enterEvacuate_recovers (lt_of_coveringOf hfound) n (s.zone z) cause true).covering] at h
      cases h
    | none =>
      rw [hfound, Option.elim_none] at heq
      exact ⟨_, heq⟩

/-- An ISOLATED zone has no covering source, an empty queue and no attached channel (R107). -/
theorem changeBase_isolated (z : Nat) (cause : ZoneCause) (s : State) :
    ((changeBase z .isolated cause s).zone z).covering = none ∧ ((changeBase z .isolated cause s).zone z).queue = [] ∧
      (AttachedOnce s z → ∀ c < 8, attachedTo (changeBase z .isolated cause s) z c = false) := by
  have hcov : ((setCovering z none (writeBase z .isolated s)).zone z).covering = none := by
    rw [setCovering_zone]
    split
    · rfl
    next hge =>
      have hle : (writeBase z .isolated s).zrt.zones.length ≤ z := Nat.le_of_not_lt fun hlt => hge ⟨rfl, hlt⟩
      rw [zone_of_le hle]
      rfl
  refine ⟨?_, emptied_queue rfl z .isolated (setCovering z none (writeBase z .isolated s)),
    fun h => emptied_detached (s := setCovering z none (writeBase z .isolated s)) h .isolation .isolated⟩
  exact ((baseEffects_plays z .isolated (setCovering z none (writeBase z .isolated s))).covering z).trans hcov

end Sys2Proof.Machine


/-! PROOFS. A zone that is closed (R107, R128), the inputs that hold it so, and ZONE_STATE. -/

namespace Sys2Proof.Machine

open Sys2Proof.Claims

/-! ### The queue of a closed zone -/

/-- A CLOSED zone takes nothing below 6 back. -/
theorem takeRestored_closed {u : State} {z : Nat} (h : effective (u.zone z) = .closed)
    (hq : ∀ q ∈ (u.zone z).queue, 6 ≤ q.priority) (p : Placement) (marked : Bool) :
    ∀ q ∈ ((takeRestored z p marked u).2.zone z).queue, 6 ≤ q.priority := by
  cases hr : returnReason u z p true marked with
  | some reason =>
    rw [takeRestored_of_reason hr]
    exact hq
  | none =>
    have hp : 6 ≤ p.priority := by
      by_contra hlow
      have hclosed : (decide (effective (u.zone z) = .closed) && decide (p.priority < 6)) = true := by
        rw [h]
        simpa using hlow
      unfold returnReason at hr
      split at hr
      · cases hr
      · split at hr
        · cases hr
        · cases hr
    rw [takeRestored_of_none hr]
    intro q hmem
    dsimp only at hmem
    rw [enterQueue_zone] at hmem
    split at hmem
    · rcases mem_insertPlacement.mp hmem with rfl | hmem
      · exact hp
      · exact hq q (mem_of_mem_makeRoom hmem)
    · exact hq q (mem_of_mem_makeRoom hmem)

theorem endPart_truncated_closed {s : State} {z : Nat} (hcov : (s.zone z).covering = none)
    (hbase : (s.zone z).base = .closed) (hq : ∀ q ∈ (s.zone z).queue, 6 ≤ q.priority) (c : Nat) :
    ∀ q ∈ ((endPart c .truncated false z s).zone z).queue, 6 ≤ q.priority := by
  cases hatt : attachedTo s z c with
  | false => rwa [endPart_of_detached hatt]
  | true =>
    obtain ⟨r, a, hr, ha⟩ := attachedTo_eq_true.mp hatt
    cases hd : disposePlacement z a .truncated false (detachZone c z r s) with
    | mk fate u =>
      have hu : u = (takeRestored z a.placement (decide (a.mark = some .withdrawal)) (detachZone c z r s)).2 :=
        (congrArg Prod.snd hd).symm
      have hclosed : effective ((detachZone c z r s).zone z) = .closed := by
        rw [detachZone_effective]
        exact (effective_closed_iff _).mpr ⟨hcov, hbase⟩
      have hqueue := takeRestored_closed hclosed (by rwa [detachZone_queue]) a.placement
        (decide (a.mark = some .withdrawal))
      rw [← hu] at hqueue
      have hucov : (u.zone z).covering = none := by
        rw [hu, (takeRestored_settles z a.placement _ _).covering z, detachZone_covering]
        exact hcov
      have hresume : resumeCoverage z r.announcement a false u = u := by
        unfold resumeCoverage coveredWith
        rw [hucov]
        exact if_neg fun h => Bool.false_ne_true h.2.2.1
      rw [endPart_eq hr ha hd, hresume, zone_of_zones (congrArg Zrt.zones (recordLeft_zrt ..))]
      exact hqueue

theorem markIn_close_queue {s : State} {z : Nat} (hcov : (s.zone z).covering = none)
    (hbase : (s.zone z).base = .closed) (hq : ∀ q ∈ (s.zone z).queue, 6 ≤ q.priority) (c : Nat) :
    ∀ q ∈ ((markIn c .close z s).zone z).queue, 6 ≤ q.priority := by
  cases hatt : attachedTo s z c with
  | false => rwa [markIn_of_detached hatt]
  | true =>
    obtain ⟨r, a, hr, ha⟩ := attachedTo_eq_true.mp hatt
    cases hp : r.phase with
    | phrase =>
      rw [markIn_of_phrase hr ha hp]
      exact hq
    | gap =>
      rw [markIn_of_gap hr ha hp]
      intro q hmem
      exact endPart_truncated_closed (s := s.setChannel c (some (markedRun .close r z))) hcov hbase hq c q
        ((idleIfEmpty_queue_sublist c .truncated _ z).subset hmem)

/-! ### A closed zone -/

section
variable {s : State} {z : Nat}

/-- Closing a zone drops what is below 6 in its queue and marks it in a run below 6. -/
theorem closeZone_cases : ∃ u, u.ple = s.ple ∧ (u.zone z).covering = (s.zone z).covering ∧
    (u.zone z).base = (s.zone z).base ∧ (∀ p ∈ (u.zone z).queue, 6 ≤ p.priority) ∧
    ((attachedChannel s z = none ∧ closeZone z s = u) ∨ ∃ c r a, attachedChannel s z = some c ∧ s.channel c = some r ∧
      attachmentIn r z = some a ∧ closeZone z s = if r.priority < 6 then markIn c .close z u else u) := by
  set u := dropWhere z .closed (fun p => decide (p.priority < 6)) s with hu
  have hple : u.ple = s.ple := (dropWhere_sheds z .closed _ s).ple
  have hplays := (dropWhere_settles z .closed (fun p => decide (p.priority < 6)) s).toPlays
  refine ⟨u, hple, hplays.covering z, hplays.base z, fun p hp => by simpa using (dropWhere_queue_none hp).2, ?_⟩
  have hchannel : attachedChannel u z = attachedChannel s z := attachedChannel_congr (congrArg Ple.channels hple) z
  have hrun : runOf u z = runOf s z := runOf_congr (congrArg Ple.channels hple) z
  unfold closeZone
  rw [← hu]
  dsimp only
  cases hc : attachedChannel s z with
  | none =>
    rw [hrun, runOf_eq_none hc]
    exact .inl ⟨rfl, rfl⟩
  | some c =>
    obtain ⟨hlt, hatt⟩ := attachedChannel_eq_some hc
    obtain ⟨r, a, hr, ha⟩ := attachedTo_eq_true.mp hatt
    refine .inr ⟨c, r, a, rfl, hr, ha, ?_⟩
    rw [hrun, runOf_of_attachedChannel hc, hr]
    unfold markZone
    rw [hchannel, hc]

theorem closeZone_queue (hcov : (s.zone z).covering = none) (hbase : (s.zone z).base = .closed) :
    ∀ p ∈ ((closeZone z s).zone z).queue, 6 ≤ p.priority := by
  obtain ⟨u, -, hucov, hubase, hq, hcases⟩ := closeZone_cases (s := s) (z := z)
  obtain ⟨-, heq⟩ | ⟨c, r, a, -, -, -, heq⟩ := hcases
  · rwa [heq]
  · rw [heq]
    split
    · exact markIn_close_queue (hucov.trans hcov) (hubase.trans hbase) hq c
    · exact hq

theorem joinMark_close (old : Option TruncateCause) : some (joinMark old .close) =
    if old = some .withdrawal then some TruncateCause.withdrawal else some .close := by
  cases old with
  | none => rfl
  | some cause => cases cause <;> rfl

theorem closeZone_closedToRuns (h : AttachedOnce s z) : ClosedToRuns s (closeZone z s) z := by
  intro c hc r a hr ha
  obtain ⟨u, hple, -, -, -, hcases⟩ := closeZone_cases (s := s) (z := z)
  have hatt : attachedTo s z c = true := attachedTo_eq_true.mpr ⟨r, a, hr, ha⟩
  have hur : u.channel c = some r := by unfold State.channel; rw [hple]; exact hr
  obtain ⟨hnone, -⟩ | ⟨d, r', a', hd, hr', ha', heq⟩ := hcases
  · rw [attachedChannel_eq_none.mp hnone c hc] at hatt
    cases hatt
  · obtain ⟨hdlt, hdatt⟩ := attachedChannel_eq_some hd
    obtain rfl := h c hc d hdlt hatt hdatt
    rw [hr] at hr'
    cases hr'
    rw [ha] at ha'
    cases ha'
    obtain ⟨hphrase, hgap⟩ := markIn_channel hur ha .close
    refine ⟨fun hhigh => ?_, fun hlow hp => ⟨markedRun .close r z, ?_, ?_⟩,
      fun hlow hp => ?_⟩
    · rw [heq, if_neg (Nat.not_lt.mpr hhigh)]
      exact hur
    · rw [heq, if_pos hlow]
      exact hphrase hp
    · rw [attachmentIn_markedRun ha .close, joinMark_close]
    · rw [heq, if_pos hlow]
      exact hgap hp

end

/-- What closing a zone outside EVACUATE leaves of its queue and of its run (R107). -/
theorem changeBase_closed {z : Nat} {cause : ZoneCause} {s : State}
    (h : ((changeBase z .closed cause s).zone z).covering = none) :
    (∀ p ∈ ((changeBase z .closed cause s).zone z).queue, 6 ≤ p.priority) ∧
      (AttachedOnce s z → ClosedToRuns s (changeBase z .closed cause s) z) := by
  obtain ⟨hcov, n, heq⟩ := changeBase_of_uncovered (by decide) h
  rw [heq]
  refine ⟨?_, fun honce => closeZone_closedToRuns (s := writeBase z .closed s) honce⟩
  by_cases hz : z < s.zrt.zones.length
  · have hzone : (writeBase z .closed s).zone z = { s.zone z with base := .closed } := by
      rw [writeBase_zone, if_pos ⟨rfl, hz⟩]
    exact closeZone_queue (s := writeBase z .closed s) (by rw [hzone]; exact hcov) (by rw [hzone])
  · intro p hp
    have hlength := (changeBase_reaches z .closed cause s).1.length
    have hcold : (changeBase z .closed cause s).zone z = coldZone := by
      refine zone_of_le ?_
      rw [hlength]
      simpa [writeBase, State.modifyZone] using hz
    rw [← heq, hcold] at hp
    cases hp

/-! ### The inputs that hold a zone or a source -/

theorem find?_allInputs_eq_some {p : Nat → Bool} {n : Nat} :
    allInputs.find? p = some n ↔ n < 32 ∧ p n = true ∧ ∀ m < n, p m = false := by
  unfold allInputs
  rw [List.find?_range_eq_some]
  simp only [Bool.not_eq_true', List.mem_range]
  exact ⟨fun ⟨hp, hn, hm⟩ => ⟨hn, hp, hm⟩, fun ⟨hn, hp, hm⟩ => ⟨hp, hn, hm⟩⟩

theorem find?_allInputs_eq_none {p : Nat → Bool} : allInputs.find? p = none ↔ ∀ n < 32, p n = false := by
  unfold allInputs
  rw [List.find?_eq_none]
  simp only [List.mem_range, Bool.not_eq_true]

section
variable {s : State} {f : InputFunction}

theorem holdingInput_eq_some (hf : f ≠ .general) (n : Nat) : FirstHolding s f n ↔ holdingInput s.fiu.inputs f = some n := by
  have hp : ∀ m, (decide (f ≠ .general) && decide ((s.input m).function = f) && decide ((s.input m).sense = .level) &&
      activeInput (s.input m)) = true ↔ Holding s f m := fun m => by
    simp [Holding, hf, and_assoc]
  have hfind := find?_allInputs_eq_some (n := n) (p := fun m => decide (f ≠ .general) && decide ((s.input m).function = f) &&
    decide ((s.input m).sense = .level) && activeInput (s.input m))
  simp only [hp, ← Bool.not_eq_true] at hfind
  exact hfind.symm

theorem holdingInput_eq_none (h : ∀ n < 32, ¬ Holding s f n) : holdingInput s.fiu.inputs f = none := by
  refine find?_allInputs_eq_none.mpr fun n hn => Bool.eq_false_iff.mpr fun hp => h n hn ?_
  simp only [Bool.and_eq_true, decide_eq_true_eq] at hp
  obtain ⟨⟨⟨-, hfunction⟩, hsense⟩, hactive⟩ := hp
  exact ⟨hfunction, hsense, hactive⟩

end

theorem baseOfCode_eq_some {n : Nat} {b : Base} : baseOfCode n = some b ↔ baseCode b = n := by
  constructor
  · intro h
    unfold baseOfCode at h
    split at h <;> cases h <;> rfl
  · rintro rfl
    cases b <;> rfl

theorem zoneStateRequest_of_base {r : ZoneStateReq} {b : Base} {s : State} (hz : r.zone ≤ 39) (hb : baseCode b = r.state) :
    zoneStateRequest r s = if (s.zone r.zone).base = b then (accepted [], s)
      else ((if b = .opn then holdingInput s.fiu.inputs (.platformClose r.zone) else none).elim
        (accepted [], settle (changeBase r.zone b .request s)) (fun i => (.refused .inputActive i, s))) := by
  unfold zoneStateRequest
  rw [baseOfCode_eq_some.mpr hb]
  dsimp only
  rw [if_neg (by simp only [Config.maxZones]; omega)]
  split
  · rfl
  · cases (if b = .opn then holdingInput s.fiu.inputs (.platformClose r.zone) else none) <;> rfl

/-- Settles O48. -/
theorem zoneStateSetsTheBaseState : Obligations.ZoneStateSetsTheBaseState := by
  unfold Obligations.ZoneStateSetsTheBaseState
  intro tag r s s0 h
  refine ⟨fun hbad => onlyAnswers_of_owner_eq h ?_, fun b hz hb => ⟨fun hsame => onlyAnswers_of_owner_eq h
    ((zoneStateRequest_of_base hz hb).trans (if_pos hsame)), fun hother => ⟨fun n hopen hfirst =>
      onlyAnswers_of_owner_eq h ?_, fun hfree => ?_⟩⟩⟩
  · show zoneStateRequest r s0 = _
    unfold zoneStateRequest
    split
    · rfl
    next b hb =>
      have hcode := baseOfCode_eq_some.mp hb
      refine if_pos ?_
      rcases hbad with hz | hzero | hhigh
      · exact hz
      · rw [hzero] at hcode
        cases b <;> cases hcode
      · cases b <;> simp only [baseCode] at hcode <;> omega
  · refine (zoneStateRequest_of_base hz hb).trans ?_
    rw [if_neg hother, if_pos hopen, (holdingInput_eq_some (fun hc => by cases hc) n).mp hfirst]
    rfl
  · have hholding : (if b = .opn then holdingInput s0.fiu.inputs (.platformClose r.zone) else none) = none := by
      split
      next hopen => exact holdingInput_eq_none (hfree hopen)
      · rfl
    have howner := zoneStateRequest_of_base (s := s0) hz hb
    rw [if_neg hother, hholding] at howner
    obtain ⟨hreaches, hothers⟩ := changeBase_reaches r.zone b .request s0
    refine ⟨changeBase r.zone b .request s0, exec_of_owner_eq h howner,
      (writeBase_reroutes r.zone b s0).toRoutes.trans hreaches.routes,
      hreaches.bases.trans (writeBase_bases r.zone b s0), hreaches.sources, fun z _ hne => hothers z hne, ?_, ?_⟩
    · rintro rfl
      exact changeBase_isolated r.zone .request s0
    · rintro rfl hcov
      exact changeBase_closed hcov

end Sys2Proof.Machine


/-! PROOFS. ZONE_CONFIG and GROUP_SET (R92 to R95): coverage found again, and zones that are left empty. -/

namespace Sys2Proof.Machine

open Sys2Proof.Claims

/-! ### Coverage found again, for a law of the work that plays -/

namespace Player

variable {K : State → State → Prop} (k : Player K)
include k

/-- A zone's coverage is found again: a law holds of it that holds of playing work, of the coverage found and of the
conditions in the zone's queue. -/
theorem recomputeZone_of {z : Nat} {s : State} (hset : K s (setCovering z (coveringOf s z) s))
    (hqueue : ∀ g : Placement → Placement, (∀ p, (g p).announcement = p.announcement ∧ (g p).priority = p.priority) →
      ∀ u, K u (u.modifyZone z (fun zn => { zn with queue := zn.queue.map g }))) (place : Bool) :
    K s (recomputeZone place z s) := by
  have hhold := hqueue holdPlacement (fun p => by unfold holdPlacement; split <;> exact ⟨Eq.refl _, Eq.refl _⟩)
  have hrelease := hqueue releasePlacement (fun p => by unfold releasePlacement; split <;> exact ⟨Eq.refl _, Eq.refl _⟩)
  have hplace : ∀ {n u}, coveringOf s z = some n → Plays (setCovering z (some n) s) u →
      K u (if place = true then Machine.placeCoverage n z u else u) := fun {n u} hn hu => by
    split
    · obtain ⟨hz, hsource⟩ := covered_of_plays hn hu
      exact k.placeCoverage hz hsource
    · exact k.rfl _
  unfold Machine.recomputeZone
  cases hfound : coveringOf s z with
  | none =>
    rw [hfound] at hset
    cases (s.zone z).covering with
    | none => exact k.rfl s
    | some a =>
      dsimp only
      unfold Machine.leaveEvacuate
      dsimp only
      exact k.trans (k.trans (k.trans hset (k.trans (k.generate _ _) (k.withdrawShare a z _))) (hrelease _))
        (k.ite (k.dropWhere _ _ _ _))
  | some b =>
    rw [hfound] at hset
    cases (s.zone z).covering with
    | none =>
      dsimp only
      unfold Machine.enterEvacuate
      dsimp only
      exact k.trans (k.trans (k.trans hset (k.trans (k.generate _ _) (k.cutForEvacuation z _))) (hhold _))
        (hplace hfound (((generate_settles _ _).trans (cutForEvacuation_settles z _)).toPlays.trans
          (mapQueue_plays (g := holdPlacement) z _)))
    | some a =>
      dsimp only
      split
      · exact k.rfl s
      · unfold Machine.handOver
        dsimp only
        exact k.trans (k.trans hset (k.trans (k.generate _ _) (k.withdrawShare a z _)))
          (hplace hfound ((generate_settles _ _).trans (withdrawShare_settles a z _)).toPlays)

end Player

/-! ### Zones that no source may cover -/

section
variable {P : Nat → Prop}

theorem setCovering_seats {s : State} {z : Nat} {n : Option Nat} (h : n = none ∨ ¬ Barred s z) :
    Seats P s (setCovering z n s) := by
  have hzone := setCovering_zone z n s
  have hqueue : ∀ y, ((setCovering z n s).zone y).queue = (s.zone y).queue := fun y => by rw [hzone]; split <;> rfl
  have hbase : ∀ y, ((setCovering z n s).zone y).base = (s.zone y).base := fun y => by rw [hzone]; split <;> rfl
  refine ⟨fun y hy => ?_, fun _ h => h, fun y _ hs => ⟨(hqueue y).trans hs.1, hs.2⟩, hbase, rfl⟩
  have hreach : reachableZone (setCovering z n s) y = reachableZone s y :=
    reachableZone_congr (by rw [hzone]; split <;> rfl) (by rw [hzone]; split <;> rfl) rfl
  refine ⟨?_, by rw [hbase, hreach]; exact hy.2⟩
  rw [hzone]
  split
  next hyz =>
    rcases h with hn | hno
    · exact hn
    · exact absurd (hyz.1 ▸ hy) hno
  · exact hy.1

theorem mapQueue_seats (g : Placement → Placement) (z : Nat) (s : State) :
    Seats P s (s.modifyZone z (fun zn => { zn with queue := zn.queue.map g })) :=
  (mapQueue_plays (g := g) z s).seats_of_ple rfl fun _ _ hs =>
    modifyZone_queue_nil (f := fun zn => { zn with queue := zn.queue.map g })
      (fun _ h => List.map_eq_nil_iff.mpr h) z hs.1

theorem not_barred_of_coveringOf {s : State} {z n : Nat} (h : coveringOf s z = some n) : ¬ Barred s z := fun hb => by
  rcases hb.2 with hiso | hunreachable
  · rw [coveringOf_of_isolated hiso] at h
    cases h
  · rw [coveringOf_of_unreachable hunreachable] at h
    cases h

theorem recomputeZone_seats (hP : ∀ c < 8, P c) (place : Bool) (z : Nat) (s : State) :
    Seats P s (recomputeZone place z s) := by
  refine (seats_player hP).recomputeZone_of (setCovering_seats ?_) (fun g _ u => mapQueue_seats g z u) place
  cases hfound : coveringOf s z with
  | none => exact .inl rfl
  | some n => exact .inr (not_barred_of_coveringOf hfound)

theorem invalidateZone_seats (hP : ∀ c < 8, P c) (z : Nat) (s : State) : Seats P s (invalidateZone z s) := by
  have hempty : Seats P s (cutZone z .groupInvalid (dropWhere z .groupInvalid (fun _ => true) s)) :=
    (dropWhere_seats ..).trans ((seats_player hP).cutZone ..)
  unfold invalidateZone
  dsimp only
  split
  · exact hempty.trans ((setCovering_seats (.inl rfl)).trans ((seats_player hP).generate _ _))
  · exact hempty

end

/-! ### The passes of GROUP_SET -/

theorem Reaches.sameSites {s t : State} (h : Reaches s t) : SameSites s t where
  length := h.length
  sources := h.routes.sources
  site z := by
    have hzone := h.routes.zone_configuration z
    have hsource : ∀ n, standing (t.source n) = standing (s.source n) := fun n => getD_of_map_eq h.sources coldSource n
    exact
      { enabled := (congrArg Zone.enabled hzone :)
        address := (congrArg Zone.address hzone :)
        base := h.base z
        groups := h.routes.groups
        sources := fun n => ⟨(congrArg Source.state (hsource n) :), (congrArg Source.key (hsource n) :)⟩ }

theorem invalidateZone_reaches (z : Nat) (s : State) : Reaches s (invalidateZone z s) := by
  by_cases hz : z < s.zrt.zones.length
  · exact (invalidateZone_recovers hz).reaches
  · have hempty := ((dropWhere_settles z .groupInvalid (fun _ => true) s).trans (cutZone_settles z .groupInvalid _)).toPlays
    have hset : ∀ u, u.zrt.zones.length = s.zrt.zones.length → setCovering z none u = u := fun u hu =>
      modifyZone_of_le (by rw [hu]; exact Nat.le_of_not_lt hz) _
    unfold invalidateZone
    dsimp only
    split
    · rw [hset _ (zones_length_of_plays hempty)]
      exact (hempty.trans (generate_settles _ _).toPlays).reaches
    · exact hempty.reaches

/-- A pass over the zones of groups is one over the list of these zones. -/
theorem forEach_groups_eq {f : Nat → State → State} (hf : ∀ z u, Reaches u (f z u)) : ∀ (gs : List Nat) (s : State),
    forEach gs (fun g u => forEach (zonesOfGroup u g) f u) s = forEach (gs.flatMap (zonesOfGroup s)) f s
  | [], _ => rfl
  | g :: gs, s => by
    have hsites : SameSites s (forEach (zonesOfGroup s g) f s) := (forEach_reaches hf s).sameSites
    have hrest := forEach_groups_eq hf gs (forEach (zonesOfGroup s g) f s)
    rw [show (zonesOfGroup (forEach (zonesOfGroup s g) f s)) = zonesOfGroup s from
      funext fun g => zonesOfGroup_congr hsites g] at hrest
    unfold forEach at hrest ⊢
    rw [List.flatMap_cons, List.foldl_append, List.foldl_cons]
    exact hrest

/-- What one step of a pass brings about and every step keeps holds after it. -/
theorem forEach_establishes {α : Type} {f : α → State → State} {inv Q : State → Prop}
    (hinv : ∀ y u, inv u → inv (f y u)) (hkeep : ∀ y u, inv u → Q u → Q (f y u)) {x : α}
    (hmake : ∀ u, inv u → Q (f x u)) : ∀ {xs : List α} {s : State}, inv s → (x ∈ xs ∨ Q s) → Q (forEach xs f s)
  | [], _, _, h => h.resolve_left List.not_mem_nil
  | y :: ys, s, hs, h => by
    refine forEach_establishes hinv hkeep hmake (xs := ys) (hinv y s hs) ?_
    rcases h with hmem | hq
    · rcases List.mem_cons.mp hmem with rfl | hmem
      · exact .inr (hmake s hs)
      · exact .inl hmem
    · exact .inr (hkeep y s hs hq)

/-! ### ZONE_CONFIG -/

theorem zoneKindOfCode_eq_some {n : Nat} {k : ZoneKind} : zoneKindOfCode n = some k ↔ zoneKindCode k = n := by
  constructor
  · intro h
    unfold zoneKindOfCode at h
    split at h <;> cases h <;> rfl
  · rintro rfl
    cases k <;> rfl

theorem lampOfCode_eq_some {n : Nat} {m : LampMode} : lampOfCode n = some m ↔ lampCode m = n := by
  constructor
  · intro h
    unfold lampOfCode at h
    split at h <;> cases h <;> rfl
  · rintro rfl
    cases m <;> rfl

theorem exists_zoneKindOfCode {n : Nat} : (∃ k, zoneKindOfCode n = some k) ↔ 1 ≤ n ∧ n ≤ 3 := by
  constructor
  · rintro ⟨k, hk⟩
    rw [← zoneKindOfCode_eq_some.mp hk]
    cases k <;> decide
  · rintro ⟨hl, hu⟩
    interval_cases n <;> exact ⟨_, rfl⟩

theorem exists_lampOfCode {n : Nat} : (∃ m, lampOfCode n = some m) ↔ 1 ≤ n ∧ n ≤ 3 := by
  constructor
  · rintro ⟨m, hm⟩
    rw [← lampOfCode_eq_some.mp hm]
    cases m <;> decide
  · rintro ⟨hl, hu⟩
    interval_cases n <;> exact ⟨_, rfl⟩

theorem clampGain_eq (g : Int) : clampGain g = max (-120) (min 0 g) := clampInt_eq (by decide) g

theorem zoneOutOfRange_eq_false (r : ZoneConfigReq) : zoneOutOfRange r = false ↔
    r.zone ≤ 39 ∧ r.address ≤ 4095 ∧ ∀ p, r.name = some p → p ≤ 2047 := by
  unfold zoneOutOfRange
  rw [Bool.or_eq_false_iff, Bool.or_eq_false_iff, and_assoc]
  cases r.name with
  | none =>
    simp [Config.maxZones]
    omega
  | some p =>
    simp only [Config.maxZones, Config.maxPhrases, decide_eq_false_iff_not, Option.some.injEq, forall_eq']
    omega

theorem zoneClamped_iff (r : ZoneConfigReq) : zoneClamped r = true ↔ ZoneClamps r := by
  simp only [zoneClamped, ZoneClamps, Bool.or_eq_true, decide_eq_true_eq, clampGain_eq,
    clampNat_ne (show 30 ≤ 120 by decide), clampNat_ne (show 1 ≤ 7 by decide)]
  omega

end Sys2Proof.Machine


/-! PROOFS. The settlement of ZONE_CONFIG and GROUP_SET (R92 to R95). -/

namespace Sys2Proof.Machine

open Sys2Proof.Claims

theorem configureZone_outOfRange {r : ZoneConfigReq} {s : State}
    (h : ¬ ZoneFits r ∨ max (-120) (min 0 r.gmax) < max (-120) (min 0 r.gmin)) :
    configureZone r s = (refused .outOfRange, s) := by
  unfold configureZone
  split
  next k m hk hm =>
    dsimp only
    split
    · rfl
    next hrange =>
      obtain ⟨hzone, haddress, hname⟩ := (zoneOutOfRange_eq_false r).mp (by simpa using hrange)
      have hfits : ZoneFits r := ⟨hzone, haddress, exists_zoneKindOfCode.mp ⟨k, hk⟩, exists_lampOfCode.mp ⟨m, hm⟩, hname⟩
      refine if_pos ?_
      rw [clampGain_eq, clampGain_eq]
      exact h.resolve_left fun hno => hno hfits
  · rfl

/-- A ZONE_CONFIG in range is judged by the zone's queue and its channel (R92). -/
theorem configureZone_of_fits {r : ZoneConfigReq} {s : State} (hfits : ZoneFits r)
    (hgains : max (-120) (min 0 r.gmin) ≤ max (-120) (min 0 r.gmax)) {k : ZoneKind} {m : LampMode}
    (hk : zoneKindCode k = r.kind) (hm : lampCode m = r.lampMode) :
    let z := s.zone r.zone
    let moves := z.address ≠ BitVec.ofNat 12 r.address ∧ z.queue ≠ []
    let leaves := r.enabled = false ∧ z.enabled = true ∧ (z.queue ≠ [] ∨ attachedChannel s r.zone ≠ none)
    ((moves ∨ leaves) → configureZone r s = (refused .wrongState, s)) ∧
    (¬ moves → ¬ leaves → configureZone r s = (.accepted (zoneClamped r) [] .nothing,
      settle (recomputeZone true r.zone (s.modifyZone r.zone (configured r k m))))) := by
  have hrange : ¬ zoneOutOfRange r = true := by
    rw [Bool.not_eq_true, zoneOutOfRange_eq_false]
    exact ⟨hfits.zone, hfits.address, hfits.name⟩
  have hgain : ¬ clampGain r.gmax < clampGain r.gmin := by
    rw [clampGain_eq, clampGain_eq]
    exact Int.not_lt.mpr hgains
  have hchannel : (attachedChannel s r.zone).isSome = true ↔ attachedChannel s r.zone ≠ none :=
    Option.isSome_iff_ne_none
  unfold configureZone
  rw [zoneKindOfCode_eq_some.mpr hk, lampOfCode_eq_some.mpr hm]
  dsimp only
  rw [if_neg hrange, if_neg hgain]
  refine ⟨fun h => ?_, fun hmoves hleaves => ?_⟩
  · by_cases hmoves : (s.zone r.zone).address ≠ BitVec.ofNat 12 r.address ∧ (s.zone r.zone).queue ≠ []
    · exact if_pos hmoves
    · exact (if_neg hmoves).trans (if_pos (by simpa only [hchannel] using h.resolve_left hmoves))
  · exact (if_neg hmoves).trans (if_neg (by simpa only [hchannel] using hleaves))

theorem map_modify_congr {α β : Type} {c : α → β} {f g : α → α} (h : ∀ x, c (f x) = c (g x)) (l : List α) (i : Nat) :
    (l.modify i f).map c = (l.modify i g).map c := by
  refine List.ext_getElem? fun n => ?_
  rw [List.getElem?_map, List.getElem?_map, List.getElem?_modify, List.getElem?_modify]
  cases l[n]? with
  | none => rfl
  | some x =>
    by_cases hi : i = n
    · simp [hi, h]
    · simp [hi]

/-- Two records of a zone that agree in its configuration are alike for the rest of the part. -/
theorem modifyZone_routes {f g : Zone → Zone} (h : ∀ zn, configuration (g zn) = configuration (f zn)) (z : Nat) (s : State) :
    Routes (s.modifyZone z f) (s.modifyZone z g) :=
  { (Reroutes.rfl s).toRoutes with
    zones := map_modify_congr h _ _ }

/-! ### GROUP_SET -/

theorem groupsAfter_getLsbD (groups : BitVec 16) (r : GroupSetReq) {g : Nat} (hg : g < 16) :
    (groupsAfter groups r).getLsbD g = if r.select.getLsbD g = true then r.value.getLsbD g else groups.getLsbD g := by
  unfold groupsAfter
  rw [BitVec.getLsbD_or, BitVec.getLsbD_and, BitVec.getLsbD_and, BitVec.getLsbD_not]
  cases r.select.getLsbD g <;> simp [hg]

/-- What is left of a zone of an invalidated group (R95). -/
structure Evicted (s0 : State) (z : Nat) (u : State) : Prop where
  covering : (u.zone z).covering = none
  empty : AttachedOnce s0 z → Sealed (· < 8) u z

section
variable {s : State} {r : GroupSetReq}

theorem regrouped_reaches : Reaches (s.withZrt { s.zrt with groups := groupsAfter s.zrt.groups r }) (regrouped r s) := by
  unfold regrouped
  exact (forEach_reaches (fun g u => forEach_reaches invalidateZone_reaches u) _).trans
    (forEach_reaches (fun g u => forEach_reaches (recomputeZone_reaches true) u) _)

theorem invalidateZone_evicts {s0 u : State} {z : Nat} (h : AttachedOnce s0 z → AttachedOnce u z) :
    Evicted s0 z (invalidateZone z u) := by
  set v := cutZone z .groupInvalid (dropWhere z .groupInvalid (fun _ => true) u) with hv
  have hsealed : AttachedOnce s0 z → Sealed (· < 8) v z := fun honce =>
    ⟨emptied_queue rfl z .groupInvalid u, emptied_detached (h honce) .groupInvalid .groupInvalid⟩
  unfold invalidateZone
  dsimp only
  rw [← hv]
  by_cases hcovered : (v.zone z).covering.isSome = true
  · rw [if_pos hcovered]
    have hzone := setCovering_zone z none v z
    refine ⟨?_, fun honce => ⟨?_, (hsealed honce).2⟩⟩
    · rw [generate_zone, hzone]
      split
      · rfl
      next hge =>
        rw [zone_of_le (Nat.le_of_not_lt fun hlt => hge ⟨rfl, hlt⟩)]
        rfl
    · rw [generate_zone, hzone]
      split
      · exact (hsealed honce).1
      · exact (hsealed honce).1
  · rw [if_neg hcovered]
    exact ⟨by simpa using hcovered, hsealed⟩

/-- The zones of an invalidated group are covered by no source, and empty. -/
theorem regrouped_evicts {z : Nat} (hz : z < 40) (hold : s.zrt.groups.getLsbD (groupOf (s.zone z).address) = true)
    (hnew : (groupsAfter s.zrt.groups r).getLsbD (groupOf (s.zone z).address) = false) :
    Evicted s z (regrouped r s) := by
  set new := groupsAfter s.zrt.groups r with hnewdef
  set s1 := s.withZrt { s.zrt with groups := new } with hs1
  have hunreachable : ∀ u, SameSites s1 u → reachableZone u z = false := fun u hu => by
    rw [reachableZone_congr (hu.site z).enabled (hu.site z).address (hu.site z).groups]
    unfold reachableZone
    rw [show s1.zrt.groups.getLsbD (groupOf (s1.zone z).address) = false from hnew, Bool.and_false]
  have hkeep : ∀ {u v}, SameSites s1 u → Seats (· < 8) u v → Evicted s z u → Evicted s z v := fun hu hseats he =>
    have hbarred : Barred _ z := ⟨he.covering, .inr (hunreachable _ hu)⟩
    ⟨(hseats.barred z hbarred).1, fun honce => hseats.sealed z hbarred (he.empty honce)⟩
  have hinv : ∀ {f : Nat → State → State}, (∀ y u, Reaches u (f y u)) → (∀ y u, Seats (· < 8) u (f y u)) → ∀ y u,
      (SameSites s1 u ∧ (AttachedOnce s z → AttachedOnce u z)) →
      (SameSites s1 (f y u) ∧ (AttachedOnce s z → AttachedOnce (f y u) z)) := fun hr hs y u h =>
    ⟨h.1.trans (hr y u).sameSites, fun honce => (hs y u).once z (h.2 honce)⟩
  have hP : ∀ c < 8, (fun c => c < 8) c := fun _ h => h
  have hmem : z ∈ (allGroups.filter (fun g => s.zrt.groups.getLsbD g && !new.getLsbD g)).flatMap (zonesOfGroup s1) := by
    refine List.mem_flatMap.mpr ⟨groupOf (s.zone z).address, List.mem_filter.mpr ⟨List.mem_range.mpr (groupOf_lt _), ?_⟩,
      mem_zonesOfGroup.mpr ⟨hz, rfl⟩⟩
    rw [hold, hnew]
    rfl
  have hstart : SameSites s1 s1 ∧ (AttachedOnce s z → AttachedOnce s1 z) := ⟨.rfl s1, fun h => h⟩
  have hfirst := forEach_establishes (f := invalidateZone) (Q := Evicted s z)
    (hinv invalidateZone_reaches (invalidateZone_seats hP)) (fun y u hu => hkeep hu.1 (invalidateZone_seats hP y u))
    (fun u hu => invalidateZone_evicts hu.2) hstart (.inl hmem)
  rw [← forEach_groups_eq invalidateZone_reaches] at hfirst
  have hsites := (forEach_reaches (fun g u => forEach_reaches invalidateZone_reaches u) s1 :
    Reaches s1 (forEach (allGroups.filter (fun g => s.zrt.groups.getLsbD g && !new.getLsbD g))
      (fun g u => forEach (zonesOfGroup u g) invalidateZone u) s1)).sameSites
  unfold regrouped
  dsimp only
  rw [← hnewdef, ← hs1]
  generalize forEach (allGroups.filter (fun g => s.zrt.groups.getLsbD g && !new.getLsbD g))
      (fun g u => forEach (zonesOfGroup u g) invalidateZone u) s1 = t at hfirst hsites ⊢
  rw [forEach_groups_eq (recomputeZone_reaches true)]
  generalize (allGroups.filter (fun g => !s.zrt.groups.getLsbD g && new.getLsbD g)).flatMap (zonesOfGroup t) = zs
  have hpass : ∀ (zs : List Nat) (u : State), SameSites s1 u → Evicted s z u →
      Evicted s z (forEach zs (recomputeZone true) u) := by
    intro zs
    induction zs with
    | nil => exact fun _ _ h => h
    | cons y ys ih =>
      exact fun u hu he => ih _ (hu.trans (recomputeZone_reaches true y u).sameSites)
        (hkeep hu (recomputeZone_seats hP true y u) he)
  exact hpass zs t hsites hfirst

theorem setGroups_of_select (h : r.select ≠ 0) :
    setGroups r s = (accepted (u16 (groupsAfter s.zrt.groups r).toNat), settle (regrouped r s)) := by
  unfold setGroups
  rw [if_neg h]
  rfl

end

/-- Settles O47. -/
theorem zonesAndGroupsAreConfigured : Obligations.ZonesAndGroupsAreConfigured := by
  unfold Obligations.ZonesAndGroupsAreConfigured
  refine ⟨fun tag r s s0 h => ⟨fun hbad => onlyAnswers_of_owner_eq h (configureZone_outOfRange hbad),
    fun hfits hgains hbusy => ?_, fun hfits hgains hmoves hleaves k m hk hm => ?_⟩,
    fun tag r s s0 h => ⟨fun hnone => onlyAnswers_of_owner_eq h (if_pos hnone), fun hsome => ?_⟩⟩
  · obtain ⟨k, hk⟩ := exists_zoneKindOfCode.mpr hfits.kind
    obtain ⟨m, hm⟩ := exists_lampOfCode.mpr hfits.lampMode
    exact onlyAnswers_of_owner_eq h ((configureZone_of_fits hfits hgains (zoneKindOfCode_eq_some.mp hk)
      (lampOfCode_eq_some.mp hm)).1 hbusy)
  · have howner := (configureZone_of_fits (s := s0) hfits hgains hk hm).2 hmoves hleaves
    have hreaches : Reaches (s0.modifyZone r.zone (configured r k m))
        (settle (recomputeZone true r.zone (s0.modifyZone r.zone (configured r k m)))) :=
      (recomputeZone_reaches true r.zone _).trans (settle_settles _).toPlays.reaches
    refine ⟨_, _, exec_of_owner_eq h howner, zoneClamped_iff r, hreaches.bases.trans (map_modify (g := Zone.base) (f := configured r k m) (fun _ => rfl) _ _),
      hreaches.sources, (modifyZone_routes (fun zn => ?_) r.zone s0).trans hreaches.routes⟩
    simp only [configured, configuration, clampGain_eq, clampNat_eq (show 30 ≤ 120 by decide),
      clampNat_eq (show 1 ≤ 7 by decide)]
  · refine ⟨groupsAfter s0.zrt.groups r, regrouped r s0, fun g hg => groupsAfter_getLsbD _ r hg,
      exec_of_owner_eq h (setGroups_of_select hsome), regrouped_reaches.routes, regrouped_reaches.bases,
      regrouped_reaches.sources, fun z hz hold hnew => ?_⟩
    have hevicted : Evicted s0 z (regrouped r s0) := regrouped_evicts hz hold hnew
    exact ⟨hevicted.covering, hevicted.empty⟩

end Sys2Proof.Machine


/-! PROOFS. What an activation does (R112, R113): the zones its entry covers, and the counts of its creation. -/

namespace Sys2Proof.Machine

open Sys2Proof.Claims

theorem map_modify_eq_set {α β : Type} {c : α → β} {f : α → α} {l : List α} {i : Nat} {d : α} {y : β}
    (h : c (f (l.getD i d)) = y) : (l.modify i f).map c = (l.map c).set i y := by
  refine List.ext_getElem? fun n => ?_
  rw [List.getElem?_map, List.getElem?_modify, List.getElem?_set, List.length_map, List.getElem?_map]
  by_cases hin : i = n
  · subst hin
    by_cases hlt : i < l.length
    · have hd : l.getD i d = l[i] := by simp [List.getD_eq_getElem?_getD, hlt]
      rw [hd] at h
      simp [hlt, h]
    · simp [hlt]
  · simp [hin]

/-- The zones of a pass are covered as a recomputation finds. -/
theorem forEach_recomputeZone_covered {place : Bool} {zs : List Nat} {s : State} {z : Nat} (hz : z ∈ zs)
    (hlt : z < s.zrt.zones.length) : Covered (forEach zs (recomputeZone place) s) z := by
  refine forEach_establishes (inv := SameSites s) (Q := fun u => Covered u z)
    (fun y u hu => hu.trans (recomputeZone_reaches place y u).sameSites) (fun y u hu hc => ?_) (fun u hu => ?_) (.rfl s)
    (.inl hz)
  · by_cases hy : y < u.zrt.zones.length
    · exact (recomputeZone_recovers hy place).keeps_covered hc
    · rw [recomputeZone_of_le (Nat.le_of_not_lt hy)]
      exact hc
  · exact (recomputeZone_recovers (by rw [hu.length]; exact hlt) place).covered

/-! ### Steps 1 and 2: the entry and the zones it covers -/

section
variable {s : State} {n : Nat} {key : SourceKey} {latched : Bool}

theorem activateEntry_reaches (n : Nat) (key : SourceKey) (latched : Bool) (s : State) :
    Reaches (s.modifySource n (fun _ => { state := .active, key := key, latched := latched, voice := .none }))
      (activateEntry n key latched s) := forEach_reaches (fun z u => recomputeZone_reaches false z u) _

theorem activateEntry_source (h : n < s.zrt.sources.length) :
    standing ((activateEntry n key latched s).source n) =
      { state := .active, key := key, latched := latched, voice := .none } := by
  have hstanding : standing ((activateEntry n key latched s).source n) = standing _ :=
    getD_of_map_eq (activateEntry_reaches n key latched s).sources coldSource n
  rw [hstanding]
  exact congrArg standing (source_modifySource_of_lt h _)

/-- Every zone of the new source's target set is covered as a recomputation finds. -/
theorem activateEntry_covered {z : Nat} (hz : z ∈ targetSet (activateEntry n key latched s) [key.target]) :
    Covered (activateEntry n key latched s) z := by
  have hlt := lt_length_of_mem_targetSet hz
  obtain ⟨hmem, hin⟩ := List.mem_filter.mp hz
  have hreaches := activateEntry_reaches n key latched s
  rw [hreaches.length] at hlt
  have haddress := (hreaches.sameSites.site z).address
  unfold inTarget at hin
  rw [haddress, Bool.and_eq_true, List.any_cons, List.any_nil, Bool.or_false] at hin
  obtain ⟨-, hmatch⟩ := hin
  exact forEach_recomputeZone_covered (List.mem_filter.mpr ⟨hmem, hmatch⟩) hlt

/-- A zone of the new source's target set is covered by it or by a lower-numbered source, unless it is ISOLATED. -/
theorem activateEntry_covering {z : Nat} (hn : n < 8) (hlt : n < s.zrt.sources.length)
    (hz : z ∈ targetSet (activateEntry n key latched s) [key.target]) :
    let zn := (activateEntry n key latched s).zone z
    (zn.base = .isolated → zn.covering = none) ∧ (zn.base ≠ .isolated → ∃ m ≤ n, zn.covering = some m) := by
  have hcovered := activateEntry_covered hz
  have hsource := activateEntry_source (key := key) (latched := latched) hlt
  obtain ⟨-, hin⟩ := List.mem_filter.mp hz
  generalize activateEntry n key latched s = w at *
  refine ⟨fun hiso => hcovered.trans (coveringOf_of_isolated hiso), fun hbase => ?_⟩
  have hstate : (w.source n).state = .active := (congrArg Source.state hsource :)
  have hkey : (w.source n).key = key := (congrArg Source.key hsource :)
  have hcovers : covers w n z = true := by
    unfold covers
    rw [hstate, hkey, hin, decide_eq_true hbase]
    rfl
  cases hfound : coveringOf w z with
  | none =>
    have hno := find?_allSources_eq_none.mp hfound n hn
    rw [hcovers] at hno
    cases hno
  | some m =>
    refine ⟨m, Nat.le_of_not_lt fun hnm => ?_, hcovered.trans hfound⟩
    have hno := (find?_allSources_eq_some.mp hfound).2.2 n hnm
    rw [hcovers] at hno
    cases hno

end

/-! ### Step 3: the creation's counts -/

/-- What refuses an announcement of priority 7 without latest start. -/
theorem refuseReason_of_unlimited {s : State} {x : Slot} {z : Nat} (hx : x.priority = 7)
    (hlatest : latestPassed s x.id = false) : refuseReason s x z =
      if effective (s.zone z) = .isolated then some .isolated
      else if hasRoom s z 7 = false then some .queueFull else none := by
  unfold refuseReason
  dsimp only
  have hloud : ¬ (7 < 6) := by decide
  simp only [hx, hlatest, hloud, and_false, if_false, Bool.false_eq_true]

/-- No slot of announcement `a` has a latest start. -/
def Unlimited (a : Nat) (s : State) : Prop := ∀ x ∈ s.asc.slots, x.id = a → x.latestStart = none

theorem Unlimited.latestPassed {a : Nat} {s : State} (h : Unlimited a s) : Machine.latestPassed s a = false := by
  unfold Machine.latestPassed
  cases hx : s.slot? a with
  | none => rfl
  | some x =>
    have hlatest := h x (List.mem_of_find?_eq_some hx) (by simpa using List.find?_some hx)
    simp [hlatest]

theorem Unlimited.enterNew {a : Nat} {s : State} (h : Unlimited a s) (z : Nat) (p : Placement) :
    Unlimited a (enterNew z p s) := fun x hx => h x ((enterNew_shrinks z p s).slots.subset hx)

/-- The refusals of an evacuation announcement are its ISOLATED zones and the full queues. -/
theorem refusals_foldl {m : State} {x : Slot} (hx : x.priority = 7) {n : Nat} (hn : x.origin = .evac n) :
    ∀ zs : List Nat, zs.Nodup → (∀ z ∈ zs, (m.zone z).base = .isolated → (m.zone z).covering = none) → Unlimited x.id m →
      let u := zs.foldl (placeIn x) (noCounts, m)
      u.1.full + zs.countP (fun z => decide ((m.zone z).base = .isolated)) = u.1.refused ∧ Unlimited x.id u.2 := by
  intro zs
  induction zs using List.reverseRecOn with
  | nil => exact fun _ _ h => ⟨rfl, h⟩
  | append_singleton done z ih =>
    intro hnodup hiso hm
    rw [List.nodup_append] at hnodup
    obtain ⟨hdone, -, hdisjoint⟩ := hnodup
    have hz : z ∉ done := fun h => hdisjoint z h z (List.mem_singleton_self z) rfl
    have hzone := (tallied_foldl m x done hdone).others z hz
    obtain ⟨hcount, hu⟩ := ih hdone (fun y hy => hiso y (List.mem_append_left _ hy)) hm
    have hizone := hiso z (List.mem_append_right _ (List.mem_singleton_self z))
    dsimp only
    rw [List.foldl_append, List.foldl_cons, List.foldl_nil, List.countP_append, List.countP_singleton]
    generalize hv : done.foldl (placeIn x) (noCounts, m) = v at *
    obtain ⟨k, u⟩ := v
    dsimp only at hzone hcount hu ⊢
    rw [← hzone] at hizone ⊢
    cases hd : deferredHere u x z with
    | true =>
      have hbase : (u.zone z).base ≠ .isolated := by
        unfold deferredHere at hd
        rw [hn] at hd
        simp only [Bool.and_eq_true, decide_eq_true_eq] at hd
        exact hd.1
      rw [placeIn_of_deferred hd, decide_eq_false hbase]
      exact ⟨hcount, hu⟩
    | false =>
      have hreason := refuseReason_of_unlimited (z := z) hx hu.latestPassed
      by_cases heff : effective (u.zone z) = .isolated
      · rw [if_pos heff] at hreason
        rw [placeIn_of_refused hd hreason, decide_eq_true ((effective_isolated_iff _).mp heff).2]
        exact ⟨by dsimp only; rw [if_neg (by decide), if_pos rfl]; omega, hu⟩
      · have hbase : (u.zone z).base ≠ .isolated := fun h => heff ((effective_isolated_iff _).mpr ⟨hizone h, h⟩)
        rw [if_neg heff] at hreason
        rw [decide_eq_false hbase]
        split at hreason
        · rw [placeIn_of_refused hd hreason]
          exact ⟨by dsimp only; rw [if_pos rfl, if_neg Bool.false_ne_true]; omega, hu⟩
        · rw [placeIn_of_placed hd hreason]
          exact ⟨hcount, hu.enterNew z _⟩

/-- What the creation of an activation keeps, counted in the target set of its source (R112, R119). -/
theorem createEvac_counts {w : State} {n : Nat} {a : Nat} {k : Counts} (h : (createEvac n w).1 = .kept a k)
    (hs : w.asc.slots.length ≤ 64) (hcovering : ∀ z ∈ targetSet w [(w.source n).key.target],
      ((w.zone z).base = .isolated → (w.zone z).covering = none) ∧
      ((w.zone z).base ≠ .isolated → ∃ m ≤ n, (w.zone z).covering = some m)) :
    let v := (createEvac n w).2
    let target := (w.source n).key.target
    1 ≤ a ∧ a ≤ 255 ∧ 0 < k.placed ∧
      k.placed + k.refused + deferredCount v n = (targetSet v [target]).length ∧
      k.full + (isolatedZones v target).length = k.refused := by
  set target := (w.source n).key.target with htarget
  have hcreated : (create (evacProto w n) w).1 = .kept a k := h
  obtain ⟨hslot, ha, hk, hpos⟩ := create_kept hcreated
  obtain ⟨hlow, hhigh⟩ := create_kept_id hcreated hs
  have hplays := (createEvac_settles n w).toPlays
  have hset := targetSet_congr hplays.sameSites [target]
  set m := filled (evacProto w n) w with hm
  set x : Slot := { evacProto w n with id := nextId (makeSlot (evacProto w n).priority w) } with hx
  have hmset : targetSet m [target] = targetSet w [target] := targetSet_congr (filled_sites _ _) _
  have hmbase : ∀ z, (m.zone z).base = (w.zone z).base := fun z => ((filled_sites (evacProto w n) w).site z).base
  have hmcovering : ∀ z, (m.zone z).covering = (w.zone z).covering := fun z =>
    (makeSlot_settles (evacProto w n).priority w).toPlays.covering z
  have hnodup : (targetSet w [target]).Nodup := (targetSet_nodup w [target]).imp Nat.ne_of_lt
  have hunlimited : Unlimited x.id m := fun y hy hid => by
    have hfree := Option.isNone_iff_eq_none.mp (nextId_spec (s := makeSlot (evacProto w n).priority w)
      (Nat.lt_trans (makeSlot_length hslot hs) (by decide))).1
    rcases List.mem_append.mp hy with hold | hnew
    · exact absurd hid (by simpa using List.find?_eq_none.mp hfree y hold)
    · rw [List.mem_singleton.mp hnew]
      rfl
  have hplacings : placings (evacProto w n) w = (targetSet w [target]).foldl (placeIn x) (noCounts, m) := by
    rw [placings_eq, ← hm, ← hx, ← hmset]
    rfl
  have htally := (tallied_foldl m x (targetSet w [target]) hnodup).total
  have hrefused := (refusals_foldl (m := m) (x := x) (n := n) rfl rfl (targetSet w [target]) hnodup
    (fun z hz hiso => (hmcovering z).trans ((hcovering z hz).1 ((hmbase z).symm.trans hiso))) hunlimited).1
  rw [← hplacings, ← hk] at htally hrefused
  refine ⟨hlow, hhigh, hpos, ?_, ?_⟩
  · have hdeferred : deferredCount (createEvac n w).2 n = (targetSet w [target]).countP (deferredHere m x) := by
      have hkey : ((createEvac n w).2.source n).key = (w.source n).key :=
        (congrArg Source.key (hplays.source_standing n) :)
      unfold deferredCount
      rw [hkey, ← htarget, hset]
      refine List.countP_congr fun z hz => ?_
      obtain ⟨hiso, hother⟩ := hcovering z hz
      rw [hplays.base, hplays.covering]
      unfold deferredHere
      rw [hmbase, hmcovering]
      by_cases hbase : (w.zone z).base = .isolated
      · simp [hx, evacProto, hbase]
      · obtain ⟨b, hb, hcov⟩ := hother hbase
        simp only [hx, evacProto, hcov, Option.some.injEq, ne_eq, Bool.and_eq_true, decide_eq_true_eq]
        exact and_congr_right fun _ => by omega
    rw [hdeferred, hset]
    exact htally
  · have hiso : isolatedZones (createEvac n w).2 target =
        (targetSet w [target]).filter (fun z => decide ((m.zone z).base = .isolated)) := by
      unfold isolatedZones
      rw [hset]
      exact List.filter_congr fun z _ => by rw [hplays.base, hmbase]
    rw [hiso, ← List.countP_eq_length_filter]
    exact hrefused

end Sys2Proof.Machine


/-! PROOFS. The settlement of EVAC_START and EVAC_CLEAR (R113, R121). -/

namespace Sys2Proof.Machine

open Sys2Proof.Claims

/-! ### EVAC_START -/

section
variable {s : State} {n : Nat} {key : SourceKey} {latched : Bool}

theorem activateEntry_capacity (hs : s.asc.slots.length ≤ 64) : (activateEntry n key latched s).asc.slots.length ≤ 64 := by
  have hplayer : Player (Ages fun _ => True) := ages_player fun _ => trivial
  have hzone : ∀ z u, Ages (fun _ => True) u (recomputeZone false z u) := fun z u =>
    hplayer.recomputeZone_of (ages_of_asc (Eq.refl _)) (fun _ _ _ => ages_of_asc (Eq.refl _)) false
  have hentry : Ages (fun _ => True) s (activateEntry n key latched s) :=
    (ages_of_asc (s := s) (t := s.modifySource n fun _ => _) rfl).trans (hplayer.forEach hzone _)
  exact hentry.capacity hs

theorem createEvac_voice (h : n < s.zrt.sources.length) :
    ((createEvac n s).2.source n).voice = voiceOf (createEvac n s).1 := by
  have hcreated : n < (create (evacProto s n) s).2.zrt.sources.length := by
    rw [(create_settles _ s).toPlays.sameSites.sources]
    exact h
  exact congrArg Source.voice (source_modifySource_of_lt hcreated fun e => { e with voice := voiceOf (createEvac n s).1 })

/-- What an activation does with the part beside its own entry and its coverage is work on announcements. -/
theorem activate_plays (n : Nat) (key : SourceKey) (latched : Bool) (s : State) :
    Plays (activateEntry n key latched s) (activate n key latched s).2 := by
  have hcreated := createEvac_settles n (activateEntry n key latched s)
  cases hw : createEvac n (activateEntry n key latched s) with
  | mk r w =>
    rw [hw] at hcreated
    rw [activate_eq n key latched s hw rfl]
    exact (hcreated.trans ((settle_settles w).trans ((generate_settles _ _).trans
      ((emergencyEvent_settles _).trans (settle_settles _))))).toPlays

theorem activate_created (n : Nat) (key : SourceKey) (latched : Bool) (s : State) :
    (activate n key latched s).1 = (createEvac n (activateEntry n key latched s)).1 := rfl

/-- The entry that an activation writes (R112). -/
theorem activate_standing (n : Nat) (key : SourceKey) (latched : Bool) (s : State) :
    (activate n key latched s).2.zrt.sources.map standing =
      (s.zrt.sources.map standing).set n { state := .active, key := key, latched := latched, voice := .none } := by
  rw [(activate_plays n key latched s).sources, (activateEntry_reaches n key latched s).sources]
  exact map_modify_eq_set (d := coldSource) rfl

theorem activate_bases (n : Nat) (key : SourceKey) (latched : Bool) (s : State) :
    (activate n key latched s).2.zrt.zones.map Zone.base = s.zrt.zones.map Zone.base :=
  (activate_plays n key latched s).bases.trans (activateEntry_reaches n key latched s).bases

end

/-! ### EVAC_CLEAR -/

/-- A pass of recomputations leaves the coverage of the other zones. -/
theorem forEach_recomputeZone_others {place : Bool} {y : Nat} : ∀ {zs : List Nat} {s : State}, y ∉ zs →
    ((forEach zs (recomputeZone place) s).zone y).covering = (s.zone y).covering
  | [], _, _ => rfl
  | z :: zs, s, h => by
    obtain ⟨hyz, hzs⟩ := List.ne_and_not_mem_of_not_mem_cons h
    refine (forEach_recomputeZone_others (s := recomputeZone place z s) hzs).trans ?_
    by_cases hz : z < s.zrt.zones.length
    · exact (recomputeZone_recovers hz place).others y hyz
    · rw [recomputeZone_of_le (Nat.le_of_not_lt hz)]

section
variable {s : State} {n : Nat}

/-- A clearing, up to work on announcements: the entry released, the zones it covered recomputed. -/
theorem clearSource_spec (n : Nat) (s : State) : ∃ w, Plays (s.modifySource n releasedEntry) w ∧
    Plays (forEach (coveredBy s n) (recomputeZone true) w) (clearSource n s) :=
  ⟨_, (withdrawVoice_settles (s.source n).voice _).toPlays,
    ((judgeHold_settles _).trans ((generate_settles _ _).trans (settle_settles _))).toPlays⟩

theorem clearSource_reaches (n : Nat) (s : State) : Reaches (s.modifySource n releasedEntry) (clearSource n s) := by
  obtain ⟨w, hw, hclear⟩ := clearSource_spec n s
  exact (hw.reaches.trans (forEach_reaches (fun z u => recomputeZone_reaches true z u) w)).trans hclear.reaches

theorem lt_length_of_covering {z m : Nat} (h : (s.zone z).covering = some m) : z < s.zrt.zones.length := by
  by_contra hle
  rw [zone_of_le (Nat.le_of_not_lt hle)] at h
  cases h

/-- A clearing takes the source's zones from it and leaves the coverage of the others (R121). -/
theorem clearSource_covering (hactive : (s.source n).state = .active) {z : Nat} (hz : z < 40) :
    ((clearSource n s).zone z).covering ≠ some n ∧
      ((s.zone z).covering ≠ some n → ((clearSource n s).zone z).covering = (s.zone z).covering) := by
  obtain ⟨w, hw, hclear⟩ := clearSource_spec n s
  have hmem : z ∈ coveredBy s n ↔ (s.zone z).covering = some n := by
    simp [coveredBy, allZones, Config.maxZones, hz]
  have hother : (s.zone z).covering ≠ some n → ((clearSource n s).zone z).covering = (s.zone z).covering := fun hne => by
    rw [hclear.covering, forEach_recomputeZone_others (fun h => hne (hmem.mp h)), hw.covering]
    rfl
  refine ⟨fun hstill => ?_, hother⟩
  by_cases hcov : (s.zone z).covering = some n
  · have hlt : z < w.zrt.zones.length := by
      rw [hw.sameSites.length]
      exact lt_length_of_covering hcov
    have hcovered := hclear.covered (forEach_recomputeZone_covered (place := true) (hmem.mpr hcov) hlt)
    have hcovers := (coveringOf_eq_some (hcovered.symm.trans hstill)).1
    have hn : n < s.zrt.sources.length := by
      by_contra hle
      unfold State.source at hactive
      rw [List.getD_eq_default _ _ (Nat.le_of_not_lt hle)] at hactive
      cases hactive
    have hstanding : standing ((clearSource n s).source n) = standing (releasedEntry (s.source n)) := by
      rw [← source_modifySource_of_lt hn releasedEntry]
      exact getD_of_map_eq (clearSource_reaches n s).sources coldSource n
    have hstate : ((clearSource n s).source n).state = .inactive := (congrArg Source.state hstanding :)
    unfold covers at hcovers
    rw [hstate] at hcovers
    cases hcovers
  · exact hcov ((hother hcov).symm.trans hstill)

/-- The body of an accepted EVAC_CLEAR counts the zones handed over, then those released (R121). -/
theorem clearEvac_counts (s u : State) (n : Nat) :
    let handed := (coveredBy s n).countP (fun z => (u.zone z).covering.isSome)
    handed = (List.range 40).countP (fun z => decide ((s.zone z).covering = some n) && (u.zone z).covering.isSome) ∧
      (coveredBy s n).length - handed =
        (List.range 40).countP (fun z => decide ((s.zone z).covering = some n) && (u.zone z).covering.isNone) := by
  have hsplit := List.length_eq_countP_add_countP (fun z => (u.zone z).covering.isSome) (l := coveredBy s n)
  have hnone : (coveredBy s n).countP (fun z => decide ¬ ((u.zone z).covering.isSome = true)) =
      (coveredBy s n).countP (fun z => (u.zone z).covering.isNone) :=
    List.countP_congr fun z _ => by simp
  have hcount : ∀ p : Nat → Bool, (coveredBy s n).countP p =
      (List.range 40).countP (fun z => decide ((s.zone z).covering = some n) && p z) := fun p => by
    unfold coveredBy allZones
    rw [List.countP_filter]
    exact List.countP_congr fun z _ => by rw [Bool.and_comm]
  refine ⟨hcount _, ?_⟩
  rw [← hcount fun z => (u.zone z).covering.isNone, ← hnone]
  omega

theorem clearEvac_of_active (hn : n ≤ 7) (hactive : (s.source n).state = .active) : clearEvac n s =
    (panelHold s n).elim
      (accept false (u8 ((coveredBy s n).countP (fun z => ((clearSource n s).zone z).covering.isSome)) ++
        u8 ((coveredBy s n).length - (coveredBy s n).countP (fun z => ((clearSource n s).zone z).covering.isSome))),
        clearSource n s)
      (fun i => (.refused .inputActive i, s)) := by
  unfold clearEvac
  rw [if_neg (show ¬ Config.maxSources ≤ n by simp [Config.maxSources]; omega), if_neg (not_not.mpr hactive)]
  cases panelHold s n <;> rfl

end

theorem hostKey_eq (r : EvacStartReq) : hostKey r =
    { kind := .host, target := { address := BitVec.ofNat 12 r.address, mask := BitVec.ofNat 12 r.mask }
      template := r.template, interval := max 10 (min 600 r.interval) } := by
  unfold hostKey clampInterval
  rw [clampNat_eq (by decide)]

theorem key_of_standing {e f : Source} (h : standing e = standing f) : e.key = f.key := (congrArg Source.key h :)

/-- What an EVAC_START that activates leaves and counts (R112, R113). -/
theorem startEvac_spec {s : State} {r : EvacStartReq} {n : Nat} (hlen : s.zrt.sources.length = 8) (hn : n < 8) :
    let key := hostKey r
    let w := activateEntry n key false s
    let v := createEvac n w
    let u := (activate n key false s).2
    evacBody n (activate n key false s).1 u = u8 n ++ u8 (createdId v.1) ++ u8 (coveredCount u n) ++ u8 (deferredCount u n) ++
        u8 (isolatedZones u key.target).length ++ u8 (createdFull v.1) ∧
      evacProto w n = { id := 0, seq := 0, priority := 7, origin := .evac n
                        content := .template key.template, call := none, chime := none
                        repeats := .continuous, interval := key.interval, latestStart := none
                        target := [key.target], withdrawn := false } ∧
      (v.2.source n).voice = voiceOf v.1 ∧
      (s.asc.slots.length ≤ 64 → ∀ a k, v.1 = .kept a k → 1 ≤ a ∧ a ≤ 255 ∧ 0 < k.placed ∧
        k.placed + k.refused + deferredCount v.2 n = (targetSet v.2 [key.target]).length ∧
        k.full + (isolatedZones v.2 key.target).length = k.refused) := by
  have hlt : n < s.zrt.sources.length := hlen ▸ hn
  have hentry := activateEntry_source (key := hostKey r) (latched := false) hlt
  have hkey : ((activateEntry n (hostKey r) false s).source n).key = hostKey r := (congrArg Source.key hentry :)
  have hreaches := activateEntry_reaches n (hostKey r) false s
  dsimp only
  refine ⟨?_, ?_, createEvac_voice ?_, fun hs a k hk => ?_⟩
  · have hsource := (activate_plays n (hostKey r) false s).source_standing n
    have hfinal : ((activate n (hostKey r) false s).2.source n).key = hostKey r := (key_of_standing hsource).trans hkey
    unfold evacBody
    rw [hfinal, activate_created]
  · unfold evacProto
    rw [hkey]
  · rw [hreaches.sameSites.sources]
    simpa [State.modifySource] using hlt
  · have hcounts := createEvac_counts hk (activateEntry_capacity hs) fun z hz =>
      activateEntry_covering hn hlt (by rwa [hkey] at hz)
    rw [hkey] at hcounts
    exact hcounts

/-- Settles O49. -/
theorem evacuationsAreStartedAndCleared : Obligations.EvacuationsAreStartedAndCleared := by
  unfold Obligations.EvacuationsAreStartedAndCleared
  refine ⟨fun tag r s s0 h => ?_, fun tag n s s0 h => ⟨fun hn => ?_, fun hn =>
    ⟨fun hidle => ?_, fun hactive hkind i hi => ?_, fun hactive hfree => ?_⟩⟩⟩
  · rw [← hostKey_eq]
    refine ⟨fun hbad => ?_, fun ha hmask ht clamped hclamped => ?_⟩
    · exact onlyAnswers_of_owner_eq h (if_pos ((evacOutOfRange_iff r).mpr hbad))
    have hrange : evacOutOfRange r = false := by
      rw [← Bool.not_eq_true, evacOutOfRange_iff]
      omega
    have hflag : decide (clampInterval r.interval ≠ r.interval) = clamped := by
      rw [Bool.eq_iff_iff, hclamped, decide_eq_true_eq]
      exact clampNat_ne (show 10 ≤ 600 by decide) _
    refine ⟨fun n hn => ?_, fun hno => ⟨fun hfull => ?_, fun hlen n hn => ?_⟩⟩
    · exact onlyAnswers_of_owner_eq h (by rw [← hflag]; exact startEvac_of_active hrange (activeWithKey_eq_some.mp hn))
    · exact onlyAnswers_of_owner_eq h
        (startEvac_of_full hrange (activeWithKey_eq_none.mp hno) (findEntry_eq_none hfull))
    · obtain ⟨hn8, -⟩ := activationEntry_idle hno hn
      obtain ⟨hbody, hproto, hvoice, hcounts⟩ := startEvac_spec (r := r) hlen hn8
      refine ⟨_, ?_, hproto, hvoice, hcounts, (activate_reroutes n (hostKey r) false s0).toRoutes,
        activate_bases n (hostKey r) false s0, activate_standing n (hostKey r) false s0⟩
      rw [← hbody, ← hflag]
      exact exec_of_owner_eq h (startEvac_of_entry hrange (activeWithKey_eq_none.mp hno) (findEntry_of_activationEntry hn))
  · exact onlyAnswers_of_owner_eq h (if_pos hn)
  · exact onlyAnswers_of_owner_eq h ((if_neg (Nat.not_le.mpr (Nat.lt_succ_of_le hn))).trans (if_pos hidle))
  · have hhold : panelHold s0 n = some i := (if_pos hkind).trans ((holdingInput_eq_some (f := panelFunction (s0.source n).key) (by simp [panelFunction]) i).mp hi)
    refine onlyAnswers_of_owner_eq h ((clearEvac_of_active hn hactive).trans ?_)
    rw [hhold, Option.elim_some]
  · have hhold : panelHold s0 n = none := by
      unfold panelHold
      split
      next hinput =>
        refine holdingInput_eq_none fun i hi => hfree.resolve_left (fun hhost => ?_) i hi
        rw [hhost] at hinput
        cases hinput
      · rfl
    obtain ⟨hhanded, hreleased⟩ := clearEvac_counts s0 (clearSource n s0) n
    have hreaches := clearSource_reaches n s0
    refine ⟨clearSource n s0, ?_, (clearSource_reroutes n s0).toRoutes, hreaches.bases,
      hreaches.sources.trans (map_modify_eq_set (d := coldSource) rfl), fun z hz => (clearSource_covering hactive hz).1,
      fun z hz => (clearSource_covering hactive hz).2⟩
    rw [← hreleased, ← hhanded]
    refine exec_of_owner_eq h ((clearEvac_of_active hn hactive).trans ?_)
    rw [hhold, Option.elim_none]
    rfl

end Sys2Proof.Machine


/-! PROOFS. A debounce expiry as a transition of its input (R56 to R58, R64), and what it hands on. -/

namespace Sys2Proof.Machine

open Sys2Proof.Claims

/-! ### OR sets -/

theorem setActive_iff (s : State) (f : InputFunction) : SetActive s f ↔ setActive s.fiu.inputs f = true := by
  unfold SetActive setActive membersOf
  split
  next hf => simp [hf]
  next hf => simp [hf]

theorem setSense_eq_level (s : State) (f : InputFunction) (hf : f ≠ .general) :
    setSense s.fiu.inputs f = .level ↔ SetLevel s f := by
  have hsense : ∀ e : Sense, e ≠ .edge ↔ e = .level := fun e => by cases e <;> decide
  unfold setSense membersOf SetLevel
  rw [if_neg hf]
  split
  next h =>
    simp only [List.any_eq_true, List.mem_filter, decide_eq_true_eq] at h
    obtain ⟨i, ⟨hi, hfun⟩, hedge⟩ := h
    refine ⟨(fun h => by cases h), fun h => ?_⟩
    rw [h i hi hfun] at hedge
    cases hedge
  next h =>
    simp only [List.any_eq_true, List.mem_filter, decide_eq_true_eq, not_exists, not_and] at h
    exact ⟨fun _ i hi hfun => (hsense _).mp (h i ⟨hi, hfun⟩), fun _ => rfl⟩

/-! ### Work that hands an edge on -/

/-- `t` is `s` after work on calls beside what `Routes` allows. -/
structure Hands (s t : State) : Prop where
  routes : Routes s (t.withTtu s.ttu)
  plans : t.ttu.plans = s.ttu.plans

theorem Routes.hands {s t : State} (h : Routes s t) : Hands s t := ⟨{ h with ttu := rfl }, by rw [h.ttu]⟩

theorem Hands.trans {s t u : State} (h : Hands s t) (g : Hands t u) : Hands s u :=
  ⟨h.routes.trans { g.routes with ttu := Eq.refl _ }, g.plans.trans h.plans⟩

theorem Retimes.hands {s t : State} (h : Retimes s t) : Hands s t := ⟨h.rest.toPlays.routes, h.plans⟩

theorem handEdge_hands (f : InputFunction) (active : Bool) (t : Capture) (n : Nat) (s : State) :
    Hands s (handEdge f active t n s) := by
  unfold handEdge
  split
  · exact (trainActive_retimes _ _ _ s).hands
  · exact (trainInactive_retimes _ _ _ s).hands
  · exact (dispatchActive_retimes _ _ _ s).hands
  · exact (closureActive_reroutes _ s).toRoutes.hands
  · exact (closureInactive_reroutes _ _ s).toRoutes.hands
  · exact (panelActive_reroutes _ _ s).toRoutes.hands
  · exact (Plays.rfl s).routes.hands

/-! ### The expiry -/

theorem activeInput_eq (i : Input) : activeInput i = activeAt i.polarity i.stable := by
  unfold activeInput activeAt
  cases i.polarity <;> rfl

/-- The record after a transition (R56, R57). -/
theorem transitioned_eq (level : Bool) (i : Input) : transitioned level i =
    { i with
      stable := level, debounce := none
      pending := (decide (i.sense = .edge) && i.pending) || activeAt i.polarity level } := by
  have hactive : activeInput { i with stable := level, debounce := none } = activeAt i.polarity level := activeInput_eq _
  unfold transitioned
  dsimp only
  rw [hactive]
  cases hs : i.sense <;> rfl

/-- The state after steps 1 to 3 of an expiry of input `n` to `level` (R56). -/
def turned (n : Nat) (level : Bool) (s : State) : State :=
  reportStatus n (statusInput (s.input n)) s.capture (s.modifyInput n (transitioned level))

/-- The state after step 4, the wake request (R65). -/
def woken (n : Nat) (s : State) : State :=
  if activeInput (s.input n) ∧ (s.input n).wake then wakeRequest n s else s

theorem turned_plays (n : Nat) (level : Bool) (s : State) : Plays (s.modifyInput n (transitioned level)) (turned n level s) := by
  unfold turned reportStatus
  split
  · exact (generate_settles _ _).toPlays
  · exact .rfl _

theorem woken_plays (n : Nat) (s : State) : Plays s (woken n s) := by
  unfold woken
  split
  · exact (wakeRequest_settles n s).toPlays
  · exact .rfl s

/-- Steps 1 to 4 of an expiry, which the set's owner finds done. -/
theorem awake_plays (n : Nat) (level : Bool) (s : State) :
    Plays (s.modifyInput n (transitioned level)) (woken n (turned n level s)) :=
  (turned_plays n level s).trans (woken_plays n _)

theorem expireTo_eq (n : Nat) (level : Bool) (s : State) : expireTo n level s =
    settle (if setActive s.fiu.inputs (s.input n).function = setActive (turned n level s).fiu.inputs (s.input n).function
      then woken n (turned n level s)
      else handEdge (s.input n).function (setActive (turned n level s).fiu.inputs (s.input n).function) s.capture n
        (woken n (turned n level s))) := rfl

section
variable {n : Nat} {level : Bool} {s : State}

theorem expireTo_fiu : (expireTo n level s).fiu = (s.modifyInput n (transitioned level)).fiu := by
  rw [expireTo_eq, (settle_settles _).toPlays.fiu]
  split
  · exact (awake_plays n level s).fiu
  · exact (handEdge_hands _ _ _ _ _).routes.fiu.trans (awake_plays n level s).fiu

theorem setActive_expireTo : SetActive (expireTo n level s) (s.input n).function ↔
    setActive (turned n level s).fiu.inputs (s.input n).function = true := by
  rw [setActive_iff, expireTo_fiu, (turned_plays n level s).fiu]

/-- Where the set keeps its activity nothing is handed on (R64). -/
theorem expireTo_of_same (h : SetActive s (s.input n).function ↔ SetActive (expireTo n level s) (s.input n).function) :
    expireTo n level s = settle (woken n (turned n level s)) := by
  rw [setActive_iff, setActive_expireTo, ← Bool.eq_iff_iff] at h
  rw [expireTo_eq, if_pos h]

theorem expireTo_of_rise (h : Rises s (expireTo n level s) (s.input n).function) : expireTo n level s =
    settle (handEdge (s.input n).function true s.capture n (woken n (turned n level s))) := by
  obtain ⟨hbefore, hafter⟩ := h
  rw [setActive_iff, Bool.not_eq_true] at hbefore
  rw [setActive_expireTo] at hafter
  rw [expireTo_eq, hbefore, hafter, if_neg Bool.false_ne_true]

theorem expireTo_of_fall (h : Falls s (expireTo n level s) (s.input n).function) : expireTo n level s =
    settle (handEdge (s.input n).function false s.capture n (woken n (turned n level s))) := by
  obtain ⟨hbefore, hafter⟩ := h
  rw [setActive_iff] at hbefore
  rw [setActive_expireTo, Bool.not_eq_true] at hafter
  rw [expireTo_eq, hbefore, hafter, if_neg Bool.noConfusion]

/-- The set of the input keeps its activity, rises or falls. -/
theorem edge_cases (s t : State) (f : InputFunction) : (SetActive s f ↔ SetActive t f) ∨ Rises s t f ∨ Falls s t f := by
  unfold Rises Falls
  tauto

/-- What an expiry does from its event on. -/
theorem turned_expireTo_hands (n : Nat) (level : Bool) (s : State) : Hands (turned n level s) (expireTo n level s) := by
  have hwoken : Hands _ _ := (woken_plays n (turned n level s)).routes.hands
  rw [expireTo_eq]
  split
  · exact hwoken.trans (settle_settles _).toPlays.routes.hands
  · exact (hwoken.trans (handEdge_hands ..)).trans (settle_settles _).toPlays.routes.hands

theorem expireTo_hands (n : Nat) (level : Bool) (s : State) :
    Hands (s.modifyInput n (transitioned level)) (expireTo n level s) :=
  (turned_plays n level s).routes.hands.trans (turned_expireTo_hands n level s)

theorem takeExpiry_of_due {d : Debounce} (hd : (s.input n).debounce = some d) (hdue : d.due = true) :
    takeExpiry n s = expireTo n d.candidate s := by
  unfold takeExpiry
  rw [hd]
  exact if_pos hdue

/-- The command takes the expiry that is due. -/
theorem exec_debounceExpiry {d : Debounce} (hs : s.resetLine = false) (hd : (s.input n).debounce = some d)
    (hdue : d.due = true) : exec (.debounceExpiry n) s = .next (expireTo n d.candidate s) := by
  have hrun : exec (.debounceExpiry n) s = .next (takeExpiry n s) := exec_of_running rfl (fun _ => rfl) hs
  rw [hrun, takeExpiry_of_due hd hdue]

theorem lt_inputs_of_debounce {d : Debounce} (hd : (s.input n).debounce = some d) : n < s.fiu.inputs.length := by
  by_contra hle
  unfold State.input at hd
  rw [List.getD_eq_default _ _ (Nat.le_of_not_lt hle)] at hd
  cases hd

/-- A transition leaves the functions and the senses of the inputs. -/
theorem setLevel_modifyInput (f : InputFunction) :
    SetLevel (s.modifyInput n (transitioned level)) f ↔ SetLevel s f := by
  have hkept : ∀ i, (transitioned level i).function = i.function ∧ (transitioned level i).sense = i.sense := fun i => by
    rw [transitioned_eq]
    exact ⟨rfl, rfl⟩
  have hmap : (s.modifyInput n (transitioned level)).fiu.inputs.map (fun i => (i.function, i.sense)) =
      s.fiu.inputs.map (fun i => (i.function, i.sense)) :=
    map_modify (g := fun i : Input => (i.function, i.sense)) (fun i => by rw [(hkept i).1, (hkept i).2]) _ _
  have hlevel : ∀ u : State, SetLevel u f ↔ ∀ p ∈ u.fiu.inputs.map (fun i => (i.function, i.sense)), p.1 = f → p.2 = .level :=
    fun u => by simp [SetLevel]
  rw [hlevel, hlevel, hmap]

end

end Sys2Proof.Machine


/-! PROOFS. The settlement of the debounce expiry (R56, R65): its record, its event, its wake. -/

namespace Sys2Proof.Machine

open Sys2Proof.Claims

/-! ### The mode after an edge -/

theorem mem_modify_const {α : Type} {x y : α} : ∀ {l : List α} {i : Nat}, x ∈ l → x ∈ l.modify i (fun _ => y) ∨
    y ∈ l.modify i (fun _ => y)
  | a :: l, 0, _ => .inr (by simp)
  | a :: l, i + 1, h => by
    rw [List.modify_succ_cons]
    rcases List.mem_cons.mp h with rfl | h
    · exact .inl List.mem_cons_self
    · exact (mem_modify_const h).imp (List.mem_cons_of_mem _) (List.mem_cons_of_mem _)

/-- An entry made ACTIVE leaves the mode, and a source ACTIVE where one was. -/
theorem activateSource_drifts {n : Nat} {e : Source} (he : e.state = .active) (s : State) :
    Drifts s (s.modifySource n (fun _ => e)) where
  slides := .stay _
  loud _ h := h
  ends := rfl
  alarmed := fun ⟨x, hx, hstate⟩ => (mem_modify_const (y := e) (i := n) hx).elim (fun h => ⟨x, h, hstate⟩) fun h => ⟨e, h, he⟩

theorem activate_drifts (n : Nat) (key : SourceKey) (latched : Bool) (s : State) : Drifts s (activate n key latched s).2 := by
  have hentry : Drifts s (activateEntry n key latched s) :=
    (activateSource_drifts rfl s).trans (activateEntry_drifts n key latched s)
  have hcreated := drift_player.createEvac n (activateEntry n key latched s)
  cases hw : createEvac n (activateEntry n key latched s) with
  | mk r w =>
    rw [hw] at hcreated
    rw [activate_eq n key latched s hw rfl]
    exact (hentry.trans hcreated).trans ((drift_player.settle w).trans ((drift_player.generate _ _).trans
      ((drift_player.emergency _).trans (drift_player.settle _))))

theorem handEdge_drifts (f : InputFunction) (active : Bool) (t : Capture) (n : Nat) (s : State) :
    Drifts s (handEdge f active t n s) := drift_router.handEdge activate_drifts f active t n s

theorem modeAfter_open_congr {s t : State} (h : t.smc.mode = s.smc.mode) (e : RunTime) (hold : Option RunTime) :
    modeAfter 1 t e hold = modeAfter 1 s e hold := by
  unfold modeAfter
  rw [h]
  cases s.smc.mode <;> rfl

/-- The modes that a request for OPEN leaves move on only by another request. -/
theorem Slides.of_requestOpen {s : State} {ends e : RunTime} {hold : Option RunTime} {m : Mode}
    (h : Slides ends (modeAfter 1 s e hold) m) : m = modeAfter 1 s e hold := by
  unfold modeAfter at h ⊢
  cases hm : s.smc.mode with
  | opn | winding | night | nightAlert x | warming t x =>
    rw [hm] at h
    cases h
    rfl

section
variable {n : Nat} {level : Bool} {s : State}

theorem turned_smc (n : Nat) (level : Bool) (s : State) : (turned n level s).smc = s.smc := by
  unfold turned reportStatus
  split <;> rfl

/-- The mode after an expiry that wakes is the one its request asks for (R65). -/
theorem expireTo_mode (hactive : activeInput ((turned n level s).input n) = true)
    (hwake : ((turned n level s).input n).wake = true) :
    (expireTo n level s).smc.mode = modeAfter 1 s (s.clock.runTime + BitVec.ofNat 32 (10 * s.smc.warmUp)) none := by
  have hsmc := turned_smc n level s
  have hclock : (turned n level s).clock = s.clock := (turned_plays n level s).clock
  have hsame : modeAfter 1 (turned n level s)
      ((turned n level s).clock.runTime + BitVec.ofNat 32 (10 * (turned n level s).smc.warmUp)) none =
      modeAfter 1 s (s.clock.runTime + BitVec.ofNat 32 (10 * s.smc.warmUp)) none := by
    rw [hsmc, hclock]
    exact modeAfter_open_congr (congrArg Smc.mode hsmc) _ _
  have hwoken : (woken n (turned n level s)).smc.mode =
      modeAfter 1 s (s.clock.runTime + BitVec.ofNat 32 (10 * s.smc.warmUp)) none := by
    unfold woken
    rw [if_pos ⟨hactive, hwake⟩, ← hsame]
    exact (requestOpen_mode (.wake n) (turned n level s) none).1
  have hdrifts : Drifts (woken n (turned n level s)) (expireTo n level s) := by
    rw [expireTo_eq]
    split
    · exact drift_player.settle _
    · exact (handEdge_drifts ..).trans (drift_player.settle _)
  have hslides := hdrifts.slides
  rw [hwoken] at hslides
  exact hslides.of_requestOpen

end

/-- Settles O38. -/
theorem aDebounceExpiryIsATransition : Obligations.ADebounceExpiryIsATransition := by
  unfold Obligations.ADebounceExpiryIsATransition
  intro n s hs
  refine ⟨fun hnot => ?_, fun d hd hdue => ?_⟩
  · have hrun : exec (.debounceExpiry n) s = .next (takeExpiry n s) := exec_of_running rfl (fun _ => rfl) hs
    rw [hrun, takeExpiry_of_notDue hnot]
  have hn := lt_inputs_of_debounce hd
  have hfiu : (expireTo n d.candidate s).fiu = (s.modifyInput n (transitioned d.candidate)).fiu := expireTo_fiu
  have hbase : s.withFiu (expireTo n d.candidate s).fiu = s.modifyInput n (transitioned d.candidate) := by
    rw [hfiu]
    rfl
  have hinput : (s.modifyInput n (transitioned d.candidate)).input n = transitioned d.candidate (s.input n) :=
    input_modifyInput_of_lt hn _
  have hturned : (turned n d.candidate s).input n = transitioned d.candidate (s.input n) := by
    rw [← hinput]
    exact congrArg (fun f : Fiu => f.inputs.getD n coldInput) (turned_plays n d.candidate s).fiu
  have hands := expireTo_hands n d.candidate s
  refine ⟨_, exec_debounceExpiry hs hd hdue, ?_, ?_, hands.plans, fun hsame => ?_, fun hclear hset => ?_,
    fun hactive hwake => expireTo_mode ?_ ?_⟩
  · rw [hfiu]
    exact congrArg (fun f => { s.fiu with inputs := s.fiu.inputs.modify n f }) (funext (transitioned_eq d.candidate))
  · rw [hbase]
    exact hands.routes
  · have hplays : Plays (s.modifyInput n (transitioned d.candidate)) (expireTo n d.candidate s) := by
      rw [expireTo_of_same hsame]
      exact (awake_plays n d.candidate s).trans (settle_settles _).toPlays
    rw [hbase]
    exact ⟨hplays.ttu, hplays⟩
  · have hrecord : (expireTo n d.candidate s).input n = transitioned d.candidate (s.input n) := by
      rw [← hinput]
      exact congrArg (fun f : Fiu => f.inputs.getD n coldInput) hfiu
    rw [hrecord] at hset
    have hevent : turned n d.candidate s = generate (.inputEvent n (s.input n).function d.candidate
        { time := s.clock.service, held := s.clock.held }) (s.withFiu (expireTo n d.candidate s).fiu) := by
      rw [hbase]
      unfold turned
      rw [hclear, reportStatus_of_set (by rwa [hinput]), hinput, transitioned_eq]
      rfl
    have hturn := turned_expireTo_hands n d.candidate s
    rw [hevent] at hturn
    exact hturn.routes
  · rw [hturned, transitioned_eq, activeInput_eq]
    exact hactive
  · rw [hturned, transitioned_eq]
    exact hwake

end Sys2Proof.Machine


/-! PROOFS. The edges of PLATFORM_CLOSE and FIRE_PANEL sets (R71, R114, R123). -/

namespace Sys2Proof.Machine

open Sys2Proof.Claims

/-! ### Entries of the source table, seen through their standing -/

theorem state_of_standing {e f : Source} (h : standing e = standing f) : e.state = f.state := (congrArg Source.state h :)

section
variable {s t : State}

theorem noEntry_congr (h : ∀ m, standing (t.source m) = standing (s.source m)) {which : Source → Prop}
    (hw : ∀ e f, standing e = standing f → (which e ↔ which f)) : NoEntry t which ↔ NoEntry s which := by
  unfold NoEntry
  exact forall₂_congr fun m _ => not_congr (hw _ _ (h m))

theorem entryFor_congr (h : ∀ m, standing (t.source m) = standing (s.source m)) {which : Source → Prop}
    (hw : ∀ e f, standing e = standing f → (which e ↔ which f)) (n : Nat) : EntryFor t which n ↔ EntryFor s which n := by
  unfold EntryFor
  exact and_congr_right fun _ => and_congr (hw _ _ (h n)) (forall₂_congr fun m _ => not_congr (hw _ _ (h m)))

theorem activationEntry_congr (h : ∀ m, standing (t.source m) = standing (s.source m)) (key : SourceKey) (n : Nat) :
    ActivationEntry t key n ↔ ActivationEntry s key n := by
  have hkey : ∀ e f : Source, standing e = standing f → ((e.state ≠ .free ∧ e.key = key) ↔ (f.state ≠ .free ∧ f.key = key)) :=
    fun e f he => by rw [state_of_standing he, key_of_standing he]
  have hstate : ∀ x, ∀ e f : Source, standing e = standing f → (e.state = x ↔ f.state = x) :=
    fun x e f he => by rw [state_of_standing he]
  unfold ActivationEntry
  rw [entryFor_congr h hkey, noEntry_congr h hkey, entryFor_congr h (hstate _), noEntry_congr h (hstate _),
    entryFor_congr h (hstate _)]

end

/-! ### The edges -/

section
variable {z : Nat} {s : State}

theorem closureActive_of_opn (h : (s.zone z).base = .opn) : closureActive z s = changeBase z .closed .input s := if_pos h

theorem closureActive_of_ne (h : (s.zone z).base ≠ .opn) : closureActive z s = s := if_neg h

theorem changeBase_bases (z : Nat) (b : Base) (cause : ZoneCause) (s : State) :
    (changeBase z b cause s).zrt.zones.map Zone.base = (s.zrt.zones.map Zone.base).set z b :=
  (changeBase_reaches z b cause s).1.bases.trans (writeBase_bases z b s)

theorem changeBase_sources (z : Nat) (b : Base) (cause : ZoneCause) (s : State) :
    (changeBase z b cause s).zrt.sources.map standing = s.zrt.sources.map standing :=
  (changeBase_reaches z b cause s).1.sources

theorem closureActive_sources (z : Nat) (s : State) :
    (closureActive z s).zrt.sources.map standing = s.zrt.sources.map standing := by
  unfold closureActive
  split
  · exact changeBase_sources ..
  · rfl

theorem closureInactive_sources (z : Nat) (sense : Sense) (s : State) :
    (closureInactive z sense s).zrt.sources.map standing = s.zrt.sources.map standing := by
  unfold closureInactive
  split
  · exact changeBase_sources ..
  · rfl

/-- The active edge of a PLATFORM_CLOSE set on a zone (R123). -/
theorem closureActive_spec (hz : z < s.zrt.zones.length) :
    ((s.zone z).base ≠ .opn → closureActive z s = s) ∧
    ((s.zone z).base = .opn → ((closureActive z s).zone z).base = .closed ∧
      (((closureActive z s).zone z).covering = none → (∀ p ∈ ((closureActive z s).zone z).queue, 6 ≤ p.priority) ∧
        (AttachedOnce s z → ClosedToRuns s (closureActive z s) z))) := by
  refine ⟨closureActive_of_ne, fun h => ?_⟩
  rw [closureActive_of_opn h]
  refine ⟨?_, changeBase_closed⟩
  rw [(changeBase_reaches z .closed .input s).1.base, writeBase_zone, if_pos ⟨rfl, hz⟩]

/-- The active edge of a FIRE_PANEL set works on coverage and announcements beside the entry it makes ACTIVE. -/
theorem panelActive_bases (key : SourceKey) (sense : Sense) (s : State) :
    (panelActive key sense s).zrt.zones.map Zone.base = s.zrt.zones.map Zone.base := by
  unfold panelActive
  split
  · rfl
  · split
    · exact (generate_settles _ s).toPlays.bases
    · exact activate_bases ..

theorem panelActive_of_entry {key : SourceKey} {sense : Sense} {n : Nat}
    (hno : NoEntry s (fun e => e.state = .active ∧ e.key = key)) (hn : ActivationEntry s key n) :
    (panelActive key sense s).zrt.sources.map standing = (s.zrt.sources.map standing).set n
      { state := .active, key := key, latched := decide (sense = .edge), voice := .none } := by
  unfold panelActive
  rw [activeWithKey_eq_none.mp hno]
  dsimp only
  rw [findEntry_of_activationEntry hn]
  exact activate_standing ..

theorem panelActive_of_none {key : SourceKey} {sense : Sense}
    (h : ¬ NoEntry s (fun e => e.state = .active ∧ e.key = key) ∨
      NoEntry s (fun e => e.state ≠ .free ∧ e.key = key ∨ e.state ≠ .active)) :
    (panelActive key sense s).zrt.sources.map standing = s.zrt.sources.map standing := by
  unfold panelActive
  rw [activeWithKey_eq_none] at h
  cases hactive : activeWithKey s key with
  | some n => rfl
  | none =>
    dsimp only
    rw [findEntry_eq_none (h.resolve_left fun hne => hne hactive)]
    exact (generate_settles _ s).toPlays.sources

end

/-! ### The delivery of an edge -/

/-- `w` is the state in which the owner of set `f` finds an edge that the expiry from `s` to `t` hands on (R56, R64). -/
structure Delivers (n : Nat) (f : InputFunction) (s w t : State) : Prop where
  bases : w.zrt.zones.map Zone.base = s.zrt.zones.map Zone.base
  sources : w.zrt.sources.map standing = s.zrt.sources.map standing
  ttu : w.ttu = s.ttu
  clock : w.clock = s.clock
  sense : f ≠ .general → (setSense w.fiu.inputs f = .level ↔ SetLevel s f)
  same : (SetActive s f ↔ SetActive t f) → t = settle w
  rise : Rises s t f → t = settle (handEdge f true s.capture n w)
  fall : Falls s t f → t = settle (handEdge f false s.capture n w)

theorem expireTo_delivers (n : Nat) (level : Bool) (s : State) :
    Delivers n (s.input n).function s (woken n (turned n level s)) (expireTo n level s) := by
  have hplays := awake_plays n level s
  refine ⟨hplays.bases, hplays.sources, hplays.ttu, hplays.clock, fun hf => ?_, expireTo_of_same, expireTo_of_rise,
    expireTo_of_fall⟩
  rw [← setLevel_modifyInput (n := n) (level := level), setSense_eq_level _ _ hf]
  unfold SetLevel
  rw [hplays.fiu]

/-- The base states after the edges of a PLATFORM_CLOSE set (R71, R123). -/
theorem Delivers.closure {n z : Nat} {s w t : State} (h : Delivers n (.platformClose z) s w t) :
    t.zrt.sources.map standing = s.zrt.sources.map standing ∧
    (Rises s t (.platformClose z) → (s.zone z).base = .opn →
      t.zrt.zones.map Zone.base = (s.zrt.zones.map Zone.base).set z .closed) ∧
    (Falls s t (.platformClose z) → (s.zone z).base = .closed → SetLevel s (.platformClose z) →
      t.zrt.zones.map Zone.base = (s.zrt.zones.map Zone.base).set z .opn) ∧
    (Rises s t (.platformClose z) → (s.zone z).base ≠ .opn → t.zrt.zones.map Zone.base = s.zrt.zones.map Zone.base) ∧
    (Falls s t (.platformClose z) → ((s.zone z).base ≠ .closed ∨ ¬ SetLevel s (.platformClose z)) →
      t.zrt.zones.map Zone.base = s.zrt.zones.map Zone.base) := by
  have hbase : (w.zone z).base = (s.zone z).base := getD_of_map_eq h.bases coldZone z
  have hsense := h.sense (by simp)
  have hbases : ∀ u, (settle u).zrt.zones.map Zone.base = u.zrt.zones.map Zone.base := fun u =>
    (settle_settles u).toPlays.bases
  have hsources : ∀ u, (settle u).zrt.sources.map standing = u.zrt.sources.map standing := fun u =>
    (settle_settles u).toPlays.sources
  refine ⟨?_, fun hrise hopen => ?_, fun hfall hclosed hlevel => ?_, fun hrise hopen => ?_, fun hfall hno => ?_⟩
  · rw [← h.sources]
    rcases edge_cases s t (.platformClose z) with hsame | hrise | hfall
    · rw [h.same hsame, hsources]
    · rw [h.rise hrise, hsources]
      exact closureActive_sources z w
    · rw [h.fall hfall, hsources]
      exact closureInactive_sources z _ w
  · rw [h.rise hrise, hbases, ← h.bases, ← changeBase_bases z .closed .input w]
    exact congrArg (fun u : State => u.zrt.zones.map Zone.base) (closureActive_of_opn (hbase.trans hopen))
  · rw [h.fall hfall, hbases, ← h.bases, ← changeBase_bases z .opn .input w]
    exact congrArg (fun u : State => u.zrt.zones.map Zone.base) (if_pos ⟨hsense.mpr hlevel, hbase.trans hclosed⟩)
  · rw [h.rise hrise, hbases, ← h.bases]
    exact congrArg (fun u : State => u.zrt.zones.map Zone.base)
      (closureActive_of_ne fun hw => hopen (hbase.symm.trans hw))
  · rw [h.fall hfall, hbases, ← h.bases]
    refine congrArg (fun u : State => u.zrt.zones.map Zone.base) (if_neg fun ⟨hlevel, hclosed⟩ => ?_)
    exact hno.elim (fun hne => hne (hbase.symm.trans hclosed)) fun hne => hne (hsense.mp hlevel)

/-- The sources after the edges of a FIRE_PANEL set (R114). -/
theorem Delivers.panel {n : Nat} {a m : Address} {p i : Nat} {s w t : State} (h : Delivers n (.firePanel a m p i) s w t) :
    t.zrt.zones.map Zone.base = s.zrt.zones.map Zone.base ∧
    (Rises s t (.firePanel a m p i) → NoEntry s (fun e => e.state = .active ∧ e.key = panelKey a m p i) →
      ∀ e, ActivationEntry s (panelKey a m p i) e → ∃ latched, (latched = true ↔ ¬ SetLevel s (.firePanel a m p i)) ∧
        t.zrt.sources.map standing = (s.zrt.sources.map standing).set e
          { state := .active, key := panelKey a m p i, latched := latched, voice := .none }) ∧
    ((Falls s t (.firePanel a m p i) ∨ ¬ NoEntry s (fun e => e.state = .active ∧ e.key = panelKey a m p i) ∨
        NoEntry s (fun e => e.state ≠ .free ∧ e.key = panelKey a m p i ∨ e.state ≠ .active)) →
      t.zrt.sources.map standing = s.zrt.sources.map standing) := by
  have hsource : ∀ e, standing (w.source e) = standing (s.source e) := fun e => getD_of_map_eq h.sources coldSource e
  have hactive : NoEntry w (fun e => e.state = .active ∧ e.key = panelKey a m p i) ↔
      NoEntry s (fun e => e.state = .active ∧ e.key = panelKey a m p i) :=
    noEntry_congr hsource fun e f he => by rw [state_of_standing he, key_of_standing he]
  have hfull : NoEntry w (fun e => e.state ≠ .free ∧ e.key = panelKey a m p i ∨ e.state ≠ .active) ↔
      NoEntry s (fun e => e.state ≠ .free ∧ e.key = panelKey a m p i ∨ e.state ≠ .active) :=
    noEntry_congr hsource fun e f he => by rw [state_of_standing he, key_of_standing he]
  have hbases : ∀ u, (settle u).zrt.zones.map Zone.base = u.zrt.zones.map Zone.base := fun u =>
    (settle_settles u).toPlays.bases
  have hsources : ∀ u, (settle u).zrt.sources.map standing = u.zrt.sources.map standing := fun u =>
    (settle_settles u).toPlays.sources
  refine ⟨?_, fun hrise hno e he => ?_, fun hnone => ?_⟩
  · rw [← h.bases]
    rcases edge_cases s t (.firePanel a m p i) with hsame | hrise | hfall
    · rw [h.same hsame, hbases]
    · rw [h.rise hrise, hbases]
      exact panelActive_bases ..
    · rw [h.fall hfall, hbases]
      rfl
  · refine ⟨decide (setSense w.fiu.inputs (.firePanel a m p i) = .edge), ?_, ?_⟩
    · rw [decide_eq_true_eq, ← h.sense (by simp)]
      cases setSense w.fiu.inputs (.firePanel a m p i) <;> decide
    · rw [h.rise hrise, hsources, ← h.sources]
      exact panelActive_of_entry (hactive.mpr hno) ((activationEntry_congr hsource _ e).mpr he)
  · rw [← h.sources]
    rcases edge_cases s t (.firePanel a m p i) with hsame | hrise | hfall
    · rw [h.same hsame, hsources]
    · rw [h.rise hrise, hsources]
      have hstays : ¬ Falls s t (.firePanel a m p i) := fun hfall => hrise.1 hfall.1
      exact panelActive_of_none ((hnone.resolve_left hstays).imp (fun hne hw => hne (hactive.mp hw)) hfull.mpr)
    · rw [h.fall hfall, hsources]
      rfl

/-- Settles O40. -/
theorem closureAndPanelEdgesReachTheZones : Obligations.ClosureAndPanelEdgesReachTheZones := by
  unfold Obligations.ClosureAndPanelEdgesReachTheZones
  refine ⟨fun s z hz => closureActive_spec hz, fun n d s hs hd hdue =>
    ⟨_, exec_debounceExpiry hs hd hdue, fun z _ hf => ?_, fun a m p i hf => ?_⟩⟩
  · have hdelivers := expireTo_delivers n d.candidate s
    rw [hf] at hdelivers
    exact hdelivers.closure
  · have hdelivers := expireTo_delivers n d.candidate s
    rw [hf] at hdelivers
    exact hdelivers.panel

end Sys2Proof.Machine


/-! PROOFS. Work on the call table (R14, R21 to R25): what it leaves of the part and of the other records, and the conflicts
of a platform (R39 to R41). -/

namespace Sys2Proof.Machine

open Sys2Proof.Claims

/-! ### Work on calls and notices alone -/

section
variable {s t u : State}

theorem onlyCalls_rfl (s : State) : OnlyCalls s s := ⟨rfl, rfl, .refl _⟩

theorem onlyCalls_trans (h : OnlyCalls s t) (g : OnlyCalls t u) : OnlyCalls s u where
  rest := g.rest.trans ((congrArg (fun x : State => (x.withTtu u.ttu).withLnk u.lnk) h.rest :))
  plans := g.plans.trans h.plans
  lnk := h.lnk.trans g.lnk

theorem withTtu_onlyCalls {x : Ttu} (h : x.plans = s.ttu.plans) : OnlyCalls s (s.withTtu x) := ⟨rfl, h, .refl _⟩

theorem modifyCall_onlyCalls (id : Nat) (f : Call → Call) (s : State) : OnlyCalls s (s.modifyCall id f) :=
  withTtu_onlyCalls rfl

theorem generate_onlyCalls (n : Notice) (s : State) : OnlyCalls s (generate n s) :=
  ⟨rfl, rfl, (generate_settles n s).lnk⟩

theorem forEach_onlyCalls {α : Type} {f : α → State → State} (h : ∀ x s, OnlyCalls s (f x s)) :
    ∀ (xs : List α) (s : State), OnlyCalls s (forEach xs f s)
  | [], s => onlyCalls_rfl s
  | x :: xs, s => onlyCalls_trans (h x s) (forEach_onlyCalls h xs (f x s))

theorem recomputeConflicts_onlyCalls (z : Nat) (leaver : Option Nat) (s : State) :
    OnlyCalls s (recomputeConflicts z leaver s) := by
  unfold recomputeConflicts
  dsimp only
  refine onlyCalls_trans ?_ (forEach_onlyCalls generate_onlyCalls _ _)
  exact withTtu_onlyCalls rfl

theorem recomputeIfCurrent_onlyCalls (c : Call) (s : State) : OnlyCalls s (recomputeIfCurrent c s) := by
  unfold recomputeIfCurrent
  split
  · exact recomputeConflicts_onlyCalls ..
  · exact onlyCalls_rfl s

theorem arrive_onlyCalls (c : Call) (t : Capture) (source : TimeSource) (cause : CallCause) (s : State) :
    OnlyCalls s (arrive c t source cause s) :=
  onlyCalls_trans (onlyCalls_trans (modifyCall_onlyCalls ..) (modifyCall_onlyCalls ..))
    (onlyCalls_trans (recomputeConflicts_onlyCalls ..) (generate_onlyCalls ..))

theorem depart_onlyCalls (c : Call) (t : Capture) (source : TimeSource) (cause : CallCause) (s : State) :
    OnlyCalls s (depart c t source cause s) :=
  onlyCalls_trans (onlyCalls_trans (modifyCall_onlyCalls ..) (generate_onlyCalls ..)) (recomputeConflicts_onlyCalls ..)

theorem completeUnconfirmed_onlyCalls (c : Call) (s : State) : OnlyCalls s (completeUnconfirmed c s) :=
  onlyCalls_trans (onlyCalls_trans (modifyCall_onlyCalls ..) (generate_onlyCalls ..)) (recomputeConflicts_onlyCalls ..)

/-! ### Records apart from their partners -/

theorem modifyCall_calls (s : State) (id : Nat) (f : Call → Call) :
    (s.modifyCall id f).ttu.calls = s.ttu.calls.map (fun c => if c.id = id then f c else c) := by
  refine List.map_congr_left fun c _ => ?_
  simp only [beq_iff_eq]

theorem recomputeConflicts_core (z : Nat) (leaver : Option Nat) (s : State) :
    (recomputeConflicts z leaver s).ttu.calls.map Claims.core = s.ttu.calls.map Claims.core := by
  obtain ⟨f, hf⟩ := recomputeConflicts_map z leaver s
  rw [hf, List.map_map]
  rfl

theorem recomputeIfCurrent_core (c : Call) (s : State) :
    (recomputeIfCurrent c s).ttu.calls.map Claims.core = s.ttu.calls.map Claims.core := by
  unfold recomputeIfCurrent
  split
  · exact recomputeConflicts_core ..
  · rfl

/-- A call comes to its platform (R22). -/
theorem arrive_core (c : Call) (t : Capture) (source : TimeSource) (cause : CallCause) (s : State) :
    (arrive c t source cause s).ttu.calls.map Claims.core = s.ttu.calls.map (fun x => Claims.core
      (if x.id = c.id then arrivedAt { time := t.time, source := source, held := t.held } x else x)) := by
  refine (recomputeConflicts_core c.zone none _).trans ?_
  unfold recomputeTimes
  rw [modifyCall_calls, modifyCall_calls, List.map_map, List.map_map]
  refine List.map_congr_left fun x _ => ?_
  by_cases hx : x.id = c.id
  · simp [hx, arrivedAt]
  · simp [hx]

/-- A call leaves its platform (R23). -/
theorem depart_core (c : Call) (t : Capture) (source : TimeSource) (cause : CallCause) (s : State) :
    (depart c t source cause s).ttu.calls.map Claims.core = s.ttu.calls.map (fun x => Claims.core
      (if x.id = c.id then departedAt { time := t.time, source := source, held := t.held } x else x)) := by
  refine (recomputeConflicts_core c.zone none _).trans ?_
  exact (congrArg (List.map Claims.core) (modifyCall_calls s c.id _)).trans (List.map_map ..)

theorem completeUnconfirmed_core (c : Call) (s : State) :
    (completeUnconfirmed c s).ttu.calls.map Claims.core = s.ttu.calls.map (fun x => Claims.core
      (if x.id = c.id then { x with state := .complete, unconfirmed := true } else x)) := by
  refine (recomputeConflicts_core c.zone none _).trans ?_
  exact (congrArg (List.map Claims.core) (modifyCall_calls s c.id _)).trans (List.map_map ..)

end

/-! ### Conflicts -/

theorem isLiveCurrent_iff (c : Call) :
    isLiveCurrent c = true ↔ c.day = .current ∧ (c.state = .planned ∨ c.state = .atPlatform) := by
  simp only [isLiveCurrent, isLive, Bool.and_eq_true, Bool.or_eq_true, decide_eq_true_eq]
  exact and_comm

theorem window_eq (c : Call) : window c = occupancy c := by
  unfold window occupancy
  cases c.kind <;> rfl

theorem overlaps_iff (a b : Nat × Nat) : overlaps a b = true ↔ a.1 < a.2 ∧ b.1 < b.2 ∧ a.1 < b.2 ∧ b.1 < a.2 := by
  simp only [overlaps, Bool.and_eq_true, decide_eq_true_eq, and_assoc]

/-- The order in which partners are preferred (R40). -/
def partnerKey (c : Call) : (Nat ×ₗ Nat)ᵒᵈ := OrderDual.toDual (toLex ((window c).1, c.id))

theorem betterPartner_iff (a b : Call) : betterPartner a b = true ↔ partnerKey b < partnerKey a := by
  unfold partnerKey
  rw [OrderDual.toDual_lt_toDual, Prod.Lex.toLex_lt_toLex]
  simp only [betterPartner, Bool.or_eq_true, Bool.and_eq_true, decide_eq_true_eq]

theorem partnerAmong_eq (live : List Call) (c : Call) : partnerAmong live c =
    ((live.filter (fun o => decide (o.id ≠ c.id) && overlaps (window c) (window o))).foldl
      (improve betterPartner) none).map Call.id :=
  congrArg (fun f => (List.foldl f none
      (live.filter (fun o : Call => decide (o.id ≠ c.id) && overlaps (window c) (window o)))).map Call.id)
    (funext fun best : Option Call => funext fun x => by cases best <;> rfl)

/-- The partner among a list of live calls of a platform: none where none overlaps, else the one whose window starts
earliest, the smaller id where two start together (R40). -/
theorem partnerAmong_spec (live : List Call) (c : Call) :
    (partnerAmong live c = none ↔ ∀ o ∈ live, ¬ (o.id ≠ c.id ∧ overlaps (window c) (window o) = true)) ∧
    ∀ p, partnerAmong live c = some p → ∃ o ∈ live, o.id = p ∧ (o.id ≠ c.id ∧ overlaps (window c) (window o) = true) ∧
      ∀ x ∈ live, x.id ≠ c.id ∧ overlaps (window c) (window x) = true →
        (window o).1 < (window x).1 ∨ ((window o).1 = (window x).1 ∧ o.id ≤ x.id) := by
  have hmem : ∀ o, o ∈ live.filter (fun o => decide (o.id ≠ c.id) && overlaps (window c) (window o)) ↔
      o ∈ live ∧ o.id ≠ c.id ∧ overlaps (window c) (window o) = true := fun o => by
    simp [List.mem_filter]
  rw [partnerAmong_eq]
  refine ⟨?_, fun p hp => ?_⟩
  · rw [Option.map_eq_none_iff, ← Option.not_isSome_iff_eq_none, isSome_foldl_improve]
    simp only [Bool.not_eq_true', Bool.not_eq_false, List.isEmpty_iff, List.eq_nil_iff_forall_not_mem, hmem, not_and]
  · obtain ⟨o, ho, rfl⟩ := Option.map_eq_some_iff.mp hp
    obtain ⟨hlive, hover⟩ := (hmem o).mp (mem_of_foldl_improve ho)
    refine ⟨o, hlive, rfl, hover, fun x hx hxover => ?_⟩
    have hle := (foldl_improve_le betterPartner_iff ho).1 x ((hmem x).mpr ⟨hx, hxover⟩)
    unfold partnerKey at hle
    rwa [OrderDual.toDual_le_toDual, Prod.Lex.toLex_le_toLex] at hle

theorem conflicts_iff {z : Nat} {c : Call} (hz : c.zone = z) (o : Call) (a b : Option Nat) :
    Conflicts { c with partner := a } { o with partner := b } ↔
      (isLiveCurrent o = true ∧ o.zone = z) ∧ o.id ≠ c.id ∧ overlaps (window c) (window o) = true := by
  rw [isLiveCurrent_iff, overlaps_iff, window_eq, window_eq, ← hz]
  unfold Conflicts
  exact ⟨fun ⟨hid, hzone, hday, hstate, hover⟩ => ⟨⟨⟨hday, hstate⟩, hzone⟩, hid, hover⟩,
    fun ⟨⟨⟨hday, hstate⟩, hzone⟩, hid, hover⟩ => ⟨hid, hzone, hday, hstate, hover⟩⟩

/-- The record of a call after a recomputation of platform `z`. -/
theorem mem_recomputeConflicts {z : Nat} {s : State} {c : Call} : c ∈ (recomputeConflicts z none s).ttu.calls ↔
    ∃ x ∈ s.ttu.calls, (x.zone = z ∧ c = { x with partner := newPartner (conflictCalls s.ttu.calls z none) none x }) ∨
      (x.zone ≠ z ∧ c = x) := by
  have hconcerned : ∀ x : Call, concerned z none x = true ↔ x.zone = z := fun x => by simp [concerned]
  rw [recomputeConflicts_ttu, List.mem_map]
  refine exists_congr fun x => and_congr_right fun _ => ?_
  by_cases hx : x.zone = z
  · simp only [hconcerned, hx, if_true, true_and, ne_eq, not_true, false_and, or_false]
    exact eq_comm
  · simp only [hconcerned, hx, if_false, false_and, ne_eq, not_false_eq_true, true_and, false_or]
    exact eq_comm

/-- Settles O34. -/
theorem conflictsNameTheEarliestOverlap : Obligations.ConflictsNameTheEarliestOverlap := by
  unfold Obligations.ConflictsNameTheEarliestOverlap
  intro z s
  set live := conflictCalls s.ttu.calls z none with hlive
  have hmem : ∀ o, o ∈ live ↔ o ∈ s.ttu.calls ∧ isLiveCurrent o = true ∧ o.zone = z := fun o => by
    simp [hlive, conflictCalls, List.mem_filter]
  have hcalls : ∀ c, c ∈ (recomputeConflicts z none s).ttu.calls ↔ ∃ x ∈ s.ttu.calls,
      (x.zone = z ∧ c = { x with partner := newPartner live none x }) ∨ (x.zone ≠ z ∧ c = x) :=
    fun c => mem_recomputeConflicts
  refine ⟨recomputeConflicts_onlyCalls .., recomputeConflicts_core .., fun c hc hne => ?_, fun c hc hz => ?_⟩
  · obtain ⟨x, hx, ⟨hzone, rfl⟩ | ⟨-, rfl⟩⟩ := (hcalls c).mp hc
    · exact absurd hzone hne
    · exact hx
  · obtain ⟨x, hx, ⟨hzone, rfl⟩ | ⟨hzone, rfl⟩⟩ := (hcalls c).mp hc
    swap
    · exact absurd hz hzone
    obtain ⟨hnone, hsome⟩ := partnerAmong_spec live x
    have hentry : ∀ y ∈ live, { y with partner := newPartner live none y } ∈ (recomputeConflicts z none s).ttu.calls :=
      fun y hy => (hcalls _).mpr ⟨y, ((hmem y).mp hy).1, .inl ⟨((hmem y).mp hy).2.2, rfl⟩⟩
    have hfound : ∀ o ∈ (recomputeConflicts z none s).ttu.calls,
        Conflicts { x with partner := newPartner live none x } o → ∃ y ∈ live, (y.id ≠ x.id ∧
          overlaps (window x) (window y) = true) ∧ o = { y with partner := newPartner live none y } := fun o ho hconf => by
      obtain ⟨y, hy, ⟨-, rfl⟩ | ⟨hne, rfl⟩⟩ := (hcalls o).mp ho
      · obtain ⟨hy', hover⟩ := (conflicts_iff hzone ..).mp hconf
        exact ⟨y, (hmem y).mpr ⟨hy, hy'⟩, hover, rfl⟩
      · exact absurd (hconf.2.1.trans hzone) hne
    refine ⟨fun hended => if_neg fun h => ?_, fun hday hstate => ?_⟩
    · obtain ⟨hday, hstate⟩ := (isLiveCurrent_iff x).mp h.1
      rcases hended with hd | hs | hs | hs
      · exact absurd (hday.symm.trans hd) (by decide)
      · rcases hstate with hst | hst <;> exact absurd (hst.symm.trans hs) (by decide)
      · rcases hstate with hst | hst <;> exact absurd (hst.symm.trans hs) (by decide)
      · rcases hstate with hst | hst <;> exact absurd (hst.symm.trans hs) (by decide)
    · have hpartner : newPartner live none x = partnerAmong live x :=
        if_pos ⟨(isLiveCurrent_iff x).mpr ⟨hday, hstate⟩, by simp⟩
      refine ⟨hpartner.symm ▸ hnone.trans ⟨fun h o ho hconf => ?_, fun h y hy hover => ?_⟩, fun p hp => ?_⟩
      · obtain ⟨y, hy, hover, -⟩ := hfound o ho hconf
        exact h y hy hover
      · exact h _ (hentry y hy) ((conflicts_iff hzone ..).mpr ⟨((hmem y).mp hy).2, hover⟩)
      · obtain ⟨y, hy, rfl, hover, hbest⟩ := hsome p (hpartner.symm.trans hp)
        refine ⟨_, hentry y hy, rfl, (conflicts_iff hzone ..).mpr ⟨((hmem y).mp hy).2, hover⟩, fun o ho hconf => ?_⟩
        obtain ⟨w, hw, hwover, rfl⟩ := hfound o ho hconf
        have hle := hbest w hw hwover
        rw [window_eq, window_eq] at hle
        exact hle

end Sys2Proof.Machine


/-! PROOFS. CALL_REPORT and CALL_DELAY (R26, R27). -/

namespace Sys2Proof.Machine

open Sys2Proof.Claims

/-! ### CALL_REPORT -/

section
variable {r : CallReportReq} {s : State} {c : Call}

theorem movementOfCode_eq_none {n : Nat} : movementOfCode n = none ↔ n = 0 ∨ 2 < n := by
  unfold movementOfCode
  split
  · simp
  · simp
  next h1 h2 =>
    have hno : n ≠ 1 ∧ n ≠ 2 := ⟨h1, h2⟩
    exact ⟨fun _ => by omega, fun _ => rfl⟩

theorem reportCall_of_none (h : s.call? r.id = none) : reportCall r s = (refuse .notFound, s) := by
  unfold reportCall
  rw [h]

theorem reportCall_outOfRange (hc : s.call? r.id = some c) (h : 86399 < r.time ∨ r.stage = 0 ∨ 2 < r.stage) :
    reportCall r s = (refuse .outOfRange, s) := by
  unfold reportCall
  rw [hc]
  dsimp only
  cases hm : movementOfCode r.stage with
  | none => rfl
  | some m =>
    have hstage : ¬ (r.stage = 0 ∨ 2 < r.stage) := fun hbad => by
      rw [movementOfCode_eq_none.mpr hbad] at hm
      cases hm
    exact if_pos (h.resolve_right hstage)

theorem reportCall_next {m : Movement} (hc : s.call? r.id = some c) (hm : movementOfCode r.stage = some m)
    (ht : r.time ≤ 86399) (hday : c.day = .next) : reportCall r s = (refuse .wrongState, s) := by
  unfold reportCall
  rw [hc, hm]
  dsimp only
  exact (if_neg (Nat.not_le.mpr (Nat.lt_succ_of_le ht))).trans (if_pos hday)

/-- A report of an arrival within its range is judged by the call's state and its platform. -/
theorem reportCall_arrival (hc : s.call? r.id = some c) (hm : r.stage = 1) (ht : r.time ≤ 86399)
    (hday : c.day = .current) : reportCall r s =
      if c.state ≠ .planned then (refuse .wrongState, s)
      else if otherAtPlatform s c then (refuse .platformOccupied, s)
      else (accept false [], arrive c (reportedAt r.time) .reported .reported s) := by
  unfold reportCall
  rw [hc, hm]
  dsimp only [movementOfCode]
  exact (if_neg (Nat.not_le.mpr (Nat.lt_succ_of_le ht))).trans (if_neg (by rw [hday]; decide))

theorem reportCall_departure (hc : s.call? r.id = some c) (hm : r.stage = 2) (ht : r.time ≤ 86399)
    (hday : c.day = .current) : reportCall r s =
      if c.state ≠ .atPlatform then (refuse .wrongState, s)
      else if r.time < (c.aa.map Actual.time).getD 0 then (refuse .outOfRange, s)
      else (accept false [], depart c (reportedAt r.time) .reported .reported s) := by
  unfold reportCall
  rw [hc, hm]
  dsimp only [movementOfCode]
  exact (if_neg (Nat.not_le.mpr (Nat.lt_succ_of_le ht))).trans (if_neg (by rw [hday]; decide))

theorem otherAtPlatform_iff (s : State) (c : Call) :
    otherAtPlatform s c = true ↔ ∃ o ∈ s.ttu.calls, o.id ≠ c.id ∧ o.state = .atPlatform ∧ o.zone = c.zone := by
  simp only [otherAtPlatform, List.any_eq_true, Bool.and_eq_true, decide_eq_true_eq, and_assoc]

end

/-- Settles O31. -/
theorem aReportMovesTheCall : Obligations.AReportMovesTheCall := by
  unfold Obligations.AReportMovesTheCall
  refine fun tag r s s0 h => ⟨fun hnone => onlyAnswers_of_owner_eq h (reportCall_of_none hnone), fun c hc =>
    ⟨fun hbad => onlyAnswers_of_owner_eq h (reportCall_outOfRange hc hbad), fun ht hstage =>
      ⟨fun hday => ?_, fun hday hm hst => ?_, fun hday hm hst => ?_, fun hday hm hst a ha hlt => ?_,
        fun hday hm hst hother => ?_, fun hday hm hst hfree => ?_, fun hday hm hst hafter => ?_⟩⟩⟩
  · cases hm : movementOfCode r.stage with
    | none =>
      rcases movementOfCode_eq_none.mp hm with h0 | h2
      · omega
      · omega
    | some m => exact onlyAnswers_of_owner_eq h (reportCall_next hc hm ht hday)
  · exact onlyAnswers_of_owner_eq h ((reportCall_arrival hc hm ht hday).trans (if_pos hst))
  · exact onlyAnswers_of_owner_eq h ((reportCall_departure hc hm ht hday).trans (if_pos hst))
  · refine onlyAnswers_of_owner_eq h ((reportCall_departure hc hm ht hday).trans ((if_neg (not_not.mpr hst)).trans
      (if_pos ?_)))
    rw [ha]
    exact hlt
  · exact onlyAnswers_of_owner_eq h ((reportCall_arrival hc hm ht hday).trans ((if_neg (not_not.mpr hst)).trans
      (if_pos ((otherAtPlatform_iff s0 c).mpr hother))))
  · refine ⟨_, exec_of_owner_eq h ((reportCall_arrival hc hm ht hday).trans ((if_neg (not_not.mpr hst)).trans
      (if_neg fun hother => ?_))), arrive_onlyCalls .., ?_⟩
    · obtain ⟨o, ho, hid, hstate, hzone⟩ := (otherAtPlatform_iff s0 c).mp hother
      exact hfree o ho hid hstate hzone
    · rw [← (call?_mem hc).2]
      exact arrive_core ..
  · refine ⟨_, exec_of_owner_eq h ((reportCall_departure hc hm ht hday).trans ((if_neg (not_not.mpr hst)).trans
      (if_neg fun hlt => ?_))), depart_onlyCalls .., ?_⟩
    · cases ha : c.aa with
      | none =>
        rw [ha] at hlt
        exact absurd hlt (Nat.not_lt_zero _)
      | some a =>
        rw [ha] at hlt
        exact absurd hlt (Nat.not_lt.mpr (hafter a ha))
    · rw [← (call?_mem hc).2]
      exact depart_core ..

/-! ### CALL_DELAY -/

section
variable {r : CallDelayReq} {s : State} {c : Call}

theorem hasArrival_eq_false (k : CallKind) : hasArrival k = false ↔ k = .departure := by cases k <;> decide

theorem hasDeparture_eq_false (k : CallKind) : hasDeparture k = false ↔ k = .arrival := by cases k <;> decide

theorem delayForeign_iff (c : Call) (r : CallDelayReq) : delayForeign c r = true ↔ DelayForeign c r := by
  simp only [delayForeign, DelayForeign, Bool.or_eq_true, Bool.and_eq_true, Bool.not_eq_true', hasArrival_eq_false,
    hasDeparture_eq_false, Option.isSome_iff_ne_none, ne_eq]

theorem clampDelay_eq (d : Int) : clampDelay d = max (-900) (min 14400 d) := clampInt_eq (by decide) d

theorem delayClamped_iff (d : Option Int) : delayClamped d = true ↔ DelayClamped d := by
  unfold DelayClamped
  cases d with
  | none => simp [delayClamped]
  | some x =>
    simp only [delayClamped, decide_eq_true_eq, clampDelay_eq, Option.some.injEq, exists_eq_left']
    omega

/-- The record with the delays of a CALL_DELAY (R26, R33). -/
theorem withDelays_eq (r : CallDelayReq) (c : Call) : withDelays r.arrival r.departure c = delayed r c := by
  have hflag : ∀ x : Int, delayClamped (some x) = decide (x < -900 ∨ 14400 < x) := fun x => by
    rw [Bool.eq_iff_iff, delayClamped_iff, decide_eq_true_eq]
    simp [DelayClamped]
  unfold withDelays delayed
  cases r.arrival with
  | none =>
    cases r.departure with
    | none => rfl
    | some y => simp only [hflag, clampDelay_eq]
  | some x =>
    cases r.departure with
    | none => simp only [hflag, clampDelay_eq]
    | some y => simp only [hflag, clampDelay_eq]

theorem isTerminal_iff (c : Call) : isTerminal c = true ↔ c.state ≠ .planned ∧ c.state ≠ .atPlatform := by
  simp [isTerminal, isLive]

theorem delayCall_of_none (h : r.arrival ≠ none ∨ r.departure ≠ none) (hc : s.call? r.id = none) :
    delayCall r s = (refuse .notFound, s) := by
  unfold delayCall
  rw [if_neg fun hboth => h.elim (fun ha => ha hboth.1) fun hd => hd hboth.2, hc]

/-- A CALL_DELAY of a call there is, judged in the order of R26. -/
theorem delayCall_of_found (h : r.arrival ≠ none ∨ r.departure ≠ none) (hc : s.call? r.id = some c) : delayCall r s =
    if delayForeign c r then (refuse .outOfRange, s)
    else if isTerminal c then (refuse .wrongState, s)
    else if r.arrival.isSome ∧ c.aa.isSome then (refuse .wrongState, s)
    else (accept (delayClamped r.arrival || delayClamped r.departure) [], delayFound c r s) := by
  unfold delayCall
  rw [if_neg fun hboth => h.elim (fun ha => ha hboth.1) fun hd => hd hboth.2, hc]

theorem delayFound_core (hc : s.call? r.id = some c) : (delayFound c r s).ttu.calls.map Claims.core =
    s.ttu.calls.map (fun x => Claims.core (if x.id = r.id then computeTimes (delayed r x) else x)) := by
  unfold delayFound
  rw [recomputeIfCurrent_core, modifyCall_calls, List.map_map, (call?_mem hc).2]
  simp only [withDelays_eq]
  rfl

theorem delayFound_lnk (h : c.day = .next) : (delayFound c r s).lnk = s.lnk := by
  unfold delayFound recomputeIfCurrent
  rw [if_neg (by rw [h]; decide)]
  rfl

end

/-- Settles O28. -/
theorem aDelayMovesTheExpectedTimes : Obligations.ADelayMovesTheExpectedTimes := by
  unfold Obligations.ADelayMovesTheExpectedTimes
  refine fun tag r s s0 h => ⟨fun ha hd => onlyAnswers_of_owner_eq h (if_pos ⟨ha, hd⟩), fun hgiven =>
    ⟨fun hnone => onlyAnswers_of_owner_eq h (delayCall_of_none hgiven hnone), fun c hc => ⟨fun hforeign => ?_, fun hown =>
      ⟨fun hp ha => ?_, fun ha haa => ?_, fun hlive hactual => ?_⟩⟩⟩⟩
  · exact onlyAnswers_of_owner_eq h ((delayCall_of_found hgiven hc).trans (if_pos ((delayForeign_iff c r).mpr hforeign)))
  all_goals have hforeign : ¬ delayForeign c r = true := fun hf => hown ((delayForeign_iff c r).mp hf)
  · exact onlyAnswers_of_owner_eq h ((delayCall_of_found hgiven hc).trans ((if_neg hforeign).trans
      (if_pos ((isTerminal_iff c).mpr ⟨hp, ha⟩))))
  · refine onlyAnswers_of_owner_eq h ((delayCall_of_found hgiven hc).trans ((if_neg hforeign).trans ?_))
    split
    · rfl
    · exact if_pos ⟨Option.isSome_iff_ne_none.mpr ha, Option.isSome_iff_ne_none.mpr haa⟩
  · refine ⟨delayFound c r s0, _, exec_of_owner_eq h ((delayCall_of_found hgiven hc).trans ((if_neg hforeign).trans
      ((if_neg fun hterminal => ?_).trans (if_neg fun hboth => ?_)))), ?_, delayFound_core hc,
      onlyCalls_trans (modifyCall_onlyCalls ..) (recomputeIfCurrent_onlyCalls ..), delayFound_lnk⟩
    · obtain ⟨hp, hat⟩ := (isTerminal_iff c).mp hterminal
      exact hlive.elim hp hat
    · exact Option.isSome_iff_ne_none.mp hboth.2 (hactual (Option.isSome_iff_ne_none.mp hboth.1))
    · rw [Bool.or_eq_true, delayClamped_iff, delayClamped_iff]

end Sys2Proof.Machine


/-! PROOFS. The marks of a call (R43 to R48): cue positions taken one by one, and the cues of an event. -/

namespace Sys2Proof.Machine

open Sys2Proof.Claims

/-! ### Marks set position by position -/

/-- The marks `ms` with each position of `is` set as `v` says. -/
def markAll (v : Nat → Option Mark) (is : List Nat) (ms : List Mark) : List Mark :=
  is.foldl (fun ms i => (v i).elim ms (ms.set i)) ms

theorem markAll_cons (v : Nat → Option Mark) (i : Nat) (is : List Nat) (ms : List Mark) :
    markAll v (i :: is) ms = markAll v is ((v i).elim ms (ms.set i)) := rfl

theorem elim_set_length (m : Option Mark) (i : Nat) (ms : List Mark) : (m.elim ms (ms.set i)).length = ms.length := by
  cases m with
  | none => rfl
  | some m => exact List.length_set

theorem elim_set_getD {m : Option Mark} {i j : Nat} (h : j ≠ i) (ms : List Mark) :
    (m.elim ms (ms.set i)).getD j .unfired = ms.getD j .unfired := by
  cases m with
  | none => rfl
  | some m => simp [List.getD_eq_getElem?_getD, Ne.symm h]

theorem markAll_length {v : Nat → Option Mark} : ∀ {is : List Nat} {ms : List Mark}, (markAll v is ms).length = ms.length
  | [], _ => rfl
  | i :: is, ms => by rw [markAll_cons, markAll_length, elim_set_length]

theorem markAll_getD_of_not_mem {v : Nat → Option Mark} {j : Nat} : ∀ {is : List Nat} {ms : List Mark}, j ∉ is →
    (markAll v is ms).getD j .unfired = ms.getD j .unfired
  | [], _, _ => rfl
  | i :: is, ms, h => by
    obtain ⟨hji, his⟩ := List.ne_and_not_mem_of_not_mem_cons h
    rw [markAll_cons, markAll_getD_of_not_mem his, elim_set_getD hji]

theorem markAll_getD {v : Nat → Option Mark} {j : Nat} : ∀ {is : List Nat} {ms : List Mark}, is.Nodup → j ∈ is →
    j < ms.length → (markAll v is ms).getD j .unfired = (v j).getD (ms.getD j .unfired)
  | i :: is, ms, hnodup, hmem, hlt => by
    obtain ⟨hi, his⟩ := List.nodup_cons.mp hnodup
    rw [markAll_cons]
    by_cases hji : j = i
    · subst hji
      rw [markAll_getD_of_not_mem hi]
      cases v j with
      | none => rfl
      | some m => simp [List.getD_eq_getElem?_getD, hlt]
    · rw [markAll_getD his ((List.mem_cons.mp hmem).resolve_left hji) (by rwa [elim_set_length]), elim_set_getD hji]

theorem markAll_congr {v w : Nat → Option Mark} : ∀ {is : List Nat} {ms : List Mark}, (∀ i ∈ is, v i = w i) →
    markAll v is ms = markAll w is ms
  | [], _, _ => rfl
  | i :: is, ms, h => by
    obtain ⟨hi, his⟩ := List.forall_mem_cons.mp h
    rw [markAll_cons, markAll_cons, hi, markAll_congr his]

/-- The record with other marks. -/
def withMarks (g : List Mark → List Mark) (c : Call) : Call := { c with marks := g c.marks }

/-- The table with the marks of call `id` changed by `g`. -/
def remarked (id : Nat) (g : List Mark → List Mark) (u : Ttu) : Ttu :=
  { u with calls := u.calls.map (fun x => if x.id = id then withMarks g x else x) }

theorem remarked_id (id : Nat) (u : Ttu) : remarked id (fun ms => ms) u = u := by
  have hmap : u.calls.map (fun x => if x.id = id then withMarks (fun ms => ms) x else x) = u.calls :=
    (List.map_congr_left fun x _ => ite_self x).trans (List.map_id _)
  unfold remarked
  rw [hmap]

theorem remarked_remarked (id : Nat) (f g : List Mark → List Mark) (u : Ttu) :
    remarked id g (remarked id f u) = remarked id (g ∘ f) u := by
  unfold remarked
  dsimp only
  rw [List.map_map]
  refine congrArg (Ttu.mk · u.plans) (List.map_congr_left fun x _ => ?_)
  by_cases hx : x.id = id
  · simp [hx, withMarks]
  · simp [hx]

theorem setMark_ttu (id i : Nat) (m : Mark) (s : State) : (setMark id i m s).ttu = remarked id (fun ms => ms.set i m) s.ttu :=
  congrArg (Ttu.mk · s.ttu.plans) (modifyCall_calls s id _)

theorem find?_map_of_id {f : Call → Call} (hf : ∀ c, (f c).id = c.id) (cs : List Call) (id : Nat) :
    (cs.map f).find? (fun c => c.id == id) = (cs.find? (fun c => c.id == id)).map f := by
  rw [List.find?_map]
  exact congrArg (Option.map f) (congrArg (List.find? · cs) (funext fun c => by simp [hf]))

theorem call?_of_calls {s t : State} {f : Call → Call} (hf : ∀ c, (f c).id = c.id) (h : t.ttu.calls = s.ttu.calls.map f)
    (id : Nat) : t.call? id = (s.call? id).map f := by
  unfold State.call?
  rw [h, find?_map_of_id hf]

theorem call?_remarked {s t : State} {id : Nat} {g : List Mark → List Mark} {c : Call} (hc : s.call? id = some c)
    (h : t.ttu = remarked id g s.ttu) : t.call? id = some (withMarks g c) := by
  rw [call?_of_calls (f := fun x => if x.id = id then withMarks g x else x) (fun x => by split <;> rfl)
    (congrArg Ttu.calls h), hc, Option.map_some, if_pos (call?_mem hc).2]

/-- An operation that sets the mark of call `id` at the position it is given, as `verdict` says of the call found. -/
structure Marker (id : Nat) (op : Nat → State → State) (verdict : State → Call → Nat → Option Mark) : Prop where
  ttu : ∀ {s c} i, s.call? id = some c → (op i s).ttu = remarked id (fun ms => (verdict s c i).elim ms (ms.set i)) s.ttu
  clock : ∀ i s, (op i s).clock = s.clock
  congr : ∀ {s t : State} {c : Call} {g : List Mark → List Mark} {i}, t.ttu.plans = s.ttu.plans → t.clock = s.clock →
    (g c.marks).getD i .unfired = c.marks.getD i .unfired → verdict t (withMarks g c) i = verdict s c i

/-- Positions taken one by one are marked as the call stood at first. -/
theorem Marker.forEach {id : Nat} {op : Nat → State → State} {verdict : State → Call → Nat → Option Mark}
    (h : Marker id op verdict) : ∀ {is : List Nat} {s : State} {c : Call}, is.Nodup → s.call? id = some c →
      (forEach is op s).ttu = remarked id (markAll (verdict s c) is) s.ttu ∧ (forEach is op s).clock = s.clock
  | [], s, _, _, _ => ⟨(remarked_id id s.ttu).symm, rfl⟩
  | i :: is, s, c, hnodup, hc => by
    obtain ⟨hi, his⟩ := List.nodup_cons.mp hnodup
    have hstep := h.ttu i hc
    obtain ⟨hrest, hclock⟩ := h.forEach his (call?_remarked hc hstep)
    refine ⟨?_, hclock.trans (h.clock i s)⟩
    change (Machine.forEach is op (op i s)).ttu = _
    rw [hrest, hstep, remarked_remarked]
    refine congrArg (remarked id · s.ttu) (funext fun ms => ?_)
    rw [Function.comp_apply, markAll_cons]
    exact markAll_congr fun j hj => h.congr (by rw [hstep]; rfl) (h.clock i s)
      (elim_set_getD (ne_of_mem_of_not_mem hj hi) _)

/-! ### The cues of an event -/

/-- What an event of anchor `a` makes of the mark at position `i` (R48). -/
def eventVerdict (a : Anchor) (s : State) (c : Call) (i : Nat) : Option Mark :=
  (s.plan c.plan).cues[i]?.bind (fun q => if c.day = .current ∧ q.anchor = a ∧ markOf c i = .unfired then some .fired else none)

theorem fireCue_ttu (c : Call) (i : Nat) (q : Cue) (t : Int) (s : State) :
    (fireCue c i q t s).ttu = (setMark c.id i .fired s).ttu := by
  have hdropped : ∀ r u, (reportDropped c.id i r u).ttu = u.ttu := fun r u => by cases r <;> rfl
  unfold fireCue
  dsimp only
  split
  · rfl
  · exact (hdropped _ _).trans (createWhole_settles _ _).ttu

theorem fireCue_clock (c : Call) (i : Nat) (q : Cue) (t : Int) (s : State) : (fireCue c i q t s).clock = s.clock :=
  (fireCue_retimes c i q t s).rest.clock

theorem fireEventCue_marker (id : Nat) (a : Anchor) (t : Nat) : Marker id (fireEventCue id a t) (eventVerdict a) where
  ttu {s c} i hc := by
    unfold fireEventCue eventVerdict
    rw [hc]
    dsimp only
    cases (s.plan c.plan).cues[i]? with
    | none => exact (remarked_id id s.ttu).symm
    | some q =>
      dsimp only [Option.bind_some]
      split
      · rw [fireCue_ttu, (call?_mem hc).2]
        exact setMark_ttu ..
      · exact (remarked_id id s.ttu).symm
  clock i s := (fireEventCue_retimes id a t i s).rest.clock
  congr {s t c g i} hplans _ hmark := by
    have hplan : t.plan (withMarks g c).plan = s.plan c.plan := congrArg (List.getD · c.plan coldPlan) hplans
    have hkept : markOf (withMarks g c) i = markOf c i := hmark
    unfold eventVerdict
    rw [hplan, hkept]
    rfl

theorem cuePositions_nodup : cuePositions.Nodup := List.nodup_range

theorem mem_cuePositions {i : Nat} : i ∈ cuePositions ↔ i < 6 := List.mem_range

theorem fireEventCues_ttu {s : State} {id : Nat} {c : Call} (hc : s.call? id = some c) (a : Anchor) (t : Nat) :
    (fireEventCues id a t s).ttu = remarked id (markAll (eventVerdict a s c) cuePositions) s.ttu :=
  ((fireEventCue_marker id a t).forEach cuePositions_nodup hc).1

theorem eventVerdict_of_fires {a : Anchor} {s : State} {c : Call} {i : Nat} (hday : c.day = .current)
    (h : FiresOn s c a i) : eventVerdict a s c i = some .fired := by
  obtain ⟨q, hq, ha, hmark⟩ := h
  unfold eventVerdict
  rw [hq, Option.bind_some, if_pos ⟨hday, ha, hmark⟩]

theorem eventVerdict_of_kept {a : Anchor} {s : State} {c : Call} {i : Nat} (h : ¬ (c.day = .current ∧ FiresOn s c a i)) :
    eventVerdict a s c i = none := by
  unfold eventVerdict
  cases hq : (s.plan c.plan).cues[i]? with
  | none => rfl
  | some q =>
    rw [Option.bind_some]
    exact if_neg fun ⟨hday, ha, hmark⟩ => h ⟨hday, q, hq, ha, hmark⟩

/-- What an event fires is judged by the call's plan, day and marks. -/
theorem eventVerdict_congr {a : Anchor} {s t : State} {c d : Call} (hplans : t.ttu.plans = s.ttu.plans)
    (hplan : d.plan = c.plan) (hday : d.day = c.day) (hmarks : d.marks = c.marks) : eventVerdict a t d = eventVerdict a s c := by
  have hcues : t.plan d.plan = s.plan c.plan := by
    unfold State.plan
    rw [hplans, hplan]
  funext i
  unfold eventVerdict markOf
  rw [hcues, hday, hmarks]

/-- The marks of a call after the cues of an event, beside which the table is as it was. -/
theorem marksFire_of_fired {s u t : State} {a : Anchor} {c d : Call} {now : Nat} (hc : u.call? c.id = some d)
    (hplans : u.ttu.plans = s.ttu.plans) (hplan : d.plan = c.plan) (hday : d.day = c.day) (hmarks : d.marks = c.marks)
    (ht : t.ttu = (fireEventCues c.id a now u).ttu) : MarksFire s c (c.day = .current) a t := by
  intro hlen x hx i hi
  rw [fireEventCues_ttu hc, eventVerdict_congr hplans hplan hday hmarks] at ht
  rw [call?_remarked hc ht, Option.some.injEq] at hx
  have hmark : markOf x i = (eventVerdict a s c i).getD (markOf c i) := by
    subst hx
    unfold markOf withMarks
    dsimp only
    rw [hmarks]
    exact markAll_getD cuePositions_nodup (mem_cuePositions.mpr hi) (by omega)
  rw [hmark]
  exact ⟨fun hcurrent hfires => by rw [eventVerdict_of_fires hcurrent hfires]; rfl,
    fun hkept => by rw [eventVerdict_of_kept hkept]; rfl⟩

/-- Without an event the marks stay. -/
theorem marksFire_of_kept {s t : State} {a : Anchor} {c d : Call} {fires : Prop} (hno : ¬ fires) (hd : t.call? c.id = some d)
    (hmarks : d.marks = c.marks) : MarksFire s c fires a t := by
  intro _ x hx i _
  rw [hd, Option.some.injEq] at hx
  subst hx
  exact ⟨fun hf => absurd hf hno, fun _ => congrArg (fun ms : List Mark => ms.getD i Mark.unfired) hmarks⟩

theorem bare_withMarks (id : Nat) (g : List Mark → List Mark) (x : Call) :
    bare id (if x.id = id then withMarks g x else x) = bare id x := by
  unfold bare
  by_cases hx : x.id = id
  · simp [hx, withMarks]
  · simp [hx]

theorem fireEventCues_bare (id : Nat) (a : Anchor) (t : Nat) (s : State) :
    (fireEventCues id a t s).ttu.calls.map (bare id) = s.ttu.calls.map (bare id) := by
  cases hc : s.call? id with
  | none =>
    have hsame : fireEventCues id a t s = s := forEach_fixed fun i _ => by
      unfold fireEventCue
      rw [hc]
    rw [hsame]
  | some c =>
    rw [fireEventCues_ttu hc]
    unfold remarked
    dsimp only
    rw [List.map_map]
    exact List.map_congr_left fun x _ => bare_withMarks id _ x

theorem recomputeConflicts_bare (z : Nat) (leaver : Option Nat) (id : Nat) (s : State) :
    (recomputeConflicts z leaver s).ttu.calls.map (bare id) = s.ttu.calls.map (bare id) := by
  obtain ⟨f, hf⟩ := recomputeConflicts_map z leaver s
  rw [hf, List.map_map]
  refine List.map_congr_left fun x _ => ?_
  unfold bare
  by_cases hx : x.id = id
  · simp [hx]
  · simp [hx]

end Sys2Proof.Machine


/-! PROOFS. Train detection and dispatch (R66 to R70). -/

namespace Sys2Proof.Machine

open Sys2Proof.Claims

section
variable {s w : State} {z : Nat}

/-! ### The call an edge is matched to -/

theorem anchorDistance_eq (s : State) (c : Call) : anchorDistance s.clock.service c = anchorGap s c := by
  have hanchor : arrivalAnchor c = if c.kind = .departure then (c.ed.getD 0 : Int) - c.oa else (c.ea.getD 0 : Int) := by
    unfold arrivalAnchor
    cases c.kind <;> rfl
  unfold anchorDistance anchorGap
  rw [hanchor]

theorem mem_trainCandidates_iff {c : Call} : c ∈ trainCandidates s z s.clock.service ↔ MatchFor s z c := by
  rw [mem_trainCandidates, anchorDistance_eq]
  rfl

theorem betterMatch_iff (a b : Call) : betterMatch s.clock.service a b = true ↔ Nearer s a b := by
  unfold betterMatch Nearer
  simp only [anchorDistance_eq, Bool.or_eq_true, Bool.and_eq_true, decide_eq_true_eq]

theorem nearer_asymm {a b : Call} (h : Nearer s a b) : ¬ Nearer s b a := by
  unfold Nearer at *
  omega

theorem chooseCall_eq (s : State) (z now : Nat) :
    chooseCall s z now = (trainCandidates s z now).foldl (improve (betterMatch now)) none :=
  congrArg (fun f => List.foldl f none (trainCandidates s z now))
    (funext fun best : Option Call => funext fun x => by cases best <;> rfl)

/-- The candidate nearer than every other is the one matched (R66). -/
theorem chooseCall_of_nearest {c : Call} (hc : MatchFor s z c) (hbest : ∀ o, MatchFor s z o → o ≠ c → Nearer s c o) :
    chooseCall s z s.clock.service = some c := by
  obtain ⟨pre, post, hlist, hpre⟩ := List.eq_append_cons_of_mem (mem_trainCandidates_iff.mpr hc)
  have hmatch : ∀ y ∈ pre ++ c :: post, MatchFor s z y := fun y hy => mem_trainCandidates_iff.mp (hlist ▸ hy)
  rw [chooseCall_eq, hlist]
  refine foldl_improve_eq (fun y hy => ?_) fun y hy => ?_
  · exact (betterMatch_iff c y).mpr (hbest y (hmatch y (List.mem_append_left _ hy)) (ne_of_mem_of_not_mem hy hpre))
  · rw [← Bool.not_eq_true, betterMatch_iff]
    by_cases hyc : y = c
    · subst hyc
      exact fun h => nearer_asymm h h
    · exact nearer_asymm (hbest y (hmatch y (List.mem_append_right _ (List.mem_cons_of_mem _ hy))) hyc)

theorem chooseCall_of_none (h : ∀ c, ¬ MatchFor s z c) : chooseCall s z s.clock.service = none := by
  cases hc : chooseCall s z s.clock.service with
  | none => rfl
  | some c => exact absurd (mem_trainCandidates_iff.mp (chooseCall_mem hc)) (h c)

theorem callAtPlatform_of_noTrain (h : NoTrainAt s z) : callAtPlatform s z = none :=
  callAtPlatform_eq_none.mpr fun o ho hstate hzone => h o ho ⟨hstate, hzone⟩

theorem exists_of_train (h : ¬ NoTrainAt s z) : ∃ c, callAtPlatform s z = some c := by
  cases hc : callAtPlatform s z with
  | some c => exact ⟨c, rfl⟩
  | none => exact absurd (fun o ho hat => callAtPlatform_eq_none.mp hc o ho hat.1 hat.2) h

/-! ### The edges, in the state their owner finds -/

theorem trainActive_of_match {c : Call} (hnone : callAtPlatform s z = none) (t : Capture) (n : Nat)
    (hc : chooseCall s z t.time = some c) : trainActive z t n s = arrive c t .detected .detected s := by
  unfold trainActive
  rw [hnone]
  dsimp only
  rw [hc]

theorem trainActive_ttu_of_train {c : Call} (h : callAtPlatform s z = some c) (t : Capture) (n : Nat) :
    (trainActive z t n s).ttu = s.ttu := by
  unfold trainActive
  rw [h]
  rfl

theorem trainActive_ttu_of_noMatch (t : Capture) (n : Nat) (hc : chooseCall s z t.time = none) :
    (trainActive z t n s).ttu = s.ttu := by
  cases h : callAtPlatform s z with
  | some c => exact trainActive_ttu_of_train h t n
  | none =>
    unfold trainActive
    rw [h]
    dsimp only
    rw [hc]
    rfl

theorem trainInactive_of_train {c : Call} (h : callAtPlatform s z = some c) (t : Capture) (n : Nat) :
    trainInactive z t n s = depart c t .detected .detected s := by
  unfold trainInactive
  rw [h]

theorem trainInactive_ttu_of_none (h : callAtPlatform s z = none) (t : Capture) (n : Nat) :
    (trainInactive z t n s).ttu = s.ttu := by
  unfold trainInactive
  rw [h]
  rfl

theorem dispatchActive_ttu_of_none (h : callAtPlatform s z = none) (t : Capture) (n : Nat) :
    (dispatchActive z t n s).ttu = s.ttu := by
  unfold dispatchActive
  rw [h]
  rfl

/-- The active edge of a DISPATCH set fires the DISPATCH cues of a departing call (R69). -/
theorem dispatchActive_spec {c : Call} (h : callAtPlatform s z = some c) (hc : s.call? c.id = some c) (t : Capture) (n : Nat) :
    (dispatchActive z t n s).ttu.calls.map (bare c.id) = s.ttu.calls.map (bare c.id) ∧
      MarksFire s c (c.kind ≠ .arrival ∧ c.day = .current) .dispatch (dispatchActive z t n s) := by
  unfold dispatchActive
  rw [h]
  dsimp only
  split
  next hdeparts =>
    have hkind : c.kind ≠ .arrival := fun hk => by
      rw [hk] at hdeparts
      cases hdeparts
    refine ⟨fireEventCues_bare .., fun hlen x hx i hi => ?_⟩
    have hfire := marksFire_of_fired (a := .dispatch) hc rfl rfl rfl rfl rfl hlen x hx i hi
    exact ⟨fun hf => hfire.1 hf.2, fun hno => hfire.2 fun hf => hno ⟨⟨hkind, hf.1⟩, hf.2⟩⟩
  next hstays =>
    have hkind : c.kind = .arrival := (hasDeparture_eq_false c.kind).mp (by simpa using hstays)
    exact ⟨rfl, marksFire_of_kept (fun hf => hf.1 hkind) hc rfl⟩

end

/-! ### The edges after an expiry -/

theorem marksFire_congr {s s' t t' : State} {c : Call} {fires : Prop} {a : Anchor} (hs : s'.ttu.plans = s.ttu.plans)
    (ht : t'.ttu = t.ttu) (h : MarksFire s c fires a t) : MarksFire s' c fires a t' := by
  have hfires : ∀ i, FiresOn s' c a i ↔ FiresOn s c a i := fun i => by
    unfold FiresOn State.plan
    rw [hs]
  intro hlen x hx i hi
  unfold State.call? at hx
  rw [ht] at hx
  rw [hfires]
  exact h hlen x hx i hi

section
variable {n z : Nat} {s w t : State}

/-- The calls after the edges of a TRAIN_DETECT set (R66 to R68). -/
theorem Delivers.train (h : Delivers n (.trainDetect z) s w t) :
    (∀ c, Rises s t (.trainDetect z) → NoTrainAt s z →
      MatchFor s z c → (∀ o, MatchFor s z o → o ≠ c → Nearer s c o) →
        t.ttu.calls.map Claims.core = s.ttu.calls.map (fun x => Claims.core (if x.id = c.id then
          arrivedAt { time := s.clock.service, source := .detected, held := s.clock.held } x else x))) ∧
    (Rises s t (.trainDetect z) → (¬ NoTrainAt s z ∨ ∀ c, ¬ MatchFor s z c) → t.ttu = s.ttu) ∧
    (∀ c, Falls s t (.trainDetect z) → callAtPlatform s z = some c →
        t.ttu.calls.map Claims.core = s.ttu.calls.map (fun x => Claims.core (if x.id = c.id then
          departedAt { time := s.clock.service, source := .detected, held := s.clock.held } x else x))) ∧
    (Falls s t (.trainDetect z) → NoTrainAt s z → t.ttu = s.ttu) := by
  have hplatform : callAtPlatform w z = callAtPlatform s z := by
    unfold callAtPlatform
    rw [h.ttu]
  have hchoose : chooseCall w z s.capture.time = chooseCall s z s.clock.service := by
    rw [chooseCall_eq, chooseCall_eq]
    unfold trainCandidates
    rw [h.ttu, h.clock]
    rfl
  refine ⟨fun c hrise hno hc hbest => ?_, fun hrise hbad => ?_, fun c hfall hc => ?_, fun hfall hno => ?_⟩
  · rw [h.rise hrise, settle_ttu, ← h.ttu]
    have hedge : handEdge (.trainDetect z) true s.capture n w = arrive c s.capture .detected .detected w :=
      trainActive_of_match (hplatform.trans (callAtPlatform_of_noTrain hno)) s.capture n
        (hchoose.trans (chooseCall_of_nearest hc hbest))
    rw [hedge]
    exact arrive_core ..
  · rw [h.rise hrise, settle_ttu, ← h.ttu]
    rcases hbad with htrain | hnone
    · obtain ⟨c, hc⟩ := exists_of_train htrain
      exact trainActive_ttu_of_train (hplatform.trans hc) s.capture n
    · exact trainActive_ttu_of_noMatch s.capture n (hchoose.trans (chooseCall_of_none hnone))
  · rw [h.fall hfall, settle_ttu, ← h.ttu]
    have hedge : handEdge (.trainDetect z) false s.capture n w = depart c s.capture .detected .detected w :=
      trainInactive_of_train (hplatform.trans hc) s.capture n
    rw [hedge]
    exact depart_core ..
  · rw [h.fall hfall, settle_ttu, ← h.ttu]
    exact trainInactive_ttu_of_none (hplatform.trans (callAtPlatform_of_noTrain hno)) s.capture n

/-- The calls after the edges of a DISPATCH set (R69, R70). -/
theorem Delivers.dispatch (h : Delivers n (.dispatch z) s w t) :
    (∀ c, Rises s t (.dispatch z) → callAtPlatform s z = some c → s.call? c.id = some c →
      t.ttu.calls.map (bare c.id) = s.ttu.calls.map (bare c.id) ∧
        MarksFire s c (c.kind ≠ .arrival ∧ c.day = .current) .dispatch t) ∧
    ((Falls s t (.dispatch z) ∨ NoTrainAt s z) → t.ttu = s.ttu) := by
  have hplatform : callAtPlatform w z = callAtPlatform s z := by
    unfold callAtPlatform
    rw [h.ttu]
  have hcall : ∀ id, w.call? id = s.call? id := fun id => by
    unfold State.call?
    rw [h.ttu]
  refine ⟨fun c hrise hat hc => ?_, fun hno => ?_⟩
  · have hspec := dispatchActive_spec (hplatform.trans hat) ((hcall c.id).trans hc) s.capture n
    have ht : t.ttu = (dispatchActive z s.capture n w).ttu := by
      rw [h.rise hrise, settle_ttu]
      rfl
    rw [ht, ← h.ttu]
    exact ⟨hspec.1, marksFire_congr (by rw [h.ttu]) ht hspec.2⟩
  · rw [← h.ttu]
    rcases edge_cases s t (.dispatch z) with hsame | hrise | hfall
    · rw [h.same hsame, settle_ttu]
    · rw [h.rise hrise, settle_ttu]
      have hnone := hno.resolve_left fun hfall => hrise.1 hfall.1
      exact dispatchActive_ttu_of_none (hplatform.trans (callAtPlatform_of_noTrain hnone)) s.capture n
    · rw [h.fall hfall, settle_ttu]
      rfl

end

/-- Settles O39. -/
theorem detectionEdgesMoveTheCalls : Obligations.DetectionEdgesMoveTheCalls := by
  unfold Obligations.DetectionEdgesMoveTheCalls
  intro n z d s hs hd hdue
  have htrain : (s.input n).function = .trainDetect z →
      Delivers n (.trainDetect z) s (woken n (turned n d.candidate s)) (expireTo n d.candidate s) := fun hf => by
    rw [← hf]
    exact expireTo_delivers n d.candidate s
  have hdispatch : (s.input n).function = .dispatch z →
      Delivers n (.dispatch z) s (woken n (turned n d.candidate s)) (expireTo n d.candidate s) := fun hf => by
    rw [← hf]
    exact expireTo_delivers n d.candidate s
  exact ⟨_, exec_debounceExpiry hs hd hdue, fun c hf => (htrain hf).train.1 c, fun hf => (htrain hf).train.2.1,
    fun c hf => (htrain hf).train.2.2.1 c, fun hf => (htrain hf).train.2.2.2, fun c hf => (hdispatch hf).dispatch.1 c,
    fun hf => (hdispatch hf).dispatch.2⟩

end Sys2Proof.Machine


/-! PROOFS. CALL_PLATFORM, CALL_CANCEL and CALL_DELETE (R18, R25, R28, R52, R53). -/

namespace Sys2Proof.Machine

open Sys2Proof.Claims

/-! ### Withdrawals that stay -/

/-- Work after the withdrawal of a call leaves its announcements withdrawn (R28). -/
theorem withdrawn_of_ages {s u : State} {id : Nat} (h : Ages (fun _ => True) (withdrawCall id s) u) : Withdrawn s id u := by
  intro hnodup x hx hcall hseq
  have hcreated := (ages_placer.withdrawCall id s).created
  obtain ⟨y, hy, hsame⟩ | ⟨hnew, -⟩ := h.slots x hx
  · exact hsame.withdrawn ((withdrawCall_spec hnodup).1 y hy (hsame.call ▸ hcall))
  · exact absurd hseq (Nat.not_lt.mpr (hcreated.trans hnew))

theorem Retimes.callsAndPlays {s t : State} (h : Retimes s t) : CallsAndPlays s t := ⟨h.rest.toPlays, h.plans⟩

section
variable {s : State} {c d : Call} {id : Nat}

theorem withdrawCall_call? (id a : Nat) (s : State) : (withdrawCall id s).call? a = s.call? a := by
  unfold State.call?
  rw [withdrawCall_ttu]

theorem modifyCall_call? (h : s.call? id = some c) {f : Call → Call} (hf : ∀ x, (f x).id = x.id) :
    (s.modifyCall id f).call? id = some (f c) := by
  rw [call?_of_calls (f := fun x => if x.id = id then f x else x) (fun x => by split <;> simp [hf]) (modifyCall_calls s id f), h,
    Option.map_some, if_pos (call?_mem h).2]

theorem recomputeConflicts_call? (h : s.call? id = some c) (z : Nat) (leaver : Option Nat) :
    ∃ p, (recomputeConflicts z leaver s).call? id = some { c with partner := p } := by
  obtain ⟨f, hf⟩ := recomputeConflicts_map z leaver s
  exact ⟨f c, by rw [call?_of_calls (f := fun x => { x with partner := f x }) (fun _ => rfl) hf, h, Option.map_some]⟩

theorem modifyCall_bare (id : Nat) (f : Call → Call) (s : State) : (s.modifyCall id f).ttu.calls.map (bare id) =
    s.ttu.calls.map (fun x => bare id (if x.id = id then f x else x)) := by
  rw [modifyCall_calls, List.map_map]
  rfl

/-- The event of a call that ends in `t`: its cues fire where it is CURRENT, and else its marks stay. -/
theorem marksFire_of_event {t u : State} {a : Anchor} {now : Nat} (hd : u.call? c.id = some d)
    (hplans : u.ttu.plans = s.ttu.plans) (hplan : d.plan = c.plan) (hday : d.day = c.day) (hmarks : d.marks = c.marks)
    (ht : t.ttu = (if c.day = .current then fireEventCues c.id a now u else u).ttu) :
    MarksFire s c (c.day = .current) a t := by
  by_cases hcurrent : c.day = .current
  · rw [if_pos hcurrent] at ht
    exact marksFire_of_fired hd hplans hplan hday hmarks ht
  · rw [if_neg hcurrent] at ht
    refine marksFire_of_kept hcurrent (d := d) ?_ hmarks
    unfold State.call?
    rw [ht]
    exact hd

theorem event_bare (u : State) (c : Call) (a : Anchor) (now : Nat) :
    (if c.day = .current then fireEventCues c.id a now u else u).ttu.calls.map (bare c.id) =
      u.ttu.calls.map (bare c.id) := by
  split
  · exact fireEventCues_bare ..
  · rfl

end

/-! ### CALL_PLATFORM -/

section
variable {r : CallPlatformReq} {s : State} {c : Call}

theorem platformCall_of_none (h : s.call? r.id = none) : platformCall r s = (refuse .notFound, s) := by
  unfold platformCall
  rw [h]

theorem platformCall_of_found (hc : s.call? r.id = some c) : platformCall r s =
    if Config.maxZones ≤ r.zone then (refuse .outOfRange, s)
    else if c.state ≠ .planned then (refuse .wrongState, s)
    else if (s.zone r.zone).kind ≠ .platform then (refuse .notPlatform, s)
    else if r.zone = c.zone then (refuse .duplicate, s)
    else (accept false [], changePlatform c r.zone s) := by
  unfold platformCall
  rw [hc]

/-- What precedes the event of a platform change: the call moved, the conflicts of a CURRENT one recomputed. -/
def moved (c : Call) (z : Nat) (s : State) : State :=
  if c.day = .current then
    recomputeConflicts z none (recomputeConflicts c.zone (some c.id) ((withdrawCall c.id s).modifyCall c.id (movedTo z)))
  else (withdrawCall c.id s).modifyCall c.id (movedTo z)

theorem changePlatform_eq (c : Call) (z : Nat) (s : State) : changePlatform c z s = settle
    (if c.day = .current then
      fireEventCues c.id .platformChange ((withdrawCall c.id s).modifyCall c.id (movedTo z)).clock.service (moved c z s)
     else moved c z s) := by
  unfold changePlatform moved
  dsimp only
  split
  · rfl
  · rfl

theorem moved_bare (c : Call) (z : Nat) (s : State) : (moved c z s).ttu.calls.map (bare c.id) =
    s.ttu.calls.map (fun x => bare c.id (if x.id = c.id then movedTo z x else x)) := by
  have hmoved := modifyCall_bare c.id (movedTo z) (withdrawCall c.id s)
  rw [withdrawCall_ttu] at hmoved
  unfold moved
  split
  · rw [recomputeConflicts_bare, recomputeConflicts_bare]
    exact hmoved
  · exact hmoved

theorem moved_call? (hc : s.call? c.id = some c) (z : Nat) : ∃ p, (moved c z s).call? c.id = some { movedTo z c with partner := p } := by
  have hmoved : ((withdrawCall c.id s).modifyCall c.id (movedTo z)).call? c.id = some (movedTo z c) :=
    modifyCall_call? ((withdrawCall_call? ..).trans hc) fun _ => rfl
  unfold moved
  split
  · obtain ⟨p, hp⟩ := recomputeConflicts_call? hmoved c.zone (some c.id)
    exact recomputeConflicts_call? hp z none
  · exact ⟨_, hmoved⟩

theorem moved_plans (c : Call) (z : Nat) (s : State) : (moved c z s).ttu.plans = s.ttu.plans := by
  have hplans : ((withdrawCall c.id s).modifyCall c.id (movedTo z)).ttu.plans = s.ttu.plans :=
    (congrArg Ttu.plans (withdrawCall_ttu c.id s) :)
  unfold moved
  split
  · rw [recomputeConflicts_ttu, recomputeConflicts_ttu]
    exact hplans
  · exact hplans

theorem changePlatform_ages (c : Call) (z : Nat) (s : State) :
    Ages (fun _ => True) (withdrawCall c.id s) (changePlatform c z s) := by
  have hmoved : Ages (fun _ => True) (withdrawCall c.id s) (moved c z s) := by
    unfold moved
    have hmodify := ages_placer.modifyCall c.id (movedTo z) (withdrawCall c.id s)
    split
    · exact (hmodify.trans (ages_placer.recomputeConflicts ..)).trans (ages_placer.recomputeConflicts ..)
    · exact hmodify
  rw [changePlatform_eq]
  refine Ages.trans ?_ (ages_placer.settle _)
  split
  · exact hmoved.trans (ages_placer.fireEventCues ..)
  · exact hmoved

end

/-- Settles O29. -/
theorem aPlatformChangeMovesTheCall : Obligations.APlatformChangeMovesTheCall := by
  unfold Obligations.APlatformChangeMovesTheCall
  refine fun tag r s s0 h => ⟨fun hnone => onlyAnswers_of_owner_eq h (platformCall_of_none hnone), fun c hc =>
    ⟨fun hz => ?_, fun hz hst => ?_, fun hz hst hk => ?_, fun hz hst hk hsame => ?_, fun hz hst hk hne => ?_⟩⟩
  · exact onlyAnswers_of_owner_eq h ((platformCall_of_found hc).trans (if_pos hz))
  all_goals have hin : ¬ Config.maxZones ≤ r.zone := Nat.not_le.mpr (Nat.lt_succ_of_le hz)
  · exact onlyAnswers_of_owner_eq h ((platformCall_of_found hc).trans ((if_neg hin).trans (if_pos hst)))
  · exact onlyAnswers_of_owner_eq h ((platformCall_of_found hc).trans ((if_neg hin).trans
      ((if_neg (not_not.mpr hst)).trans (if_pos hk))))
  · exact onlyAnswers_of_owner_eq h ((platformCall_of_found hc).trans ((if_neg hin).trans
      ((if_neg (not_not.mpr hst)).trans ((if_neg (not_not.mpr hk)).trans (if_pos hsame)))))
  · have hid := (call?_mem hc).2
    have hc' : s0.call? c.id = some c := by rw [hid]; exact hc
    have hu : (changePlatform c r.zone s0).ttu = _ := (congrArg State.ttu (changePlatform_eq c r.zone s0)).trans (settle_ttu _)
    obtain ⟨p, hp⟩ := moved_call? hc' r.zone
    refine ⟨_, exec_of_owner_eq h ((platformCall_of_found hc).trans ((if_neg hin).trans ((if_neg (not_not.mpr hst)).trans
      ((if_neg (not_not.mpr hk)).trans (if_neg hne))))), (changePlatform_retimes c r.zone s0).callsAndPlays, ?_, ?_, ?_⟩
    · rw [← hid, hu, event_bare, moved_bare]
      rfl
    · exact marksFire_of_event hp (moved_plans c r.zone s0) rfl rfl rfl hu
    · rw [← hid]
      exact withdrawn_of_ages (changePlatform_ages c r.zone s0)

/-! ### CALL_CANCEL -/

section
variable {id : Nat} {s : State} {c : Call}

theorem cancelCall_of_none (h : s.call? id = none) : cancelCall id s = (refuse .notFound, s) := by
  unfold cancelCall
  rw [h]

theorem cancelCall_of_found (hc : s.call? id = some c) : cancelCall id s =
    if isTerminal c then (refuse .wrongState, s) else (accept false [], cancelFound c s) := by
  unfold cancelCall
  rw [hc]

/-- What precedes the event of a cancel. -/
def cancelled (c : Call) (s : State) : State :=
  recomputeConflicts c.zone none (generate (.callState c.id c.state .cancelled .cancelled none)
    ((withdrawCall c.id s).modifyCall c.id (fun c => { c with state := .cancelled })))

theorem cancelFound_eq (c : Call) (s : State) : cancelFound c s = settle
    (if c.day = .current then fireEventCues c.id .cancel (cancelled c s).clock.service (cancelled c s) else cancelled c s) := rfl

theorem cancelled_bare (c : Call) (s : State) : (cancelled c s).ttu.calls.map (bare c.id) =
    s.ttu.calls.map (fun x => bare c.id (if x.id = c.id then { x with state := .cancelled } else x)) := by
  have hmodified := modifyCall_bare c.id (fun c => { c with state := .cancelled }) (withdrawCall c.id s)
  rw [withdrawCall_ttu] at hmodified
  exact (recomputeConflicts_bare ..).trans hmodified

theorem cancelled_call? (hc : s.call? c.id = some c) :
    ∃ p, (cancelled c s).call? c.id = some { c with state := .cancelled, partner := p } := by
  refine recomputeConflicts_call? (c := { c with state := .cancelled }) (s := generate (.callState c.id c.state .cancelled .cancelled none)
    ((withdrawCall c.id s).modifyCall c.id (fun c => { c with state := .cancelled }))) ?_ c.zone none
  exact modifyCall_call? (f := fun c => { c with state := .cancelled }) ((withdrawCall_call? ..).trans hc) fun _ => rfl

theorem cancelled_plans (c : Call) (s : State) : (cancelled c s).ttu.plans = s.ttu.plans :=
  (congrArg Ttu.plans (recomputeConflicts_ttu ..)).trans (congrArg Ttu.plans (withdrawCall_ttu c.id s) :)

theorem cancelFound_ages (c : Call) (s : State) : Ages (fun _ => True) (withdrawCall c.id s) (cancelFound c s) := by
  have hcancelled : Ages (fun _ => True) (withdrawCall c.id s) (cancelled c s) :=
    ((ages_placer.modifyCall c.id _ (withdrawCall c.id s)).trans (ages_placer.generate _ _)).trans
      (ages_placer.recomputeConflicts ..)
  rw [cancelFound_eq]
  refine Ages.trans ?_ (ages_placer.settle _)
  split
  · exact hcancelled.trans (ages_placer.fireEventCues ..)
  · exact hcancelled

/-! ### CALL_DELETE -/

theorem deleteCall_of_none (h : s.call? id = none) : deleteCall id s = (refuse .notFound, s) := by
  unfold deleteCall
  rw [h]

theorem deleteCall_of_found (hc : s.call? id = some c) : deleteCall id s =
    if c.state = .atPlatform then (refuse .wrongState, s) else (accept false [], deleteFound c s) := by
  unfold deleteCall
  rw [hc]

/-- What a deletion leaves of the table before the call goes: its records apart from their partners. -/
def unlisted (c : Call) (s : State) : State :=
  if c.day = .current ∧ c.state = .planned then recomputeConflicts c.zone (some c.id) (withdrawCall c.id s)
  else withdrawCall c.id s

theorem deleteFound_eq (c : Call) (s : State) : deleteFound c s = settle (removeCall c.id (unlisted c s)) := rfl

theorem removeCall_core {s t : State} (h : t.ttu.calls.map Claims.core = s.ttu.calls.map Claims.core) (id : Nat) :
    (removeCall id t).ttu.calls.map Claims.core = (s.ttu.calls.filter (fun x => x.id != id)).map Claims.core := by
  have hfilter : ∀ cs : List Call, (cs.filter (fun x => x.id != id)).map Claims.core =
      (cs.map Claims.core).filter (fun x => x.id != id) := fun cs => by
    rw [List.filter_map]
    rfl
  exact (hfilter _).trans ((congrArg (List.filter _) h).trans (hfilter _).symm)

theorem deleteFound_core (c : Call) (s : State) : (deleteFound c s).ttu.calls.map Claims.core =
    (s.ttu.calls.filter (fun x => x.id != c.id)).map Claims.core := by
  rw [deleteFound_eq, settle_ttu]
  refine removeCall_core ?_ c.id
  have hwithdrawn : (withdrawCall c.id s).ttu.calls.map Claims.core = s.ttu.calls.map Claims.core := by
    rw [withdrawCall_ttu]
  unfold unlisted
  split
  · exact (recomputeConflicts_core ..).trans hwithdrawn
  · exact hwithdrawn

theorem deleteFound_ages (c : Call) (s : State) : Ages (fun _ => True) (withdrawCall c.id s) (deleteFound c s) := by
  have hunlisted : Ages (fun _ => True) (withdrawCall c.id s) (unlisted c s) := by
    unfold unlisted
    split
    · exact ages_placer.recomputeConflicts ..
    · exact .rfl _
  have hremoved : ∀ u, Ages (fun _ => True) u (removeCall c.id u) := fun u => ages_placer.ttu u _
  rw [deleteFound_eq]
  exact (hunlisted.trans (hremoved _)).trans (ages_placer.settle _)

end

/-- Settles O30. -/
theorem cancelledAndDeletedCallsEnd : Obligations.CancelledAndDeletedCallsEnd := by
  unfold Obligations.CancelledAndDeletedCallsEnd
  refine ⟨fun id s hnodup => ?_, fun tag id s s0 h => ⟨fun hnone => onlyAnswers_of_owner_eq h (cancelCall_of_none hnone),
    fun c hc => ⟨fun hp ha => ?_, fun hlive => ?_⟩⟩, fun tag id s s0 h =>
    ⟨fun hnone => onlyAnswers_of_owner_eq h (deleteCall_of_none hnone), fun c hc => ⟨fun ha => ?_, fun ha => ?_⟩⟩⟩
  · obtain ⟨hslots, hsilenced⟩ := withdrawCall_spec (id := id) hnodup
    exact ⟨(withdrawCall_settles id s).toPlays, hslots, fun x hx hcall hw =>
      ⟨(hsilenced x hx hcall hw).queues, (hsilenced x hx hcall hw).runs⟩⟩
  · exact onlyAnswers_of_owner_eq h ((cancelCall_of_found hc).trans (if_pos ((isTerminal_iff c).mpr ⟨hp, ha⟩)))
  · have hid := (call?_mem hc).2
    have hc' : s0.call? c.id = some c := by rw [hid]; exact hc
    have hu : (cancelFound c s0).ttu = _ := (congrArg State.ttu (cancelFound_eq c s0)).trans (settle_ttu _)
    obtain ⟨p, hp⟩ := cancelled_call? hc'
    refine ⟨_, exec_of_owner_eq h ((cancelCall_of_found hc).trans (if_neg fun ht => ?_)),
      (cancelFound_retimes c s0).callsAndPlays, ?_, ?_, ?_⟩
    · obtain ⟨hplanned, hat⟩ := (isTerminal_iff c).mp ht
      exact hlive.elim hplanned hat
    · rw [← hid, hu, event_bare, cancelled_bare]
    · exact marksFire_of_event hp (cancelled_plans c s0) rfl rfl rfl hu
    · rw [← hid]
      exact withdrawn_of_ages (cancelFound_ages c s0)
  · exact onlyAnswers_of_owner_eq h ((deleteCall_of_found hc).trans (if_pos ha))
  · have hid := (call?_mem hc).2
    refine ⟨_, exec_of_owner_eq h ((deleteCall_of_found hc).trans (if_neg ha)), (deleteFound_retimes c s0).callsAndPlays, ?_, ?_⟩
    · rw [← hid]
      exact deleteFound_core c s0
    · rw [← hid]
      exact withdrawn_of_ages (deleteFound_ages c s0)

end Sys2Proof.Machine


/-! PROOFS. CALL_LOAD (R14 to R17). -/

namespace Sys2Proof.Machine

open Sys2Proof.Claims

/-! ### The codes and ranges of a load -/

theorem callKindOfCode_code (k : CallKind) : callKindOfCode (callKindCode k) = some k := by cases k <;> rfl

theorem dayOfCode_code (d : DayTag) : dayOfCode (dayCode d) = some d := by cases d <;> rfl

theorem callKindOfCode_eq_none {n : Nat} (h : n = 0 ∨ 3 < n) : callKindOfCode n = none := by
  unfold callKindOfCode
  split
  · omega
  · omega
  · omega
  · rfl

theorem dayOfCode_eq_none {n : Nat} (h : n = 0 ∨ 2 < n) : dayOfCode n = none := by
  unfold dayOfCode
  split
  · omega
  · omega
  · rfl

theorem badPhrase_eq_false (p : Option Nat) : badPhrase p = false ↔ ∀ n, p = some n → n ≤ 2047 := by
  cases p with
  | none => simp [badPhrase]
  | some n =>
    simp only [badPhrase, Config.maxPhrases, decide_eq_false_iff_not, Option.some.injEq, forall_eq']
    omega

/-- The checks of orders 2 and 3 (R15). -/
theorem loadFits_iff (k : CallKind) (r : CallLoadReq) :
    LoadFits k r ↔ loadOutOfRange k r = false ∧ turnTooShort k r = false := by
  have hkind : ∀ (b : Bool) (x n : Nat), (b && decide (n ≤ x)) = false ↔ (b = true → x < n) := fun b x n => by
    cases b <;> simp
  have harrival : hasArrival k = true ↔ k ≠ .departure := by cases k <;> decide
  have hdeparture : hasDeparture k = true ↔ k ≠ .arrival := by cases k <;> decide
  simp only [loadOutOfRange, turnTooShort, Bool.or_eq_false_iff, hkind, harrival, hdeparture, badPhrase_eq_false,
    List.any_eq_false, decide_eq_false_iff_not, decide_eq_true_eq, Bool.and_eq_false_iff, Config.maxZones,
    Config.daySeconds, Config.maxPhrases, Config.maxPlans]
  constructor
  · intro h
    have hphrase := h.phrases
    refine ⟨⟨⟨⟨⟨⟨⟨⟨⟨⟨⟨⟨h.id, ?_⟩, fun hk => Nat.lt_succ_of_le (h.sa hk)⟩, fun hk => Nat.lt_succ_of_le (h.sd hk)⟩, ?_⟩, ?_⟩,
      fun n hn => hphrase n (.inl hn)⟩, fun n hn => hphrase n (.inr (.inl hn))⟩, fun n hn => hphrase n (.inr (.inr (.inl hn)))⟩,
      fun n hn => ?_⟩, Nat.not_lt.mpr h.calling⟩, ?_⟩, ?_⟩
    · exact Nat.not_le.mpr (Nat.lt_succ_of_le h.zone)
    · exact Nat.not_lt.mpr h.oa.1
    · exact Nat.not_lt.mpr h.oa.2
    · exact Nat.not_le.mpr (Nat.lt_succ_of_le (hphrase n (.inr (.inr (.inr hn)))))
    · exact Nat.not_le.mpr (Nat.lt_succ_of_le h.plan)
    · exact (Decidable.em (k = .turn)).elim (fun hk => .inr (Nat.not_lt.mpr (h.turn hk))) .inl
  · rintro ⟨⟨⟨⟨⟨⟨⟨⟨⟨⟨⟨⟨hid, hzone⟩, hsa⟩, hsd⟩, hlow⟩, hhigh⟩, hdest⟩, horigin⟩, hcls⟩, hcalling⟩, hlen⟩, hplan⟩, hturn⟩
    exact
      { id := hid, zone := by omega, sa := fun hk => Nat.le_of_lt_succ (hsa hk), sd := fun hk => Nat.le_of_lt_succ (hsd hk)
        oa := ⟨by omega, by omega⟩, calling := by omega, plan := by omega
        turn := fun hk => Nat.not_lt.mp (hturn.resolve_left fun hno => hno hk)
        phrases := fun p hp => by
          rcases hp with h | h | h | h
          · exact hdest p h
          · exact horigin p h
          · exact hcls p h
          · exact Nat.le_of_lt_succ (Nat.not_le.mp (hcalling p h)) }

/-! ### The record of a load -/

theorem clampTime_of_le {n : Nat} (h : n ≤ 100799) : clampTime n = n := by
  rw [clampTime_natCast]
  omega

/-- A load's record, its times computed, is the record "At load" but for its partner (R15, R16). -/
theorem loadedCall_core {k : CallKind} {r : CallLoadReq} (h : LoadFits k r) (d : DayTag) (partner : Option Nat) :
    Claims.core (loadedCall k d r partner) = newCall k d r := by
  have hoa := h.oa
  unfold loadedCall
  cases k with
  | arrival =>
    have hsa := h.sa (by decide)
    have hea : clampTime (r.sa : Int) = r.sa := clampTime_of_le (by omega)
    have hec : min 100799 (r.sa + r.oa) = r.sa + r.oa := by omega
    have hover : overCeiling (r.sa : Int) = false := overCeiling_of_le (by omega)
    have hclear : overCeiling ((r.sa : Int) + r.oa) = false := overCeiling_of_le (by omega)
    rw [computeTimes_of_arrival rfl, deriveDelay_of_aa_none rfl]
    simp [expectedArrival, arrivalOver, hasArrival, hasDeparture, Claims.core, newCall, Config.maxCues, hea, hec, hover, hclear]
  | departure =>
    have hsd := h.sd (by decide)
    have hed : clampTime (r.sd : Int) = r.sd := clampTime_of_le (by omega)
    have hover : overCeiling (r.sd : Int) = false := overCeiling_of_le (by omega)
    rw [computeTimes_of_departure rfl, deriveDelay_of_aa_none rfl]
    simp [rawDeparture, hasArrival, hasDeparture, Claims.core, newCall, Config.maxCues, hed, hover]
  | turn =>
    have hsa := h.sa (by decide)
    have hsd := h.sd (by decide)
    have hturn := h.turn rfl
    have hea : clampTime (r.sa : Int) = r.sa := clampTime_of_le (by omega)
    have hmax : max (r.sd : Int) ((r.sa : Int) + r.oa) = r.sd := by omega
    have hed : clampTime (r.sd : Int) = r.sd := clampTime_of_le (by omega)
    have hover : overCeiling (r.sa : Int) = false := overCeiling_of_le (by omega)
    have hdeparts : overCeiling (r.sd : Int) = false := overCeiling_of_le (by omega)
    rw [computeTimes_of_turn rfl, deriveDelay_of_aa_none rfl]
    simp [expectedArrival, rawDeparture, arrivalOver, hasArrival, hasDeparture, Claims.core, newCall, Config.maxCues, hea, hmax,
      hed, hover, hdeparts]

/-! ### The table after a load -/

theorem comesBefore_core (a b : Call) : comesBefore (Claims.core a) b = comesBefore a b := rfl

theorem positionOf_core {cs ds : List Call} (h : cs.map Claims.core = ds.map Claims.core) (id : Nat) :
    positionOf cs id = positionOf ds id := by
  have hfind : ∀ xs : List Call, positionOf xs id = (xs.map Claims.core).findIdx (fun c => c.id == id) := fun xs => by
    rw [List.findIdx_map]
    rfl
  rw [hfind, hfind, h]

theorem positionOf_append {before after : List Call} {c : Call} (h : ∀ b ∈ before, b.id ≠ c.id) :
    positionOf (before ++ c :: after) c.id = before.length := by
  unfold positionOf
  induction before with
  | nil => simp [List.findIdx_cons]
  | cons b bs ih =>
    obtain ⟨hb, hbs⟩ := List.forall_mem_cons.mp h
    have hne : (b.id == c.id) = false := by simpa using hb
    rw [List.cons_append, List.findIdx_cons, hne, ih hbs]
    rfl

/-- A call that enters a table without its id stands at its place, and its position is the number of calls before it. -/
theorem inserted_spec {k : CallKind} {d : DayTag} {r : CallLoadReq} (h : LoadFits k r) (partner : Option Nat)
    {cs ds : List Call} (hcs : ∀ x ∈ cs, x.id ≠ r.id)
    (hds : ds.map Claims.core = (insertCall (loadedCall k d r partner) cs).map Claims.core) : ∃ before after,
      positionOf ds r.id = before.length ∧ cs = before ++ after ∧
      ds.map Claims.core = (before ++ newCall k d r :: after).map Claims.core ∧
      (∀ b ∈ before, comesBefore (newCall k d r) b = false) ∧
      ∀ a, after.head? = some a → comesBefore (newCall k d r) a = true := by
  obtain ⟨before, after, hsplit, hinsert, hbefore, hafter⟩ := insertCall_eq (loadedCall k d r partner) cs
  have hcore := loadedCall_core h d partner
  have hnew : Claims.core (newCall k d r) = Claims.core (loadedCall k d r partner) := by
    rw [hcore]
    rfl
  have hcomes : ∀ b, comesBefore (newCall k d r) b = comesBefore (loadedCall k d r partner) b := fun b => by
    rw [← hcore]
    exact comesBefore_core _ b
  rw [hinsert] at hds
  have htable : ds.map Claims.core = (before ++ newCall k d r :: after).map Claims.core := by
    rw [hds, List.map_append, List.map_append, List.map_cons, List.map_cons, hnew]
  refine ⟨before, after, ?_, hsplit, htable, fun b hb => (hcomes b).trans (hbefore b hb),
    fun a ha => (hcomes a).trans (hafter a ha)⟩
  rw [positionOf_core htable]
  exact positionOf_append (c := newCall k d r) fun b hb => hcs b (hsplit ▸ List.mem_append_left _ hb)

section
variable {s : State} {r : CallLoadReq} {k : CallKind} {d : DayTag}

theorem addCall_core (c : Call) (s : State) :
    (addCall c s).ttu.calls.map Claims.core = (insertCall c s.ttu.calls).map Claims.core := recomputeIfCurrent_core ..

theorem addCall_onlyCalls (c : Call) (s : State) : OnlyCalls s (addCall c s) :=
  onlyCalls_trans (t := enterCall c s) (withTtu_onlyCalls rfl) (recomputeIfCurrent_onlyCalls ..)

theorem callsAndPlays_of_onlyCalls {s t : State} (h : OnlyCalls s t) : CallsAndPlays s t := by
  refine ⟨?_, h.plans⟩
  rw [h.rest]
  exact { Plays.rfl s with lnk := h.lnk }

/-- A replacement leaves the table with the new call in the place of the old. -/
theorem replaceCall_core (old c : Call) (s : State) : (replaceCall old c s).ttu.calls.map Claims.core =
    (insertCall c (s.ttu.calls.filter (fun x => x.id != old.id))).map Claims.core := by
  have hentered : (enterCall c (removeCall old.id (withdrawCall old.id s))).ttu.calls =
      insertCall c (s.ttu.calls.filter (fun x => x.id != old.id)) :=
    congrArg (fun u : Ttu => insertCall c (u.calls.filter (fun x => x.id != old.id))) (withdrawCall_ttu old.id s)
  unfold replaceCall
  dsimp only
  rw [settle_ttu, ← hentered]
  split
  · exact recomputeConflicts_core ..
  · rw [recomputeConflicts_core, recomputeConflicts_core]

theorem replaceCall_ages (old c : Call) (s : State) : Ages (fun _ => True) (withdrawCall old.id s) (replaceCall old c s) := by
  have hentered : Ages (fun _ => True) (withdrawCall old.id s) (enterCall c (removeCall old.id (withdrawCall old.id s))) :=
    (ages_placer.ttu _ _).trans (ages_placer.ttu _ _)
  unfold replaceCall
  dsimp only
  refine Ages.trans (hentered.trans ?_) (ages_placer.settle _)
  split
  · exact ages_placer.recomputeConflicts ..
  · exact (ages_placer.recomputeConflicts ..).trans (ages_placer.recomputeConflicts ..)

/-- A load of a known kind and day is judged in the order of R15. -/
theorem loadCall_eq (hk : callKindCode k = r.kind) (hd : dayCode d = r.dayTag) : loadCall r s =
    if loadOutOfRange k r then (refuse .outOfRange, s)
    else if turnTooShort k r then (refuse .outOfRange, s)
    else if (s.zone r.zone).kind ≠ .platform then (refuse .notPlatform, s)
    else (s.call? r.id).elim
      (if Config.maxCalls ≤ s.ttu.calls.length then (refuse .tableFull, s)
        else loadReply r.id (addCall (loadedCall k d r none) s))
      (fun old => if old.state ≠ .planned then (refuse .wrongState, s)
        else loadReply r.id (replaceCall old (loadedCall k d r old.partner) s)) := by
  unfold loadCall
  rw [← hk, ← hd, callKindOfCode_code, dayOfCode_code]
  dsimp only
  cases s.call? r.id <;> rfl

theorem loadCall_unknown (h : r.kind = 0 ∨ 3 < r.kind ∨ r.dayTag = 0 ∨ 2 < r.dayTag) :
    loadCall r s = (refuse .outOfRange, s) := by
  unfold loadCall
  split
  next hk hd =>
    have hno : ∀ (hbad : r.kind = 0 ∨ 3 < r.kind), False := fun hbad => by
      rw [callKindOfCode_eq_none hbad] at hk
      cases hk
    rw [← or_assoc] at h
    rw [dayOfCode_eq_none (h.resolve_left hno)] at hd
    cases hd
  · rfl

theorem loadCall_unfit (hk : callKindCode k = r.kind) (hd : dayCode d = r.dayTag) (h : ¬ LoadFits k r) :
    loadCall r s = (refuse .outOfRange, s) := by
  rw [loadCall_eq hk hd]
  cases hrange : loadOutOfRange k r with
  | true => rfl
  | false =>
    cases hturn : turnTooShort k r with
    | true => rfl
    | false => exact absurd ((loadFits_iff k r).mpr ⟨hrange, hturn⟩) h

theorem loadCall_of_fits (hk : callKindCode k = r.kind) (hd : dayCode d = r.dayTag) (h : LoadFits k r) : loadCall r s =
    if (s.zone r.zone).kind ≠ .platform then (refuse .notPlatform, s)
    else (s.call? r.id).elim
      (if Config.maxCalls ≤ s.ttu.calls.length then (refuse .tableFull, s)
        else loadReply r.id (addCall (loadedCall k d r none) s))
      (fun old => if old.state ≠ .planned then (refuse .wrongState, s)
        else loadReply r.id (replaceCall old (loadedCall k d r old.partner) s)) := by
  obtain ⟨hrange, hturn⟩ := (loadFits_iff k r).mp h
  rw [loadCall_eq hk hd, hrange, hturn, if_neg Bool.false_ne_true, if_neg Bool.false_ne_true]

end

/-- Settles O27. -/
theorem aLoadStoresItsCall : Obligations.ALoadStoresItsCall := by
  unfold Obligations.ALoadStoresItsCall
  refine fun tag r s s0 h => ⟨fun hbad => onlyAnswers_of_owner_eq h (loadCall_unknown hbad), fun k d hk hd =>
    ⟨fun hunfit => onlyAnswers_of_owner_eq h (loadCall_unfit hk hd hunfit), fun hfits hkind => ?_, fun hfits hkind =>
      ⟨fun old hold hst => ?_, fun hnone hfull => ?_, fun hroom => ?_⟩⟩⟩
  · exact onlyAnswers_of_owner_eq h ((loadCall_of_fits hk hd hfits).trans (if_pos hkind))
  all_goals have howner := (loadCall_of_fits (s := s0) hk hd hfits).trans (if_neg (not_not.mpr hkind))
  · rw [hold, Option.elim_some, if_pos hst] at howner
    exact onlyAnswers_of_owner_eq h howner
  · rw [hnone, Option.elim_none, if_pos (show Config.maxCalls ≤ _ from hfull)] at howner
    exact onlyAnswers_of_owner_eq h howner
  · rcases hroom with ⟨hnone, hlen⟩ | ⟨old, hold, hst⟩
    · have hfree : ∀ x ∈ s0.ttu.calls, x.id ≠ r.id := fun x hx => by simpa using List.find?_eq_none.mp hnone x hx
      have hsame : s0.ttu.calls.filter (fun c => c.id != r.id) = s0.ttu.calls :=
        List.filter_eq_self.mpr fun x hx => by simpa using hfree x hx
      rw [hnone, Option.elim_none, if_neg (show ¬ Config.maxCalls ≤ _ from Nat.not_le.mpr hlen)] at howner
      obtain ⟨before, after, hposition, hsplit, htable, hbefore, hafter⟩ :=
        inserted_spec hfits none hfree (addCall_core (loadedCall k d r none) s0)
      refine ⟨addCall (loadedCall k d r none) s0, before, after, ?_, hsame.trans hsplit, htable, hbefore, hafter,
        callsAndPlays_of_onlyCalls (addCall_onlyCalls ..), fun _ => addCall_onlyCalls .., fun hno => absurd hnone hno⟩
      rw [← hposition]
      exact exec_of_owner_eq h howner
    · have hid := (call?_mem hold).2
      have hfree : ∀ x ∈ s0.ttu.calls.filter (fun x => x.id != old.id), x.id ≠ r.id := fun x hx => by
        rw [← hid]
        simpa using (List.mem_filter.mp hx).2
      rw [hold, Option.elim_some, if_neg (not_not.mpr hst)] at howner
      obtain ⟨before, after, hposition, hsplit, htable, hbefore, hafter⟩ :=
        inserted_spec hfits old.partner hfree (replaceCall_core old (loadedCall k d r old.partner) s0)
      refine ⟨replaceCall old (loadedCall k d r old.partner) s0, before, after, ?_, hid ▸ hsplit, htable, hbefore, hafter,
        (replaceCall_retimes hold).callsAndPlays, fun hno => absurd (hold.symm.trans hno) (by simp), fun _ => ?_⟩
      · rw [← hposition]
        exact exec_of_owner_eq h howner
      · rw [← hid]
        exact withdrawn_of_ages (replaceCall_ages old (loadedCall k d r old.partner) s0)

end Sys2Proof.Machine


/-! PROOFS. TTU's part of a second: the cues evaluated, the unconfirmed completions (R24, R44 to R51). -/

namespace Sys2Proof.Machine

open Sys2Proof.Claims

/-! ### A cue that fires -/

theorem suppresses_iff (m : Mode) : suppresses m = true ↔ m = .night ∨ m = .winding ∨ ∃ h, m = .nightAlert h := by
  cases m with
  | night => exact ⟨fun _ => .inl rfl, fun _ => rfl⟩
  | winding => exact ⟨fun _ => .inr (.inl rfl), fun _ => rfl⟩
  | nightAlert h => exact ⟨fun _ => .inr (.inr ⟨h, rfl⟩), fun _ => rfl⟩
  | opn | warming g e => exact ⟨nofun, fun h => by obtain h | h | ⟨_, h⟩ := h <;> cases h⟩

theorem suppresses_eq_false {m : Mode} (h : m = .opn ∨ ∃ g e, m = .warming g e) : suppresses m = false := by
  obtain rfl | ⟨g, e, rfl⟩ := h <;> rfl

theorem cueTarget_eq (s : State) (c : Call) (i : Nat) (q : Cue) (t : Int) : cueTarget s c q = (cueAnnouncement s c i q t).target := by
  unfold cueTarget cueAnnouncement
  cases c.previous <;> cases q.targetKind <;> rfl

theorem cueTarget_of_zone {s t : State} (h : t.zone = s.zone) (c : Call) (q : Cue) : cueTarget t c q = cueTarget s c q := by
  have hexact : exactPair t = exactPair s := by
    unfold exactPair
    rw [h]
  unfold cueTarget
  rw [hexact]

theorem modifyCall_zone (id : Nat) (f : Call → Call) (s : State) : (s.modifyCall id f).zone = s.zone := rfl

theorem cueProto_eq (s : State) (c : Call) (i : Nat) (q : Cue) (t : Int) (id j : Nat) (m : Mark) :
    cueProto (setMark id j m s) c i q t = cueAnnouncement s c i q t := by
  have hzone : (setMark id j m s).zone = s.zone := modifyCall_zone id _ s
  unfold cueProto
  rw [cueTarget_of_zone hzone, cueTarget_eq s c i q t]
  rfl

section
variable {s : State} {c : Call} {i : Nat} {q : Cue} {t : Int}

theorem fireCue_suppressed (h : suppresses s.smc.mode = true) : fireCue c i q t s =
    generate (.cueFired c.id i q.anchor t 0 true 0) (setMark c.id i .fired s) := if_pos h

theorem fireCue_created (h : suppresses s.smc.mode = false) {k : Created × State}
    (hk : create (cueAnnouncement s c i q t) (setMark c.id i .fired s) = k) : fireCue c i q t s =
      generate (.cueFired c.id i q.anchor t (createdId k.1) false (createdZones k.1))
        (reportDropped c.id i k.1 (afterCreation (cueAnnouncement s c i q t) k)) := by
  have hmode : ¬ suppresses (setMark c.id i .fired s).smc.mode = true := by
    rw [Bool.not_eq_true]
    exact h
  unfold fireCue
  dsimp only
  rw [if_neg hmode, cueProto_eq, createWhole_eq, hk]

/-- A cue that fires is reported with its announcement, or as suppressed (R49 to R51). -/
theorem fireCue_fired (s : State) (c : Call) (i : Nat) (q : Cue) (t : Int) : Fired s c i q t (fireCue c i q t s) := by
  refine ⟨fun hquiet => fireCue_suppressed ((suppresses_iff _).mpr hquiet), fun hday => ?_⟩
  have hfired := fireCue_created (c := c) (i := i) (q := q) (t := t) (suppresses_eq_false hday) rfl
  dsimp only
  generalize create (cueAnnouncement s c i q t) (setMark c.id i .fired s) = k at hfired ⊢
  rw [hfired]
  refine ⟨fun a n hk => ?_, fun hk => ?_, fun n hk => ?_⟩
  · rw [hk]
    rfl
  · rw [hk]
    rfl
  · rw [hk]
    rfl

theorem created_zero_iff {x : Slot} (hs : s.asc.slots.length ≤ 64) :
    createdId (create x s).1 = 0 ↔ createdZones (create x s).1 = 0 := by
  cases hk : (create x s).1 with
  | kept a k =>
    have hid := (create_kept_id hk hs).1
    obtain ⟨-, -, -, hplaced⟩ := create_kept hk
    simp only [createdId, createdZones]
    omega
  | storeFull => exact Iff.rfl
  | noTarget n => exact Iff.rfl

/-- By day the cue that fires is reported with what it created, after work on announcements. -/
theorem fireCue_day (h : s.smc.mode = .opn ∨ ∃ g e, s.smc.mode = .warming g e) : ∃ u announcement zones,
    fireCue c i q t s = generate (.cueFired c.id i q.anchor t announcement false zones) u ∧
      Plays (setMark c.id i .fired s) u ∧ (s.asc.slots.length ≤ 64 → (announcement = 0 ↔ zones = 0)) := by
  refine ⟨_, _, _, fireCue_created (suppresses_eq_false h) rfl, ?_, created_zero_iff (s := setMark c.id i .fired s)⟩
  have hcreated := (createWhole_settles (cueAnnouncement s c i q t) (setMark c.id i .fired s)).toPlays
  rw [createWhole_eq] at hcreated
  generalize create (cueAnnouncement s c i q t) (setMark c.id i .fired s) = k at hcreated ⊢
  refine hcreated.trans ?_
  cases k.1 with
  | kept a n => exact .rfl _
  | storeFull => exact (generate_settles _ _).toPlays
  | noTarget n => exact (generate_settles _ _).toPlays

/-! ### One evaluation -/

theorem anchorTime_eq (c : Call) (q : Cue) : anchorTime c q.anchor = cueBase c q := by
  unfold anchorTime cueBase
  cases q.anchor <;> cases c.kind <;> rfl

theorem trigger_eq (c : Call) (q : Cue) : trigger c q = (cueBase c q).map (fun a : Nat => (a : Int) + q.offset) := by
  unfold trigger
  rw [anchorTime_eq]
  cases cueBase c q <;> rfl

theorem evaluateCue_of_live {id a : Nat} (hc : s.call? id = some c) (hq : (s.plan c.plan).cues[i]? = some q)
    (ha : cueBase c q = some a) (hday : c.day = .current) (hlive : c.state = .planned ∨ c.state = .atPlatform)
    (hmark : markOf c i = .unfired) : evaluateCue id i s =
      if (s.clock.service : Int) < (a : Int) + q.offset then s
      else if (s.clock.service : Int) - ((a : Int) + q.offset) ≤ q.late then fireCue c i q ((a : Int) + q.offset) s
      else generate (.cueMissed id i ((a : Int) + q.offset) s.clock.service) (setMark id i .missed s) := by
  have htrigger : trigger c q = some ((a : Int) + q.offset) := by rw [trigger_eq, ha, Option.map_some]
  unfold evaluateCue
  rw [hc]
  dsimp only
  rw [hq]
  dsimp only
  rw [if_pos ⟨(isLiveCurrent_iff c).mpr ⟨hday, hlive⟩, hmark⟩, htrigger]

theorem fireEventCue_of_found {id : Nat} {a : Anchor} {now : Nat} (hc : s.call? id = some c)
    (hq : (s.plan c.plan).cues[i]? = some q) : fireEventCue id a now i s =
      if c.day = .current ∧ q.anchor = a ∧ markOf c i = .unfired then fireCue c i q now s else s := by
  unfold fireEventCue
  rw [hc]
  dsimp only
  rw [hq]

end

/-! ### The evaluation of a second -/

/-- What the evaluation of a second makes of the mark at position `i` (R45, R46). -/
def evaluated (s : State) (c : Call) (i : Nat) : Option Mark :=
  (s.plan c.plan).cues[i]?.bind (fun q =>
    if isLiveCurrent c ∧ markOf c i = .unfired then
      (trigger c q).bind (fun t =>
        if (s.clock.service : Int) < t then none
        else if (s.clock.service : Int) - t ≤ q.late then some .fired else some .missed)
    else none)

theorem evaluated_of_idle {s : State} {c : Call} (h : isLiveCurrent c = false) (i : Nat) : evaluated s c i = none := by
  unfold evaluated
  cases (s.plan c.plan).cues[i]? with
  | none => rfl
  | some q => exact if_neg fun hlive => by rw [h] at hlive; exact Bool.false_ne_true hlive.1

theorem judged_eq (s : State) (c : Call) (i : Nat) : (evaluated s c i).getD (markOf c i) = judged s c i := by
  unfold evaluated judged
  cases hq : (s.plan c.plan).cues[i]? with
  | none => rfl
  | some q =>
    rw [Option.bind_some, Option.bind_some]
    rw [trigger_eq]
    cases hbase : cueBase c q with
    | none =>
      dsimp only [Option.map_none, Option.bind_none]
      rw [ite_self]
      rfl
    | some a =>
      dsimp only [Option.map_some, Option.bind_some]
      by_cases hlive : isLiveCurrent c = true ∧ markOf c i = .unfired
      · obtain ⟨hday, hstate⟩ := (isLiveCurrent_iff c).mp hlive.1
        have hstated : c.day = .current ∧ (c.state = .planned ∨ c.state = .atPlatform) ∧ markOf c i = .unfired :=
          ⟨hday, hstate, hlive.2⟩
        rw [if_pos hlive, if_pos hstated, hlive.2]
        by_cases hbefore : (s.clock.service : Int) < (a : Int) + q.offset
        · rw [if_pos hbefore, if_pos (sub_neg.mpr hbefore)]
          rfl
        · rw [if_neg hbefore, if_neg (mt sub_neg.mp hbefore)]
          by_cases hlate : (s.clock.service : Int) - ((a : Int) + q.offset) ≤ q.late
          · rw [if_pos hlate, if_pos hlate]
            rfl
          · rw [if_neg hlate, if_neg hlate]
            rfl
      · rw [if_neg hlive, if_neg fun h => hlive ⟨(isLiveCurrent_iff c).mpr ⟨h.1, h.2.1⟩, h.2.2⟩]
        rfl

theorem evaluated_congr {s t : State} {c : Call} {g : List Mark → List Mark} {i : Nat} (hplans : t.ttu.plans = s.ttu.plans)
    (hclock : t.clock = s.clock) (hmark : (g c.marks).getD i .unfired = c.marks.getD i .unfired) :
    evaluated t (withMarks g c) i = evaluated s c i := by
  have hplan : t.plan (withMarks g c).plan = s.plan c.plan := congrArg (List.getD · c.plan coldPlan) hplans
  have hkept : markOf (withMarks g c) i = markOf c i := hmark
  unfold evaluated
  rw [hplan, hkept, hclock]
  rfl

theorem evaluateCue_marker (id : Nat) : Marker id (evaluateCue id) evaluated where
  ttu {s c} i hc := by
    unfold evaluateCue evaluated
    rw [hc]
    dsimp only
    cases (s.plan c.plan).cues[i]? with
    | none => exact (remarked_id id s.ttu).symm
    | some q =>
      dsimp only [Option.bind_some]
      split
      · cases trigger c q with
        | none => exact (remarked_id id s.ttu).symm
        | some t =>
          dsimp only [Option.bind_some]
          split
          · exact (remarked_id id s.ttu).symm
          · split
            · rw [fireCue_ttu, (call?_mem hc).2]
              exact setMark_ttu ..
            · exact setMark_ttu ..
      · exact (remarked_id id s.ttu).symm
  clock i s := (evaluateCue_retimes id i s).rest.clock
  congr := evaluated_congr

/-- The table after the evaluation of the calls `ids`. -/
theorem evaluate_calls : ∀ {ids : List Nat} {s : State}, (s.ttu.calls.map Call.id).Nodup → ids.Nodup →
    (∀ id ∈ ids, id ∈ s.ttu.calls.map Call.id) →
    (forEach ids (fun id => forEach cuePositions (evaluateCue id)) s).ttu.calls = s.ttu.calls.map
      (fun x => if x.id ∈ ids then withMarks (markAll (evaluated s x) cuePositions) x else x)
  | [], s, _, _, _ => ((List.map_congr_left fun x _ => if_neg List.not_mem_nil).trans (List.map_id _)).symm
  | id :: ids, s, hs, hids, hfound => by
    obtain ⟨hid, hrest⟩ := List.nodup_cons.mp hids
    obtain ⟨hmem, hmems⟩ := List.forall_mem_cons.mp hfound
    obtain ⟨c, hcmem, hcid⟩ := List.mem_map.mp hmem
    obtain ⟨d, hd⟩ : ∃ d, s.call? id = some d := Option.isSome_iff_exists.mp
      (List.find?_isSome.mpr ⟨c, hcmem, by simpa using hcid⟩)
    obtain ⟨hdmem, hdid⟩ := call?_mem hd
    obtain ⟨httu, hclock⟩ := (evaluateCue_marker id).forEach cuePositions_nodup hd
    change (forEach ids (fun id => forEach cuePositions (evaluateCue id)) (forEach cuePositions (evaluateCue id) s)).ttu.calls = _
    generalize forEach cuePositions (evaluateCue id) s = u at httu hclock ⊢
    have hcalls : u.ttu.calls = s.ttu.calls.map
        (fun x => if x.id = id then withMarks (markAll (evaluated s d) cuePositions) x else x) := congrArg Ttu.calls httu
    have hkept : u.ttu.calls.map Call.id = s.ttu.calls.map Call.id := by
      rw [hcalls]
      exact ids_map fun x _ => by split <;> rfl
    rw [evaluate_calls (hkept ▸ hs) hrest (hkept ▸ hmems), hcalls, List.map_map]
    refine List.map_congr_left fun x hx => ?_
    rw [Function.comp_apply]
    by_cases hxid : x.id = id
    · have hxd : x = d := List.inj_on_of_nodup_map hs hx hdmem (hxid.trans hdid.symm)
      have hout : ¬ (withMarks (markAll (evaluated s d) cuePositions) x).id ∈ ids := fun h => hid (hxid ▸ h)
      rw [if_pos hxid, if_neg hout, if_pos (hxid ▸ List.mem_cons_self), hxd]
    · rw [if_neg hxid]
      by_cases hin : x.id ∈ ids
      · have hsame : evaluated u x = evaluated s x := funext fun i =>
          evaluated_congr (g := fun ms => ms) (by rw [httu]; rfl) hclock rfl
        rw [if_pos hin, if_pos (List.mem_cons_of_mem _ hin), hsame]
      · rw [if_neg hin, if_neg fun h => hin ((List.mem_cons.mp h).resolve_left hxid)]

/-- The evaluation of a second judges each mark of an ordered table (R45). -/
theorem evaluateCues_spec {s : State} (h : TableOk s.ttu.calls) :
    (evaluateCues s).ttu.calls.map (fun c => { c with marks := [] }) = s.ttu.calls.map (fun c => { c with marks := [] }) ∧
    ∀ c ∈ s.ttu.calls, c.marks.length = 6 → ∀ x ∈ (evaluateCues s).ttu.calls, x.id = c.id → ∀ i < 6,
      markOf x i = judged s c i := by
  have hcalls := evaluate_calls h.ids (ids := (s.ttu.calls.filter isLiveCurrent).map Call.id)
    (h.ids.sublist (List.filter_sublist.map _)) fun id hid => (List.filter_sublist.map _).subset hid
  change (evaluateCues s).ttu.calls = _ at hcalls
  rw [hcalls]
  refine ⟨?_, fun c hc hlen x hx hid i hi => ?_⟩
  · rw [List.map_map]
    exact List.map_congr_left fun x _ => by rw [Function.comp_apply]; split <;> rfl
  · obtain ⟨y, hy, rfl⟩ := List.mem_map.mp hx
    have hyid : y.id = c.id := by
      split at hid
      · exact hid
      · exact hid
    obtain rfl := h.eq_of_id hy hc hyid
    rw [← judged_eq]
    split
    · exact markAll_getD cuePositions_nodup (mem_cuePositions.mpr hi) (by omega)
    next hout =>
      have hidle : isLiveCurrent y = false := by
        rw [← Bool.not_eq_true]
        exact fun hlive => hout (List.mem_map_of_mem (List.mem_filter.mpr ⟨hy, hlive⟩))
      rw [evaluated_of_idle hidle]
      rfl

/-! ### The unconfirmed completions -/

/-- The record of a call completed without confirmation, of a call whose id is among `ids` (R24). -/
def completedIn (ids : List Nat) (x : Call) : Call :=
  if x.id ∈ ids then { x with state := .complete, unconfirmed := true } else x

theorem core_completedIn (ids : List Nat) (x : Call) : Claims.core (completedIn ids x) = completedIn ids (Claims.core x) := by
  unfold completedIn
  by_cases h : x.id ∈ ids
  · rw [if_pos h, if_pos (show (Claims.core x).id ∈ ids from h)]
    rfl
  · rw [if_neg h, if_neg (show ¬ (Claims.core x).id ∈ ids from h)]

theorem completedIn_completedIn (id : Nat) (ids : List Nat) (x : Call) :
    completedIn ids (completedIn [id] x) = completedIn (id :: ids) x := by
  unfold completedIn
  by_cases hid : x.id = id
  · by_cases hin : id ∈ ids <;> simp [hid, hin]
  · by_cases hin : x.id ∈ ids <;> simp [hid, hin]

theorem completeAll_core : ∀ (cs : List Call) (s : State), (forEach cs completeUnconfirmed s).ttu.calls.map Claims.core =
    s.ttu.calls.map (fun x => Claims.core (completedIn (cs.map Call.id) x))
  | [], s => rfl
  | c :: cs, s => by
    have hstep : (completeUnconfirmed c s).ttu.calls.map Claims.core =
        s.ttu.calls.map (fun x => Claims.core (completedIn [c.id] x)) := by
      rw [completeUnconfirmed_core]
      refine List.map_congr_left fun x _ => ?_
      unfold completedIn
      simp only [List.mem_singleton]
    have hmove : ∀ (ids : List Nat) (xs : List Call),
        xs.map (fun x => Claims.core (completedIn ids x)) = (xs.map Claims.core).map (completedIn ids) := fun ids xs => by
      rw [List.map_map]
      exact List.map_congr_left fun x _ => core_completedIn ids x
    refine (completeAll_core cs (completeUnconfirmed c s)).trans ?_
    rw [hmove, hstep, hmove, List.map_map, hmove]
    exact List.map_congr_left fun x _ => completedIn_completedIn c.id (cs.map Call.id) x

theorem overdueAt_eq (s : State) (c : Call) : (decide (c.day = .current) && decide (c.state = .planned) &&
    decide (confirmationTime c ≤ s.clock.service)) = overdueAt s.clock.service c := by
  unfold overdueAt confirmationTime
  cases c.kind <;> rfl

theorem completions_core {s : State} (h : TableOk s.ttu.calls) : (completions s).ttu.calls.map Claims.core =
    s.ttu.calls.map (fun c => Claims.core
      (if overdueAt s.clock.service c then { c with state := .complete, unconfirmed := true } else c)) := by
  refine (completeAll_core _ s).trans (List.map_congr_left fun x hx => ?_)
  have hmem : x.id ∈ (s.ttu.calls.filter (fun c => decide (c.day = .current) && decide (c.state = .planned) &&
      decide (confirmationTime c ≤ s.clock.service))).map Call.id ↔ overdueAt s.clock.service x = true := by
    simp only [overdueAt_eq]
    refine ⟨fun hin => ?_, fun hover => List.mem_map_of_mem (List.mem_filter.mpr ⟨hx, hover⟩)⟩
    obtain ⟨y, hy, hyx⟩ := List.mem_map.mp hin
    obtain ⟨hycalls, hover⟩ := List.mem_filter.mp hy
    rwa [h.eq_of_id hycalls hx hyx] at hover
  unfold completedIn
  by_cases hover : overdueAt s.clock.service x = true
  · rw [if_pos (hmem.mpr hover), if_pos hover]
  · rw [if_neg fun hin => hover (hmem.mp hin), if_neg hover]

/-- Settles O17. -/
theorem aSecondFiresCuesAndCompletesCalls : Obligations.ASecondFiresCuesAndCompletesCalls := by
  unfold Obligations.ASecondFiresCuesAndCompletesCalls
  refine ⟨fun _ => rfl, fun s hs => ⟨(evaluateCues_retimes s).callsAndPlays, evaluateCues_spec hs⟩,
    fun s id i c q a hc hq ha hday hlive hmark => ?_, fun s id i c q t hc hq => ⟨fun hday hmark => ?_, fun hno => ?_,
      fun a ha => ?_⟩, fun s hs => ⟨forEach_onlyCalls completeUnconfirmed_onlyCalls _ s, completions_core hs⟩⟩
  · have heq := evaluateCue_of_live hc hq ha hday hlive hmark
    have hid := (call?_mem hc).2
    refine ⟨fun hbefore => heq.trans (if_pos hbefore), fun hcome hlate => ?_, fun hcome hin => ?_⟩
    · exact heq.trans ((if_neg (Int.not_lt.mpr hcome)).trans (if_neg (Int.not_le.mpr hlate)))
    · have hfire := heq.trans ((if_neg (Int.not_lt.mpr hcome)).trans (if_pos hin))
      rw [hfire]
      refine ⟨fireCue_fired .., fun hquiet => ?_, fun hopen => ?_⟩
      · rw [← hid]
        exact (fireCue_fired ..).1 hquiet
      · rw [← hid]
        exact fireCue_day hopen
  · rw [fireEventCue_of_found hc hq, if_pos ⟨hday, rfl, hmark⟩]
    exact fireCue_fired ..
  · rw [fireEventCue_of_found hc hq]
    refine if_neg fun h => hno.elim (fun hnext => ?_) fun hne => hne h.2.2
    rw [h.1] at hnext
    cases hnext
  · rw [fireEventCue_of_found hc hq]
    exact if_neg fun h => ha h.2.1.symm

end Sys2Proof.Machine


/-! PROOFS. The tenth and the second of station time (R1 to R3, R9, R10, R30, R108). -/

namespace Sys2Proof.Machine

open Sys2Proof.Claims

/-! ### The call table through the events of run time -/

/-- What the host gave of a call, with its day. -/
def dated (c : Call) : (Nat × CallKind × Nat × Option Nat × Option Nat × Nat × Nat) × DayTag := (schedule c, c.day)

/-- The clock stands, and the table holds the calls it held, in their order, as the host gave them and of their days. -/
structure Steady (s t : State) : Prop where
  clock : t.clock = s.clock
  calls : t.ttu.calls.map dated = s.ttu.calls.map dated

theorem Steady.rfl (s : State) : Steady s s := ⟨Eq.refl _, Eq.refl _⟩

theorem Steady.trans {s t u : State} (h : Steady s t) (g : Steady t u) : Steady s u :=
  ⟨g.clock.trans h.clock, g.calls.trans h.calls⟩

theorem steady_of_ttu {s t : State} (hclock : t.clock = s.clock) (httu : t.ttu = s.ttu) : Steady s t :=
  ⟨hclock, by rw [httu]⟩

theorem Settles.steady {s t : State} (h : Settles s t) : Steady s t := steady_of_ttu h.clock h.ttu

theorem Reroutes.steady {s t : State} (h : Reroutes s t) : Steady s t := steady_of_ttu h.clock h.ttu

theorem steady_of_map {s t : State} {f : Call → Call} (hclock : t.clock = s.clock)
    (h : t.ttu.calls = s.ttu.calls.map f) (hf : ∀ c, dated (f c) = dated c) : Steady s t := by
  refine ⟨hclock, ?_⟩
  rw [h, List.map_map]
  exact List.map_congr_left fun c _ => hf c

theorem steady_of_core {s t : State} {f : Call → Call} (hclock : t.clock = s.clock)
    (h : t.ttu.calls.map Claims.core = s.ttu.calls.map (fun c => Claims.core (f c))) (hf : ∀ c, dated (f c) = dated c) :
    Steady s t := by
  have hcore : ∀ cs : List Call, cs.map dated = (cs.map Claims.core).map dated := fun cs => by
    rw [List.map_map]
    rfl
  refine ⟨hclock, ?_⟩
  rw [hcore, h, List.map_map]
  exact List.map_congr_left fun c _ => hf c

theorem forEach_steady {α : Type} {f : α → State → State} (h : ∀ x s, Steady s (f x s)) :
    ∀ (xs : List α) (s : State), Steady s (forEach xs f s)
  | [], s => .rfl s
  | x :: xs, s => (h x s).trans (forEach_steady h xs (f x s))

theorem generate_steady (n : Notice) (s : State) : Steady s (generate n s) := (generate_settles n s).steady

theorem withPins_steady (x : Pins) (s : State) : Steady s (s.withPins x) := ⟨Eq.refl _, Eq.refl _⟩

theorem withZrt_steady (x : Zrt) (s : State) : Steady s (s.withZrt x) := ⟨Eq.refl _, Eq.refl _⟩

theorem setComposer_steady (c : Composer) (s : State) : Steady s (setComposer c s) := ⟨Eq.refl _, Eq.refl _⟩

theorem schedule_computeTimes (c : Call) : schedule (computeTimes c) = schedule c ∧ (computeTimes c).day = c.day := by
  obtain ⟨_, _, _, _, _, _, h⟩ := computeTimes_touches c
  rw [h]
  exact ⟨rfl, rfl⟩

theorem dated_arrivedAt (a : Actual) (c : Call) : dated (arrivedAt a c) = dated c := by
  obtain ⟨hschedule, hday⟩ := schedule_computeTimes { c with state := .atPlatform, aa := some a }
  unfold dated arrivedAt
  rw [hschedule, hday]
  rfl

theorem dated_ite {p : Prop} [Decidable p] {c d : Call} (h : dated d = dated c) : dated (if p then d else c) = dated c := by
  split
  · exact h
  · rfl

theorem modifyCall_steady {f : Call → Call} (hf : ∀ c, dated (f c) = dated c) (id : Nat) (s : State) :
    Steady s (s.modifyCall id f) :=
  steady_of_map rfl (modifyCall_calls s id f) fun c => dated_ite (hf c)

theorem recomputeConflicts_steady (z : Nat) (leaver : Option Nat) (s : State) :
    Steady s (recomputeConflicts z leaver s) := by
  obtain ⟨f, hf⟩ := recomputeConflicts_map z leaver s
  exact steady_of_map (recomputeConflicts_retimes z leaver s).rest.clock hf fun _ => rfl

theorem arrive_steady (c : Call) (t : Capture) (source : TimeSource) (cause : CallCause) (s : State) :
    Steady s (arrive c t source cause s) :=
  steady_of_core (arrive_retimes c t source cause s).rest.clock (arrive_core c t source cause s)
    fun x => dated_ite (dated_arrivedAt _ x)

theorem depart_steady (c : Call) (t : Capture) (source : TimeSource) (cause : CallCause) (s : State) :
    Steady s (depart c t source cause s) :=
  steady_of_core (depart_retimes c t source cause s).rest.clock (depart_core c t source cause s) fun _ => dated_ite rfl

theorem dated_bare (id : Nat) (c : Call) : dated (bare id c) = dated c := by
  unfold bare
  split <;> rfl

theorem fireEventCues_steady (id : Nat) (a : Anchor) (t : Nat) (s : State) : Steady s (fireEventCues id a t s) := by
  have hbare : ∀ cs : List Call, cs.map dated = (cs.map (bare id)).map dated := fun cs => by
    rw [List.map_map]
    exact List.map_congr_left fun c _ => (dated_bare id c).symm
  refine ⟨(fireEventCues_retimes id a t s).rest.clock, ?_⟩
  rw [hbare, fireEventCues_bare, ← hbare]

theorem evaluateCue_steady (id i : Nat) (s : State) : Steady s (evaluateCue id i s) := by
  cases hc : s.call? id with
  | none =>
    have hsame : evaluateCue id i s = s := by
      unfold evaluateCue
      rw [hc]
    rw [hsame]
    exact .rfl s
  | some c =>
    exact steady_of_map (evaluateCue_retimes id i s).rest.clock
      (congrArg Ttu.calls ((evaluateCue_marker id).ttu i hc)) fun _ => dated_ite rfl

theorem evaluateCues_steady (s : State) : Steady s (evaluateCues s) :=
  forEach_steady (fun id => forEach_steady (evaluateCue_steady id) _) _ s

theorem completions_steady (s : State) : Steady s (completions s) :=
  steady_of_core (completions_retimes s).rest.clock (completeAll_core _ s) fun _ => dated_ite rfl

/-! ### The events of run time -/

theorem handEdge_steady (f : InputFunction) (active : Bool) (t : Capture) (n : Nat) (s : State) :
    Steady s (handEdge f active t n s) := by
  unfold handEdge
  split
  · unfold trainActive
    split
    · exact generate_steady _ s
    · split
      · exact arrive_steady ..
      · exact generate_steady _ s
  · unfold trainInactive
    split
    · exact depart_steady ..
    · exact generate_steady _ s
  · unfold dispatchActive
    split
    · exact generate_steady _ s
    · split
      · exact fireEventCues_steady ..
      · exact generate_steady _ s
  · exact (closureActive_reroutes _ s).steady
  · exact (closureInactive_reroutes _ _ s).steady
  · exact (panelActive_reroutes _ _ s).steady
  · exact .rfl s

theorem takeExpiry_steady (n : Nat) (s : State) : Steady s (takeExpiry n s) := by
  have hawake : ∀ level, Steady s (woken n (turned n level s)) := fun level =>
    steady_of_ttu (awake_plays n level s).clock (awake_plays n level s).ttu
  unfold takeExpiry
  split
  · split
    · rw [expireTo_eq]
      refine Steady.trans ?_ (settle_settles _).steady
      split
      · exact hawake _
      · exact (hawake _).trans (handEdge_steady ..)
    · exact .rfl s
  · exact .rfl s

theorem takeCheckEnd_steady (s : State) : Steady s (takeCheckEnd s) := by
  unfold takeCheckEnd completeCheck
  split
  · split
    · exact ((checkContent_settles _ _ _ s).steady.trans (setComposer_steady _ _)).trans (generate_steady _ _)
    · exact .rfl s
  · exact .rfl s

theorem takeSamples_steady (readings : List Int) (s : State) : Steady s (takeSamples readings s) := by
  unfold takeSamples
  split
  · refine (withZrt_steady _ s).trans (forEach_steady (fun z u => ?_) allZones _)
    unfold sampleZone
    split
    · exact withZrt_steady _ u
    · exact .rfl u
  · exact .rfl s

theorem takeOverdue_steady (s : State) : Steady s (takeOverdue s) := by
  have hruns : Steady s (forEach allChannels (fun c s => takeGapEnd c (takePhraseEnd c s)) (takeCheckEnd s)) :=
    (takeCheckEnd_steady s).trans (forEach_steady (fun c u =>
      ((takePhraseEnd_settles c u).trans (takeGapEnd_settles c _)).steady) _ _)
  unfold takeOverdue
  dsimp only
  generalize forEach allChannels (fun c s => takeGapEnd c (takePhraseEnd c s)) (takeCheckEnd s) = u at hruns ⊢
  have hrests : Steady s (if restsDue u then endRests u else u) := by
    split
    · exact hruns.trans (endRests_settles u).steady
    · exact hruns
  generalize (if restsDue u then endRests u else u) = v at hrests ⊢
  have hpulses := hrests.trans (forEach_steady (fun z u => (takePulseEnd_settles z u).steady) allZones v)
  generalize forEach allZones takePulseEnd v = w at hpulses ⊢
  exact (hpulses.trans ((takeWarmUpEnd_settles w).trans (takeHoldExpiry_settles _)).steady).trans
    ((takeSamples_steady ..).trans (forEach_steady takeExpiry_steady ..))

theorem takeTimed_steady (e : TimedEvent) (s : State) : Steady s (takeTimed e s) := by
  cases e with
  | composeCheck => exact takeCheckEnd_steady s
  | phraseEnd c => exact (takePhraseEnd_settles c s).steady
  | gapEnd c => exact (takeGapEnd_settles c s).steady
  | restEnd z a => exact (takeRestEnd_settles z a s).steady
  | pulseEnd z => exact (takePulseEnd_settles z s).steady
  | warmUpEnd => exact (takeWarmUpEnd_settles s).steady
  | holdExpiry => exact (takeHoldExpiry_settles s).steady
  | sample readings => exact (withPins_steady _ s).trans (takeSamples_steady readings _)

/-! ### Nothing due -/

theorem takePhases_of_nothingDue {s : State} (h : NothingDue s) (c : Nat) : takeGapEnd c (takePhraseEnd c s) = s := by
  cases hc : s.channel c with
  | none => rw [takePhraseEnd_of_idle hc, takeGapEnd_of_idle hc]
  | some r =>
    have hnot : ¬ reached r.phaseEnd s.now = true := by
      rw [State.now, h.phases c r hc]
      exact Bool.false_ne_true
    have hphrase : takePhraseEnd c s = s := (takePhraseEnd_eq hc).trans (if_neg fun hdue => hnot hdue.2)
    rw [hphrase]
    exact (takeGapEnd_eq hc).trans (if_neg fun hdue => hnot hdue.2)

theorem takeCheckEnd_of_nothingDue {s : State} (h : NothingDue s) : takeCheckEnd s = s := by
  refine if_neg ?_
  rw [Bool.not_eq_true]
  unfold checkOverdue
  split
  next b hd tag start hc => exact h.check b hd tag start hc
  · rfl

theorem restsDue_of_nothingDue {s : State} (h : NothingDue s) : restsDue s = false := by
  unfold restsDue
  refine List.any_eq_false.mpr fun z hz => ?_
  rw [Bool.not_eq_true]
  refine List.any_eq_false.mpr fun p hp => ?_
  rw [Bool.not_eq_true]
  unfold restDue
  split
  next t hc => exact h.rests z hz p hp t hc
  · rfl

theorem takePulseEnd_of_nothingDue {s : State} (h : NothingDue s) (z : Nat) : takePulseEnd z s = s := by
  refine takePulseEnd_of_notDue ?_
  cases hp : (s.zone z).pulseEnd with
  | none => exact .inl rfl
  | some t => exact .inr ⟨t, rfl, h.pulses z t hp⟩

theorem takeOverdue_of_nothingDue {s : State} (h : NothingDue s) : takeOverdue s = s := by
  have hphases : forEach allChannels (fun c s => takeGapEnd c (takePhraseEnd c s)) s = s :=
    forEach_fixed fun c _ => takePhases_of_nothingDue h c
  have hrests : ¬ restsDue s = true := by
    rw [restsDue_of_nothingDue h]
    exact Bool.false_ne_true
  have hpulses : forEach allZones takePulseEnd s = s := forEach_fixed fun z _ => takePulseEnd_of_nothingDue h z
  have hsamples : takeSamples s.pins.noise s = s := if_neg (by rw [h.ambient]; exact Bool.false_ne_true)
  unfold takeOverdue
  dsimp only
  rw [takeCheckEnd_of_nothingDue h, hphases, if_neg hrests, hpulses, takeWarmUpEnd_of_notDue h.warmUp,
    takeHoldExpiry_of_notDue h.hold, hsamples, takeExpiries_of_noneDue h.debounces]

/-! ### The rollover -/

/-- The calls that a rollover leaves of a table: those whose id no CURRENT call has (R30). -/
def purged (ps : List ((Nat × CallKind × Nat × Option Nat × Option Nat × Nat × Nat) × DayTag)) :
    List ((Nat × CallKind × Nat × Option Nat × Option Nat × Nat × Nat) × DayTag) :=
  ps.filter (fun p => decide (p.1.1 ∉ (ps.filter (fun p => decide (p.2 = .current))).map (fun p => p.1.1)))

theorem purged_map_dated (cs : List Call) : purged (cs.map dated) = (cs.filter
    (fun c => decide (c.id ∉ (cs.filter (fun c => decide (c.day = .current))).map Call.id))).map dated := by
  unfold purged
  rw [List.filter_map, List.filter_map, List.map_map]
  rfl

theorem lapse_steady (c : Call) (s : State) : Steady s (lapse c s) := by
  unfold lapse
  exact (((modifyCall_steady (f := fun c => { c with state := .lapsed }) (fun _ => rfl) c.id s).trans
    (withdrawCall_settles c.id _).steady).trans (generate_steady _ _)).trans (recomputeConflicts_steady _ _ _)

/-- The rollover leaves the calls of no CURRENT id, in their order and as CURRENT calls (R30). -/
theorem rolloverTable_dated (s : State) : (rolloverTable s).ttu.calls.map dated =
    (purged (s.ttu.calls.map dated)).map (fun p => (p.1, .current)) := by
  have hpromoted : ∀ c, dated (promoted c) = (schedule c, .current) := fun c => by
    obtain ⟨hschedule, hday⟩ := schedule_computeTimes { c with day := .current }
    unfold dated promoted
    rw [hschedule, hday]
    rfl
  have hlapse := (forEach_steady lapse_steady (s.ttu.calls.filter isLiveCurrent) s).calls
  change (lapseAll s).ttu.calls.map dated = _ at hlapse
  unfold rolloverTable
  generalize allZones = zones
  refine (forEach_steady (fun z u => recomputeConflicts_steady z none u) zones _).calls.trans ?_
  calc (promoteAll (purgeAll (lapseAll s))).ttu.calls.map dated
      = (purgeAll (lapseAll s)).ttu.calls.map (fun c => (schedule c, .current)) := by
        refine (List.map_map ..).trans (List.map_congr_left fun c _ => hpromoted c)
    _ = ((purgeAll (lapseAll s)).ttu.calls.map dated).map (fun p => (p.1, .current)) := by
        rw [List.map_map]
        rfl
    _ = (purged (s.ttu.calls.map dated)).map (fun p => (p.1, .current)) := by
        rw [purgeAll_calls, ← purged_map_dated, hlapse]

theorem secondTtu_dated (s : State) : (secondTtu true s).ttu.calls.map dated =
    (purged (s.ttu.calls.map dated)).map (fun p => (p.1, .current)) := by
  unfold secondTtu
  rw [if_pos rfl, ← rolloverTable_dated]
  exact (((evaluateCues_steady _).trans (completions_steady _)).trans (settle_settles _).steady).calls

/-- A rollover leaves none but NEXT calls of before, as CURRENT calls. -/
theorem rolled_mem {cs ds : List Call} (h : ds.map dated = (purged (cs.map dated)).map (fun p => (p.1, .current)))
    {c : Call} (hc : c ∈ ds) : c.day = .current ∧ ∃ old ∈ cs, old.id = c.id ∧ old.day = .next ∧ old.zone = c.zone ∧
      old.sa = c.sa ∧ old.sd = c.sd := by
  have hmem := List.mem_map_of_mem (f := dated) hc
  rw [h, purged_map_dated, List.map_map] at hmem
  obtain ⟨old, hold, heq⟩ := List.mem_map.mp hmem
  obtain ⟨hcs, hkept⟩ := List.mem_filter.mp hold
  simp only [Function.comp_apply, dated, schedule, Prod.mk.injEq] at heq
  obtain ⟨⟨hid, -, hzone, hsa, hsd, -⟩, hday⟩ := heq
  refine ⟨hday.symm, old, hcs, hid, ?_, hzone, hsa, hsd⟩
  cases hnext : old.day with
  | next => rfl
  | current =>
    exact absurd (List.mem_map_of_mem (List.mem_filter.mpr ⟨hcs, decide_eq_true hnext⟩)) (of_decide_eq_true hkept)

/-- A rollover of an ordered table leaves the NEXT calls in their order. -/
theorem rolled_schedules {cs ds : List Call} (hids : (cs.map Call.id).Nodup)
    (h : ds.map dated = (purged (cs.map dated)).map (fun p => (p.1, .current))) :
    ds.map schedule = (cs.filter (fun c => decide (c.day = .next))).map schedule := by
  have hnext : cs.filter (fun c => decide (c.id ∉ (cs.filter (fun c => decide (c.day = .current))).map Call.id)) =
      cs.filter (fun c => decide (c.day = .next)) := by
    refine List.filter_congr fun c hc => decide_eq_decide.mpr ⟨fun hout => ?_, fun hday hin => ?_⟩
    · cases hday : c.day with
      | next => rfl
      | current => exact absurd (List.mem_map_of_mem (List.mem_filter.mpr ⟨hc, decide_eq_true hday⟩)) hout
    · obtain ⟨d, hd, hid⟩ := List.mem_map.mp hin
      obtain ⟨hdcs, hcurrent⟩ := List.mem_filter.mp hd
      obtain rfl := List.inj_on_of_nodup_map hids hdcs hc hid
      rw [hday] at hcurrent
      exact absurd hcurrent (by decide)
  calc ds.map schedule = (ds.map dated).map Prod.fst := by rw [List.map_map]; rfl
    _ = (purged (cs.map dated)).map Prod.fst := by rw [h, List.map_map]; rfl
    _ = (cs.filter (fun c => decide (c.day = .next))).map schedule := by
        rw [purged_map_dated, hnext, List.map_map]
        rfl

/-! ### The clock and the delivery of a second -/

theorem isSecond_iff (s : State) : isSecond s.clock = true ↔ SecondNext s := by
  simp only [isSecond, SecondNext, Bool.and_eq_true, Bool.not_eq_true', decide_eq_true_eq, Nat.succ_le_succ_iff]

theorem tenthZrt_eq (r : Zrt) : tenthZrt r = sampleTicked r := by
  unfold tenthZrt sampleTicked
  exact if_congr Nat.succ_lt_succ_iff rfl rfl

theorem tenthClock_of_tenth {s : State} (h : ¬ SecondNext s) : tenthClock s.clock = ticked s.clock := by
  rw [← isSecond_iff] at h
  unfold tenthClock ticked
  rw [if_neg h]

theorem tenthClock_of_second {s : State} (h : SecondNext s) :
    tenthClock s.clock = { s.clock with runTime := s.clock.runTime + 1, prescaler := 0 } := by
  unfold tenthClock
  rw [if_neg (by rw [h.1]; exact Bool.false_ne_true), if_pos ((isSecond_iff s).mpr h)]

theorem advanceClock_of_second {s : State} (h : SecondNext s) : advanceClock (tenthClock s.clock) = seconded s.clock := by
  rw [tenthClock_of_second h]
  unfold advanceClock seconded
  exact if_congr Nat.succ_lt_succ_iff rfl rfl

theorem isRollover_of_second {s : State} (h : SecondNext s) :
    isRollover (tenthClock s.clock) = decide (86399 ≤ s.clock.service) := by
  rw [tenthClock_of_second h]
  exact decide_eq_decide.mpr Nat.succ_le_succ_iff

/-- The state in which the blocks take a second that has come with the clock `c`. -/
def struck (rollover : Bool) (c : Clock) (s : State) : State :=
  if rollover then generate (.clockEvent .rollover none) (s.withClock c) else s.withClock c

theorem struck_settles (rollover : Bool) (c : Clock) (s : State) : Settles (s.withClock c) (struck rollover c s) := by
  unfold struck
  split
  · exact generate_settles _ _
  · exact .rfl _

theorem takeSecond_eq {s v : State} (h : SecondNext s) (hv : v.clock = tenthClock s.clock) (order : DeliveryOrder) :
    takeSecond order v = deliver order (secondTtu (decide (86399 ≤ s.clock.service)))
      (secondZrt (decide (86399 ≤ s.clock.service)) v.asc.created)
      (secondSmc (decide ((seconded s.clock).nightStart = some (seconded s.clock).service))
        (decide ((seconded s.clock).openTime = some (seconded s.clock).service)))
      (struck (decide (86399 ≤ s.clock.service)) (seconded s.clock) v) := by
  unfold takeSecond
  dsimp only
  rw [hv, advanceClock_of_second h, isRollover_of_second h]
  rfl

/-- In every order the part of TTU stands between the parts of the others. -/
theorem deliver_split {K : State → State → Prop} (hrfl : ∀ s, K s s) (htrans : ∀ {s t u}, K s t → K t u → K s u)
    {ttu zrt smc : State → State} (hzrt : ∀ s, K s (zrt s)) (hsmc : ∀ s, K s (smc s)) (order : DeliveryOrder) (s : State) :
    ∃ u, K s u ∧ K (ttu u) (deliver order ttu zrt smc s) := by
  cases order with
  | ttuZrtSmc => exact ⟨s, hrfl s, htrans (hzrt _) (hsmc _)⟩
  | ttuSmcZrt => exact ⟨s, hrfl s, htrans (hsmc _) (hzrt _)⟩
  | zrtTtuSmc => exact ⟨zrt s, hzrt s, hsmc _⟩
  | zrtSmcTtu => exact ⟨smc (zrt s), htrans (hzrt s) (hsmc _), hrfl _⟩
  | smcTtuZrt => exact ⟨smc s, hsmc s, hzrt _⟩
  | smcZrtTtu => exact ⟨zrt (smc s), htrans (hsmc s) (hzrt _), hrfl _⟩

section
variable {s : State}

theorem takeSecond_settles_ttu {v : State} (h : SecondNext s) (hv : v.clock = tenthClock s.clock) (order : DeliveryOrder) :
    ∃ u, Settles (v.withClock (seconded s.clock)) u ∧
      Settles (secondTtu (decide (86399 ≤ s.clock.service)) u) (takeSecond order v) := by
  obtain ⟨u, hbefore, hafter⟩ := deliver_split Settles.rfl Settles.trans (ttu := secondTtu (decide (86399 ≤ s.clock.service)))
    (secondZrt_settles (decide (86399 ≤ s.clock.service)) v.asc.created)
    (secondSmc_settles (decide ((seconded s.clock).nightStart = some (seconded s.clock).service))
        (decide ((seconded s.clock).openTime = some (seconded s.clock).service))) order
    (struck (decide (86399 ≤ s.clock.service)) (seconded s.clock) v)
  rw [takeSecond_eq h hv]
  exact ⟨u, (struck_settles _ _ v).trans hbefore, hafter⟩

theorem takeSecond_clock {v : State} (h : SecondNext s) (hv : v.clock = tenthClock s.clock) (order : DeliveryOrder) :
    (takeSecond order v).clock = seconded s.clock := by
  obtain ⟨u, hbefore, hafter⟩ := takeSecond_settles_ttu h hv order
  exact (hafter.clock.trans (secondTtu_retimes _ u).rest.clock).trans hbefore.clock

theorem takeSecond_retimes {v : State} (h : SecondNext s) (hv : v.clock = tenthClock s.clock) (order : DeliveryOrder) :
    Retimes (v.withClock (seconded s.clock)) (takeSecond order v) := by
  obtain ⟨u, hbefore, hafter⟩ := takeSecond_settles_ttu h hv order
  exact hbefore.retimes.trans ((secondTtu_retimes _ u).trans hafter.retimes)

theorem takeSecond_rolled {v : State} (h : SecondNext s) (hv : v.clock = tenthClock s.clock) (order : DeliveryOrder)
    (hroll : s.clock.service = 86399) : (takeSecond order v).ttu.calls.map dated =
      (purged (v.ttu.calls.map dated)).map (fun p => (p.1, .current)) := by
  obtain ⟨u, hbefore, hafter⟩ := takeSecond_settles_ttu h hv order
  rw [hroll, decide_eq_true (le_refl 86399)] at hafter
  have hcalls := hafter.steady.calls.trans (secondTtu_dated u)
  rwa [hbefore.ttu] at hcalls

/-- The tenth of a second, the events of run time before it taken. -/
theorem beforeSecond_steady (early : List TimedEvent) (s : State) :
    (forEach early takeTimed (countTenth (takeOverdue s))).clock = tenthClock s.clock ∧
    (forEach early takeTimed (countTenth (takeOverdue s))).ttu.calls.map dated = s.ttu.calls.map dated := by
  have hoverdue := takeOverdue_steady s
  generalize takeOverdue s = u at hoverdue ⊢
  have hearly := forEach_steady takeTimed_steady early (countTenth u)
  exact ⟨hearly.clock.trans (congrArg tenthClock hoverdue.clock), hearly.calls.trans hoverdue.calls⟩

theorem exec_tenth (hs : s.resetLine = false) : exec .tenthOfRunTime s = .next (takeTenth s) :=
  exec_of_running rfl (fun _ => rfl) hs

theorem exec_second_of_second (hs : s.resetLine = false) (h : SecondNext s) (order : SecondOrder) :
    exec (.secondOfStationTime order) s = .next (secondTenth order (takeOverdue s)) := by
  have hrun : exec (.secondOfStationTime order) s = execSecondOfStationTime order s := rfl
  rw [hrun, execSecondOfStationTime, if_pos ⟨hs, (isSecond_iff s).mpr h⟩]

theorem exec_second_of_tenth (h : ¬ SecondNext s) (order : SecondOrder) :
    exec (.secondOfStationTime order) s = .next s := by
  have hrun : exec (.secondOfStationTime order) s = execSecondOfStationTime order s := rfl
  rw [hrun, execSecondOfStationTime, if_neg fun hnext => h ((isSecond_iff s).mp hnext.2)]

theorem countTenth_clock (s : State) : (countTenth s).clock = tenthClock s.clock := rfl

theorem takeTenth_of_tenth (h : ¬ SecondNext s) : takeTenth s = countTenth (takeOverdue s) := by
  have hclock : ¬ isSecond (takeOverdue s).clock = true := by
    rw [(takeOverdue_steady s).clock, isSecond_iff]
    exact h
  unfold takeTenth
  dsimp only
  rw [if_neg hclock]

theorem takeTenth_of_second (h : SecondNext s) :
    takeTenth s = secondTenth { early := [], blocks := .ttuZrtSmc } (takeOverdue s) := by
  have hclock : isSecond (takeOverdue s).clock = true := by
    rw [(takeOverdue_steady s).clock, isSecond_iff]
    exact h
  unfold takeTenth
  dsimp only
  rw [if_pos hclock]

end

/-- Settles O16. -/
theorem tenthsAndSecondsAdvanceTime : Obligations.TenthsAndSecondsAdvanceTime := by
  unfold Obligations.TenthsAndSecondsAdvanceTime
  refine fun s hs => ⟨fun htenth => ⟨⟨_, exec_tenth hs, ?_⟩, fun hidle => ?_, fun order => ?_⟩,
    fun hsecond => ⟨?_, fun order => ⟨_, exec_second_of_second hs hsecond order, ?_⟩, fun hidle blocks => ?_⟩⟩
  · rw [takeTenth_of_tenth htenth, countTenth_clock, (takeOverdue_steady s).clock, tenthClock_of_tenth htenth]
  · rw [exec_tenth hs, takeTenth_of_tenth htenth, takeOverdue_of_nothingDue hidle]
    unfold countTenth
    rw [tenthClock_of_tenth htenth, tenthZrt_eq]
  · exact exec_second_of_tenth htenth order
  · rw [exec_tenth hs, exec_second_of_second hs hsecond, takeTenth_of_second hsecond]
  · obtain ⟨hclock, hcalls⟩ := beforeSecond_steady order.early s
    have hend := takeSecond_clock hsecond hclock order.blocks
    refine ⟨hend, fun hidle hearly => ?_, fun hroll => ?_⟩
    · have hretimes := takeSecond_retimes hsecond hclock order.blocks
      change CallsAndPlays ((s.withClock (takeSecond order.blocks _).clock).withZrt _) (takeSecond order.blocks _)
      rw [hend]
      rw [hearly, takeOverdue_of_nothingDue hidle] at hretimes ⊢
      rw [← tenthZrt_eq]
      exact hretimes.callsAndPlays
    · have hrolled := takeSecond_rolled hsecond hclock order.blocks hroll
      rw [hcalls] at hrolled
      exact ⟨fun c hc => rolled_mem hrolled hc, fun htable => rolled_schedules htable.ids hrolled⟩
  · rw [exec_second_of_second hs hsecond, takeOverdue_of_nothingDue hidle, ← tenthZrt_eq]
    exact congrArg _ (takeSecond_eq hsecond (countTenth_clock s) blocks)

end Sys2Proof.Machine
